-- ==== Sys2Proof/Word.lean ====
section
/-!
DEFINITION. The word types of the model: bytes and byte strings. Register fields, counters and stamps are natural
numbers kept below 2^width by the operation that writes them (00_scope.md R3, R8).
-/
namespace Sys2Proof

/-- One byte. -/
abbrev Byte := BitVec 8

/-- A byte string, lowest address first (R3: little-endian fields). -/
abbrev Bytes := List Byte

end Sys2Proof
end

