-- ==== Sys2Proof/Syntax.lean ====
section
/-!
DEFINITION. The commands of the block: one constructor per row of spec/opcode_table.json. The first operand `t` of
every command is the Meridian instant at which it comes (notes/assumptions/2.md). A command descriptor's content is
`Desc` (13_host_interface.md Table 13-2); an event row carries what the environment decides (an instant, a sample,
a current, a level), see notes/assumptions/3.md.
-/
namespace Sys2Proof

/-- Where core M takes a descriptor from (13 R373): a command ring, a CAN request, the SPI mailbox. -/
inductive Src where
  | ring (n : Nat)
  | can (ch : Nat)
  | spi
deriving DecidableEq, Repr

/-- A command descriptor without its opcode (Table 13-2), with the payload bytes read from PAYLOAD. -/
structure Desc where
  /-- the source that the descriptor waits in -/
  src : Src
  /-- FLAGS, bytes 2-3: bit 15 CRIT, bit 14 FENCE, bit 13 AT_FRAME -/
  flags : Nat
  /-- TAG, bytes 4-7 -/
  tag : Nat
  /-- FRAME, bytes 8-15 -/
  frame : Nat
  /-- PAYLOAD, bytes 16-23 -/
  payload : Nat
  /-- PLEN, bytes 24-27 -/
  plen : Nat
  /-- KEY_SLOT, byte 28 -/
  keySlot : Nat
  /-- the reserved bytes 29-31 as one little-endian number -/
  rsv1 : Nat
  /-- COUNTER, bytes 32-35 -/
  counter : Nat
  /-- the reserved bytes 36-39 -/
  rsv2 : Nat
  /-- CHECK, bytes 40-47: the eight octets, octet 0 first (15 R414) -/
  check : Bytes
  /-- PARAMS, bytes 48-63 -/
  params : Bytes
  /-- the PLEN bytes at PAYLOAD in host memory, as a read would return them -/
  data : Bytes
  /-- the payload read ends in an error completion on PCIe (13 R375) -/
  readError : Bool
deriving DecidableEq, Repr

/-- The two access paths to the registers (02 R46). -/
inductive Path where
  | pcie
  | spi
deriving DecidableEq, Repr

/-- An SPI transaction after its operation byte (13 R390): address, length, the data that came before the rising
edge of SPI_CS_N, and the CRC-16 that followed it. -/
structure SpiTx where
  addr : Nat
  len : Nat
  data : Bytes
  crc : Nat
deriving DecidableEq, Repr

/-- What a link frame meets on its way (01 R12, R15): its start character is lost, a received character violates the coding, and
the bits of bytes 1 to 95 that arrive inverted, bit 8 × (byte - 1) + i for bit i of a byte. -/
structure Damage where
  noStart : Bool
  violation : Bool
  flips : List Nat
deriving DecidableEq, Repr

/-- A frame on a CAN bus as the controller completes it (12 R341). -/
structure CanFrame where
  /-- bits 28:0 identifier, bit 29 IDE, bit 30 remote -/
  id : Nat
  /-- DLC byte: bits 3:0 DLC, bit 4 FDF, bit 5 BRS, bit 6 ESI -/
  dlc : Nat
  data : Bytes
deriving DecidableEq, Repr

/-- The result of an error at the head frame of a transmit FIFO (12 R346, R349). -/
inductive TxError where
  /-- an error frame: TEC rises by 8 -/
  | busError
  /-- arbitration lost to another node -/
  | lostArbitration
deriving DecidableEq, Repr

/-- An error seen while receiving (12 R337, R349). -/
inductive RxError where
  /-- a bus error: REC rises by 1 -/
  | busError
  /-- a dominant bit right after the error flag: REC rises by 8 -/
  | dominantAfterFlag
  /-- a recessive res bit: protocol exception -/
  | protocolException
deriving DecidableEq, Repr

/-- What a current-sum overload names (11 R316). -/
inductive Budget where
  | segment (s : Nat)
  | die
deriving DecidableEq, Repr

/-- A field supply as a die judges it (11 R332): VFLD at the POWER die, VFLD at the IO die, a segment supply. -/
inductive Supply where
  | vfldPower
  | vfldIo
  | segment (s : Nat)
deriving DecidableEq, Repr

/-- What the scrub finds at an MRAM word (16 R428-R431). -/
inductive Scrub where
  | clean
  | corrected
  | uncorrectable
  /-- the rewrite of a corrected word does not read back -/
  | rewriteFails
  /-- the last word of the array has been read: a pass ends -/
  | passEnd
deriving DecidableEq, Repr

/-- A reading of one unit: its number (a channel, a bank, a link) and what was read there: a converter code, a voltage in mV, a SOF
instant. -/
structure Reading where
  unit : Nat
  value : Nat
deriving DecidableEq, Repr

/-- What a conversion of the front end sees: the input voltage in nV and the external reference in µV (07 R220, R222). -/
structure AdcReading where
  nv : Int
  ref : Nat
deriving DecidableEq, Repr

/-- What an open-wire run sees: the analog supply in mV, and of each pin compared its voltages in mV (07 R239). -/
structure WireRuns where
  vsa : Nat
  comps : List (Nat × List Nat)
deriving DecidableEq, Repr

/-- What an on-state check of a valve sees: µs since its turn-on, two drain voltages in mV, three converter codes (09 R286). -/
structure OnStateReading where
  since : Nat
  v1 : Nat
  v2 : Nat
  i0 : Nat
  i1 : Nat
  i2 : Nat
deriving DecidableEq, Repr

/-- What a bank's high side shows: µs since it was switched on, its voltage and the supply in mV (09 R288). -/
structure BankReading where
  bank : Nat
  since : Nat
  top : Nat
  sup : Nat
deriving DecidableEq, Repr

/-- A fan's output: its voltage in mV, whether its current stands at the limit, whether it is off (10 R306). -/
structure FanOutReading where
  mv : Nat
  limit : Bool
  off : Bool
deriving DecidableEq, Repr

/-- What a universal channel's frame report reads: an output's current in mA, an input's last samples (11 R321). -/
structure FrameReading where
  current : Nat
  samples : List (Nat × Nat × Nat)
deriving DecidableEq, Repr

/-- A universal output at its limit: the time there in ms and the currents of its group in mA (11 R323, R324). -/
structure OverReading where
  ch : Nat
  ms : Nat
  curs : List Nat
deriving DecidableEq, Repr

/-- An open-load check of a universal output: the group's current in mA, its pin and its supply in mV (11 R327). -/
structure OpenReading where
  cur : Nat
  pin : Nat
  sup : Nat
deriving DecidableEq, Repr

/-- A field supply and its reading in mV (11 R332, R333). -/
structure SupplyReading where
  supply : Supply
  mv : Nat
deriving DecidableEq, Repr

/-- Sums of 1 ms, one list of channel currents in mA each, that a budget names (11 R316). -/
structure BudgetSums where
  what : Budget
  sums : List (List Nat)
deriving DecidableEq, Repr

/-- A failed attempt to send: its SOF sample point and what ended it (12 R346, R348). -/
structure TxFail where
  sof : Nat
  kind : TxError
deriving DecidableEq, Repr

/-- The commands of the block. -/
inductive Instr where
  /-- READ_TIME (R61) -/
  | readTime (t : Nat) (d : Desc)
  /-- SET_SLEW (R44) -/
  | setSlew (t : Nat) (d : Desc)
  /-- SET_CLOCK (R62) -/
  | setClock (t : Nat) (d : Desc)
  /-- READ_ERA (R77) -/
  | readEra (t : Nat) (d : Desc)
  /-- CAPTURE_START (R72) -/
  | captureStart (t : Nat) (d : Desc)
  /-- CAPTURE_STOP (R72) -/
  | captureStop (t : Nat) (d : Desc)
  /-- CAPTURE_READ (R77) -/
  | captureRead (t : Nat) (d : Desc)
  /-- ENTER_REPLAY (R74) -/
  | enterReplay (t : Nat) (d : Desc)
  /-- LEAVE_REPLAY (R76) -/
  | leaveReplay (t : Nat) (d : Desc)
  /-- READ_DIGEST (R70) -/
  | readDigest (t : Nat) (d : Desc)
  /-- REPLAY_RECORD (R75) -/
  | replayRecord (t : Nat) (rec : Bytes)
  /-- MAP_STATUS (R119) -/
  | mapStatus (t : Nat) (d : Desc)
  /-- LOAD_LEGEND (R115) -/
  | loadLegend (t : Nat) (d : Desc)
  /-- READ_LEGEND (R118) -/
  | readLegend (t : Nat) (d : Desc)
  /-- ERASE_LEGEND (R117) -/
  | eraseLegend (t : Nat) (d : Desc)
  /-- MAP_PRIME (R107) -/
  | mapPrime (t : Nat) (d : Desc)
  /-- PRED_READ (R140) -/
  | predRead (t : Nat) (d : Desc)
  /-- BIAS_READ (R153) -/
  | biasRead (t : Nat) (d : Desc)
  /-- BIAS_RESET (R134) -/
  | biasReset (t : Nat) (d : Desc)
  /-- SET_INLET (R126) -/
  | setInlet (t : Nat) (d : Desc)
  /-- PAIR_READ (R132) -/
  | pairRead (t : Nat) (d : Desc)
  /-- MAP_EXPORT (R150) -/
  | mapExport (t : Nat) (d : Desc)
  /-- MAP_SAVE (R151) -/
  | mapSave (t : Nat) (d : Desc)
  /-- MAP_RESTORE (R152) -/
  | mapRestore (t : Nat) (d : Desc)
  /-- DRY_STATUS (R190) -/
  | dryStatus (t : Nat) (d : Desc)
  /-- DISCHARGE_START (R159) -/
  | dischargeStart (t : Nat) (d : Desc)
  /-- DISCHARGE_STOP (R159) -/
  | dischargeStop (t : Nat) (d : Desc)
  /-- SET_RATE (R159) -/
  | setRate (t : Nat) (d : Desc)
  /-- SET_TARGET (R160) -/
  | setTarget (t : Nat) (d : Desc)
  /-- HEAT_PERMIT (R167) -/
  | heatPermit (t : Nat) (d : Desc)
  /-- HEAT_OVERRIDE (R169) -/
  | heatOverride (t : Nat) (d : Desc)
  /-- SET_PLENUM (R168) -/
  | setPlenum (t : Nat) (d : Desc)
  /-- ROUTE_START (R178) -/
  | routeStart (t : Nat) (d : Desc)
  /-- ROUTE_STOP (R179) -/
  | routeStop (t : Nat) (d : Desc)
  /-- BATCH_CONTROL (R175) -/
  | batchControl (t : Nat) (d : Desc)
  /-- DRY_REARM (R186) -/
  | dryRearm (t : Nat) (d : Desc)
  /-- DECISION_READ (R190) -/
  | decisionRead (t : Nat) (d : Desc)
  /-- ROUTE_STATUS (R190) -/
  | routeStatus (t : Nat) (d : Desc)
  /-- HOST_LIMIT_TIMEOUT (R188) -/
  | hostLimitTimeout (t : Nat) (map : Nat)
  /-- STO_STATUS (R213) -/
  | stoStatus (t : Nat) (d : Desc)
  /-- AERATION_MODE (R200) -/
  | aerationMode (t : Nat) (d : Desc)
  /-- AERATION_FORCE (R201) -/
  | aerationForce (t : Nat) (d : Desc)
  /-- STO_ACK (R214) -/
  | stoAck (t : Nat) (d : Desc)
  /-- SENSOR_READ (R213) -/
  | sensorRead (t : Nat) (d : Desc)
  /-- BUDGET_READ (R207) -/
  | budgetRead (t : Nat) (d : Desc)
  /-- NODE_SCAN (R213) -/
  | nodeScan (t : Nat) (d : Desc)
  /-- SEN_READ (R237) -/
  | senRead (t : Nat) (d : Desc)
  /-- SEQ_REQUEST (R228) -/
  | seqRequest (t : Nat) (d : Desc)
  /-- CSW_CLEAR (R245) -/
  | cswClear (t : Nat) (d : Desc)
  /-- CSW_READ (R248) -/
  | cswRead (t : Nat) (d : Desc)
  /-- SEN_COUNTS (R248) -/
  | senCounts (t : Nat) (d : Desc)
  /-- MOIST_SPECTRUM (R268) -/
  | moistSpectrum (t : Nat) (d : Desc)
  /-- MOIST_EMPTY (R268) -/
  | moistEmpty (t : Nat) (d : Desc)
  /-- CHECK_RUN (R262) -/
  | checkRun (t : Nat) (d : Desc)
  /-- CHECK_READ (R268) -/
  | checkRead (t : Nat) (d : Desc)
  /-- CHECK_BASELINE (R265) -/
  | checkBaseline (t : Nat) (d : Desc)
  /-- LIN_TEST (R268) -/
  | linTest (t : Nat) (d : Desc)
  /-- VLV_STATUS (R294) -/
  | vlvStatus (t : Nat) (d : Desc)
  /-- VLV_FORCE (R294) -/
  | vlvForce (t : Nat) (d : Desc)
  /-- VLV_CLEAR (R289) -/
  | vlvClear (t : Nat) (d : Desc)
  /-- VLV_THERM (R294) -/
  | vlvTherm (t : Nat) (d : Desc)
  /-- FAN_STATUS (R314) -/
  | fanStatus (t : Nat) (d : Desc)
  /-- FAN_SET (R298) -/
  | fanSet (t : Nat) (d : Desc)
  /-- FAN_FORCE (R297) -/
  | fanForce (t : Nat) (d : Desc)
  /-- FAN_CLEAR (R307) -/
  | fanClear (t : Nat) (d : Desc)
  /-- FAN_LOOP_SET (R300) -/
  | fanLoopSet (t : Nat) (d : Desc)
  /-- FAN_LEARN (R304) -/
  | fanLearn (t : Nat) (d : Desc)
  /-- UIO_STATUS (R336) -/
  | uioStatus (t : Nat) (d : Desc)
  /-- UIO_SET (R326) -/
  | uioSet (t : Nat) (d : Desc)
  /-- UIO_FORCE (R326) -/
  | uioForce (t : Nat) (d : Desc)
  /-- UIO_CLEAR (R331) -/
  | uioClear (t : Nat) (d : Desc)
  /-- UIO_SUPPLY (R336) -/
  | uioSupply (t : Nat) (d : Desc)
  /-- CAN_STATUS (R358) -/
  | canStatus (t : Nat) (d : Desc)
  /-- CAN_TX_CANCEL (R348) -/
  | canTxCancel (t : Nat) (d : Desc)
  /-- CAN_RECOVER (R351) -/
  | canRecover (t : Nat) (d : Desc)
  /-- CAN_CLAIM (R354) -/
  | canClaim (t : Nat) (d : Desc)
  /-- CAN_RELEASE (R358) -/
  | canRelease (t : Nat) (d : Desc)
  /-- CAN_STRANGERS (R353) -/
  | canStrangers (t : Nat) (d : Desc)
  /-- SYS_INFO (R492) -/
  | sysInfo (t : Nat) (d : Desc)
  /-- LOAD_DATUM (R387) -/
  | loadDatum (t : Nat) (d : Desc)
  /-- ABORT (R379) -/
  | abort (t : Nat) (d : Desc)
  /-- EXCHANGE_READ (R389) -/
  | exchangeRead (t : Nat) (d : Desc)
  /-- SAMPLE_FEED (R388) -/
  | sampleFeed (t : Nat) (d : Desc)
  /-- READ_DATUM (R386) -/
  | readDatum (t : Nat) (d : Desc)
  /-- PWR_STATE (R497) -/
  | pwrState (t : Nat) (d : Desc)
  /-- PWR_RESET (R491) -/
  | pwrReset (t : Nat) (d : Desc)
  /-- PLAN_SET (R494) -/
  | planSet (t : Nat) (d : Desc)
  /-- PLAN_READ (R494) -/
  | planRead (t : Nat) (d : Desc)
  /-- SAFE_RELEASE (R511) -/
  | safeRelease (t : Nat) (d : Desc)
  /-- SAFE_SET (R515) -/
  | safeSet (t : Nat) (d : Desc)
  /-- SAFE_STATUS (R515) -/
  | safeStatus (t : Nat) (d : Desc)
  /-- KEY_STATUS (R412) -/
  | keyStatus (t : Nat) (d : Desc)
  /-- KEY_CHANGE (R422) -/
  | keyChange (t : Nat) (d : Desc)
  /-- KEY_ERASE (R423) -/
  | keyErase (t : Nat) (d : Desc)
  /-- COSIGN_SET (R426) -/
  | cosignSet (t : Nat) (d : Desc)
  /-- COSIGN_READ (R426) -/
  | cosignRead (t : Nat) (d : Desc)
  /-- QUERY_LEDGER (R445) -/
  | queryLedger (t : Nat) (d : Desc)
  /-- SETTINGS_COMMIT (R440) -/
  | settingsCommit (t : Nat) (d : Desc)
  /-- NVS_STATUS (R445) -/
  | nvsStatus (t : Nat) (d : Desc)
  /-- UPD_STATUS (R467) -/
  | updStatus (t : Nat) (d : Desc)
  /-- UPD_BEGIN (R453) -/
  | updBegin (t : Nat) (d : Desc)
  /-- UPD_BLOCK (R454) -/
  | updBlock (t : Nat) (d : Desc)
  /-- UPD_BITMAP (R467) -/
  | updBitmap (t : Nat) (d : Desc)
  /-- UPD_APPLY (R455) -/
  | updApply (t : Nat) (d : Desc)
  /-- UPD_ACTIVATE (R457) -/
  | updActivate (t : Nat) (d : Desc)
  /-- UPD_CONFIRM (R463) -/
  | updConfirm (t : Nat) (d : Desc)
  /-- UPD_FALLBACK (R465) -/
  | updFallback (t : Nat) (d : Desc)
  /-- UPD_CANCEL (R467) -/
  | updCancel (t : Nat) (d : Desc)
  /-- STAGE_BEGIN (R466) -/
  | stageBegin (t : Nat) (d : Desc)
  /-- STAGE_WRITE (R466) -/
  | stageWrite (t : Nat) (d : Desc)
  /-- STAGE_COMMIT (R466) -/
  | stageCommit (t : Nat) (d : Desc)
  /-- STAGE_STATUS (R466) -/
  | stageStatus (t : Nat) (d : Desc)
  /-- GAZ_STATUS (R486) -/
  | gazStatus (t : Nat) (d : Desc)
  /-- GAZ_READ (R471) -/
  | gazRead (t : Nat) (d : Desc)
  /-- GAZ_CLEAR (R479) -/
  | gazClear (t : Nat) (d : Desc)
  /-- LIFE_READ (R483) -/
  | lifeRead (t : Nat) (d : Desc)
  /-- LIFE_REPLACE (R484) -/
  | lifeReplace (t : Nat) (d : Desc)
  /-- MAINT_ACK (R485) -/
  | maintAck (t : Nat) (d : Desc)
  /-- LAST_WORDS_READ (R481) -/
  | lastWordsRead (t : Nat) (d : Desc)
  /-- DOORBELL_WRITE (R366) -/
  | doorbellWrite (t : Nat) (ring v : Nat)
  /-- HEARTBEAT_DOORBELL (R383) -/
  | heartbeatDoorbell (t : Nat) (v : Nat)
  /-- HIF_HBKICK (R383) -/
  | hifHbkick (t : Nat) (v : Nat)
  /-- HIF_HBCFG_WRITE (R383) -/
  | hifHbcfgWrite (t : Nat) (v : Nat)
  /-- HEARTBEAT_TIMEOUT (R383) -/
  | heartbeatTimeout (t : Nat)
  /-- RING_ENABLE (R364) -/
  | ringEnable (t : Nat) (ring v : Nat)
  /-- RING_DISABLE (R365) -/
  | ringDisable (t : Nat) (ring v : Nat)
  /-- HELD_COMPLETION_WRITE (R370) -/
  | heldCompletionWrite (t : Nat) (cq : Nat)
  /-- SPILL_DRAIN (R36) -/
  | spillDrain (t : Nat) (ring : Nat)
  /-- FUNCTION_LEVEL_RESET (R362) -/
  | functionLevelReset (t : Nat)
  /-- PCIE_LINK_RESET (R362) -/
  | pcieLinkReset (t : Nat)
  /-- REGISTER_WRITE (R5) -/
  | registerWrite (t : Nat) (addr size v : Nat)
  /-- MER_NOW_LO_READ (R46) -/
  | merNowLoRead (t : Nat) (path : Path)
  /-- SYS_ILCFG_WRITE (R24) -/
  | sysIlcfgWrite (t : Nat) (n v : Nat)
  /-- SYS_LEDGER_SEL_WRITE (R446) -/
  | sysLedgerSelWrite (t : Nat) (v : Nat)
  /-- GAZ_CFG_WRITE (R474) -/
  | gazCfgWrite (t : Nat) (v : Nat)
  /-- CAN_MBBASE_WRITE (R345) -/
  | canMbbaseWrite (t : Nat) (ch : Nat) (hi : Bool) (v : Nat)
  /-- IC_CLAIM (R398) -/
  | icClaim (t : Nat) (n : Nat)
  /-- IC_DONE (R400) -/
  | icDone (t : Nat) (n v : Nat)
  /-- IC_TRESET (R401) -/
  | icTreset (t : Nat) (v : Nat)
  /-- IC_SWSET (R394) -/
  | icSwset (t : Nat) (v : Nat)
  /-- IC_PEND_CLEAR (R394) -/
  | icPendClear (t : Nat) (w v : Nat)
  /-- IC_SRCCFG_WRITE (R405) -/
  | icSrccfgWrite (t : Nat) (src v : Nat)
  /-- IC_TSLEEP_WRITE (R407) -/
  | icTsleepWrite (t : Nat) (v : Nat)
  /-- IC_SOURCE_EVENT (R394) -/
  | icSourceEvent (t : Nat) (src : Nat) (level : Bool)
  /-- IC_COALESCE_TIMEOUT (R394) -/
  | icCoalesceTimeout (t : Nat) (src : Nat)
  /-- SPI_REGISTER_WRITE (R390) -/
  | spiRegisterWrite (t : Nat) (x : SpiTx)
  /-- SPI_REGISTER_READ (R390) -/
  | spiRegisterRead (t : Nat) (x : SpiTx)
  /-- SPI_BUFFER_WRITE (R390) -/
  | spiBufferWrite (t : Nat) (x : SpiTx)
  /-- SPI_BUFFER_READ (R390) -/
  | spiBufferRead (t : Nat) (x : SpiTx)
  /-- SPI_MAILBOX_POST (R391) -/
  | spiMailboxPost (t : Nat) (x : SpiTx)
  /-- SPI_MAILBOX_READ (R390) -/
  | spiMailboxRead (t : Nat) (x : SpiTx)
  /-- LOGIC_FRAME_SEND (R13) -/
  | logicFrameSend (t : Nat) (link : Nat)
  /-- FAR_FRAME_RECEIVE (R15) -/
  | farFrameReceive (t : Nat) (link : Nat) (dmg : Damage)
  /-- FAR_FRAME_SEND (R16) -/
  | farFrameSend (t : Nat) (link : Nat)
  /-- LOGIC_FRAME_RECEIVE (R16) -/
  | logicFrameReceive (t : Nat) (link : Nat) (dmg : Damage)
  /-- FAR_SILENCE_TIMEOUT (R18) -/
  | farSilenceTimeout (t : Nat) (link : Nat)
  /-- NEAR_SILENCE_TIMEOUT (R22) -/
  | nearSilenceTimeout (t : Nat) (link : Nat)
  /-- LEASE_EXPIRY (R23) -/
  | leaseExpiry (t : Nat) (link : Nat)
  /-- LINK_LOST_SYNTH (R238) -/
  | linkLostSynth (t : Nat) (link : Nat)
  /-- DIE_CONFIG_LOAD (R224) -/
  | dieConfigLoad (t : Nat) (link : Nat)
  /-- SEQUENCER_LOAD (R458) -/
  | sequencerLoad (t : Nat) (link : Nat) (crcOk : Bool)
  /-- SEQ_LOAD_RETRY (R458) -/
  | seqLoadRetry (t : Nat) (link : Nat) (crcOk : Bool)
  /-- FRAME_DECISIONS (R154) -/
  | frameDecisions (t : Nat) (tileUe extUe : List (Nat × List Nat)) (ce : Nat)
  /-- APPLY_INSTANT (R39) -/
  | applyInstant (t : Nat)
  /-- PREDICTION_RUN_END (R147) -/
  | predictionRunEnd (t : Nat) (lane : Nat)
  /-- SEQ_PERIODIC_DUE (R228) -/
  | seqPeriodicDue (t : Nat) (seq : Nat)
  /-- MODULATION_START (R227) -/
  | modulationStart (t : Nat) (list : Nat)
  /-- CONVERSION_END (R227) -/
  | conversionEnd (t : Nat) (list : Nat) (x : AdcReading) (overload : Bool)
  /-- TONE_CONVERSION_END (R254) -/
  | toneConversionEnd (t : Nat) (samples : List (List Int))
  /-- RESULT_RELEASE (R234) -/
  | resultRelease (t : Nat)
  /-- OPEN_WIRE_RUN (R240) -/
  | openWireRun (t : Nat) (list : Nat) (runs : WireRuns)
  /-- IMP_CHECK_START (R242) -/
  | impCheckStart (t : Nat)
  /-- IMP_CHECK_END (R264) -/
  | impCheckEnd (t : Nat) (loop ground : List Int)
  /-- CHECK_ROUND (R262) -/
  | checkRound (t : Nat)
  /-- PIN_RECHECK_DUE (R266) -/
  | pinRecheckDue (t : Nat) (pin : Nat)
  /-- VLV_PEAK_REACHED (R272) -/
  | vlvPeakReached (t : Nat) (x : Reading)
  /-- VLV_DWELL_END (R272) -/
  | vlvDwellEnd (t : Nat) (ch : Nat)
  /-- VLV_HOLD_REACHED (R272) -/
  | vlvHoldReached (t : Nat) (x : Reading)
  /-- VLV_DECAY_END (R273) -/
  | vlvDecayEnd (t : Nat) (x : Reading)
  /-- VLV_PEAK_TIMEOUT (R274) -/
  | vlvPeakTimeout (t : Nat) (ch : Nat)
  /-- VLV_DEFER_TIMEOUT (R279) -/
  | vlvDeferTimeout (t : Nat) (ch : Nat)
  /-- VLV_THERMAL_TICK (R281) -/
  | vlvThermalTick (t : Nat) (i2 : List Nat) (dieTemp : Int)
  /-- VLV_RESISTANCE_MEASURE (R282) -/
  | vlvResistanceMeasure (t : Nat) (ch sumV sumI meanI : Nat)
  /-- VLV_OFF_STATE_TEST (R285) -/
  | vlvOffStateTest (t : Nat) (ch vDrain vBank : Nat)
  /-- VLV_ON_STATE_FAULT (R287) -/
  | vlvOnStateFault (t : Nat) (ch : Nat) (x : OnStateReading)
  /-- VLV_OPEN_TEST (R287) -/
  | vlvOpenTest (t : Nat) (ch iDet vDrain : Nat)
  /-- BANK_SHORT (R288) -/
  | bankShort (t : Nat) (x : BankReading)
  /-- BANK_STUCK_ON (R288) -/
  | bankStuckOn (t : Nat) (x : Reading)
  /-- VLV_MOVEMENT (R290) -/
  | vlvMovement (t : Nat) (ch : Nat) (bins : List Int)
  /-- CLAMP_LOW (R277) -/
  | clampLow (t : Nat) (vfld : Nat)
  /-- FAN_TACH_EDGE (R303) -/
  | fanTachEdge (t : Nat) (ch us : Nat)
  /-- FAN_START_WINDOW_END (R305) -/
  | fanStartWindowEnd (t : Nat) (ch i : Nat)
  /-- FAN_RUN_JUDGE (R306) -/
  | fanRunJudge (t : Nat) (ch i : Nat)
  /-- FAN_OUTPUT_FAULT (R306) -/
  | fanOutputFault (t : Nat) (ch : Nat) (x : FanOutReading)
  /-- FAN_RETRY_TIMEOUT (R307) -/
  | fanRetryTimeout (t : Nat) (ch : Nat)
  /-- FAN_RUN_60S (R307) -/
  | fanRun60s (t : Nat) (ch : Nat)
  /-- FAN_LOOP_TICK (R300) -/
  | fanLoopTick (t : Nat) (ch : Nat)
  /-- FAN_TABLE_TICK (R309) -/
  | fanTableTick (t : Nat) (ch : Nat)
  /-- FAN_TSNS_READ (R310) -/
  | fanTsnsRead (t : Nat) (ch : Nat) (temp : Int)
  /-- FAN_BIN_LEARN (R304) -/
  | fanBinLearn (t : Nat) (ch i : Nat)
  /-- FAN_FRAME_REPORT (R313) -/
  | fanFrameReport (t : Nat) (ch i : Nat)
  /-- UIO_FILTER_CHANGE (R319) -/
  | uioFilterChange (t : Nat) (ch : Nat) (samples : List (Nat × Nat × Nat))
  /-- UIO_WIRE_BREAK (R320) -/
  | uioWireBreak (t : Nat) (ch : Nat) (before : List (Nat × Nat × Nat)) (last : Nat × Nat × Nat)
  /-- UIO_FRAME_REPORT (R321) -/
  | uioFrameReport (t : Nat) (ch : Nat) (x : FrameReading)
  /-- UIO_PWM_PERIOD (R325) -/
  | uioPwmPeriod (t : Nat) (ch : Nat)
  /-- UIO_OVERLOAD (R323) -/
  | uioOverload (t : Nat) (x : OverReading)
  /-- UIO_BUDGET_OVERLOAD (R316) -/
  | uioBudgetOverload (t : Nat) (x : BudgetSums)
  /-- UIO_OPEN_LOAD (R327) -/
  | uioOpenLoad (t : Nat) (ch : Nat) (x : OpenReading)
  /-- UIO_OFF_STATE_TEST (R329) -/
  | uioOffStateTest (t : Nat) (ch pinMv : Nat)
  /-- UIO_CROSSFEED_PULSE (R330) -/
  | uioCrossfeedPulse (t : Nat) (pinMv : Nat)
  /-- FIELD_SUPPLY_OFF (R332) -/
  | fieldSupplyOff (t : Nat) (x : SupplyReading)
  /-- UV_WARN (R332) -/
  | uvWarn (t : Nat) (vfld : Nat)
  /-- UV_WARN_END (R332) -/
  | uvWarnEnd (t : Nat) (vfld : Nat)
  /-- SUPPLY_RECOVERY (R333) -/
  | supplyRecovery (t : Nat) (x : SupplyReading)
  /-- FIELD_DIE_RESET (R334) -/
  | fieldDieReset (t : Nat) (x : Reading)
  /-- FIELD_DIE_RESTART (R509) -/
  | fieldDieRestart (t : Nat) (x : Reading)
  /-- CAN_FRAME_RECEIVE (R341) -/
  | canFrameReceive (t : Nat) (ch sof : Nat) (f : CanFrame)
  /-- CAN_TX_RING_TAKE (R346) -/
  | canTxRingTake (t : Nat) (ch : Nat) (recs : List Bytes)
  /-- CAN_TX_COMPLETE (R346) -/
  | canTxComplete (t : Nat) (ch sof : Nat)
  /-- CAN_TX_ERROR (R349) -/
  | canTxError (t : Nat) (ch : Nat) (x : TxFail)
  /-- CAN_BUS_OFF (R352) -/
  | canBusOff (t : Nat) (ch : Nat) (both : Bool)
  /-- CAN_RECOVERY_DONE (R351) -/
  | canRecoveryDone (t : Nat) (ch : Nat)
  /-- CAN_CLAIM_TIMEOUT (R354) -/
  | canClaimTimeout (t : Nat) (ch : Nat)
  /-- CAN_WAKE_PATTERN (R357) -/
  | canWakePattern (t : Nat) (ch : Nat)
  /-- CAN_SLEEP_DISCARD (R357) -/
  | canSleepDiscard (t : Nat) (ch : Nat)
  /-- CAN_DOMINANT_TIMEOUT (R530) -/
  | canDominantTimeout (t : Nat) (x : Reading)
  /-- CABLE_READ_START (R194) -/
  | cableReadStart (t : Nat)
  /-- FSAFE_N_LOW (R505) -/
  | fsafeNLow (t : Nat)
  /-- POWER_LOSS (R490) -/
  | powerLoss (t : Nat)
  /-- PORN_LOW (R490) -/
  | pornLow (t : Nat)
  /-- SYSRST_N_LOW (R490) -/
  | sysrstNLow (t : Nat)
  /-- WATCHDOG_TIMEOUT (R490) -/
  | watchdogTimeout (t : Nat)
  /-- ORDERED_RESET (R491) -/
  | orderedReset (t : Nat)
  /-- PORN_RELEASE (R492) -/
  | pornRelease (t : Nat)
  /-- STARTUP_READY (R492) -/
  | startupReady (t : Nat) (selfTest : Bool)
  /-- TRIAL_WINDOW_END (R464) -/
  | trialWindowEnd (t : Nat)
  /-- SLEEP_ENTRY (R43) -/
  | sleepEntry (t : Nat)
  /-- WATCH_CYCLE (R210) -/
  | watchCycle (t : Nat)
  /-- LEASE_RENEWAL_WAKE (R211) -/
  | leaseRenewalWake (t : Nat)
  /-- WAKE_SOURCE (R499) -/
  | wakeSource (t : Nat) (src : Nat)
  /-- HALT_TIMER (R498) -/
  | haltTimer (t : Nat)
  /-- MERIDIAN_FLOOR_WRITE (R45) -/
  | meridianFloorWrite (t : Nat)
  /-- REF_CLOCK_LOST (R37) -/
  | refClockLost (t : Nat)
  /-- REF_CLOCK_RESTORED (R37) -/
  | refClockRestored (t : Nat)
  /-- LF_CLOCK_LOST (R38) -/
  | lfClockLost (t : Nat)
  /-- LF_CLOCK_PROVEN (R38) -/
  | lfClockProven (t : Nat)
  /-- HOUSEKEEPING_ROUND (R501) -/
  | housekeepingRound (t : Nat) (temps : List (Option Int)) (rails : List Nat) (parity : Bool)
  /-- FAR_TEMP_CHECK (R503) -/
  | farTempCheck (t : Nat) (link : Nat) (temp : Option Int)
  /-- THERMAL_SHUTDOWN_END (R503) -/
  | thermalShutdownEnd (t : Nat) (site : Nat)
  /-- AUTH_LOCK_END (R420) -/
  | authLockEnd (t : Nat) (slot : Nat)
  /-- SETTINGS_PERIODIC_COMMIT (R135) -/
  | settingsPeriodicCommit (t : Nat)
  /-- LIFETIME_COMMIT (R483) -/
  | lifetimeCommit (t : Nat)
  /-- MRAM_SCRUB (R431) -/
  | mramScrub (t : Nat) (addr : Nat) (found : Scrub)
  /-- GAZ_SECOND_SAMPLE (R472) -/
  | gazSecondSample (t : Nat)
  /-- GAZ_PERIOD_CLOSE (R475) -/
  | gazPeriodClose (t : Nat) (level : Nat)
  /-- HOURLY_BENCHMARK (R476) -/
  | hourlyBenchmark (t : Nat)
  /-- MAINT_ITEM_FIRE (R485) -/
  | maintItemFire (t : Nat) (item : Nat)
  /-- COMPLETION_POINT (R376) -/
  | completionPoint (t : Nat) (src : Src) (tag : Nat)
  /-- FSAFE_N_HIGH (R505) -/
  | fsafeNHigh (t : Nat)
  /-- PLL_UNLOCK (R37) -/
  | pllUnlock (t : Nat) (pll : Nat)
  /-- PLL_RELOCK (R37) -/
  | pllRelock (t : Nat) (pll : Nat)
  /-- CAN_RX_ERROR (R349) -/
  | canRxError (t : Nat) (ch : Nat) (kind : RxError)
  /-- PCIE_LINK_UP (R359) -/
  | pcieLinkUp (t : Nat) (speed width : Nat) (bme : Bool)
  /-- SHORT_TO_SUPPLY_OFF (R327) -/
  | shortToSupplyOff (t : Nat) (x : Reading)
  /-- SENSE_DIE_POWER_UP (R541) -/
  | senseDiePowerUp (t : Nat)
  /-- NODE_SCAN_END (R213) -/
  | nodeScanEnd (t : Nat)
  /-- FAN_REFERENCE_SLEW (R302) -/
  | fanReferenceSlew (t : Nat) (ch : Nat)
deriving DecidableEq, Repr

end Sys2Proof
end

