-- ==== Sys2Proof/Decode.lean ====
section
/-!
DEFINITION. The decoder of table words. spec/opcode_table.json gives the block's commands names and rules and gives none
of them bits, so that no word spells a command (notes/assumptions/6.md).
-/
namespace Sys2Proof

/-- The command that a word of the table's bits spells: none, on every word. -/
def decodeTableWord (_nbits _w : Nat) : Option Instr := none

end Sys2Proof
end

