-- ==== Sys2Proof/Machine/Operands.lean ====
section
/-!
DEFINITION. Operand forms: fields of byte strings, registers and signed numbers (00_scope.md R3). Every multi-byte
field is little-endian; a signed field of w bits is the two's complement of its value.
-/
namespace Sys2Proof.Machine

/-- The number a byte string spells, lowest byte first (R3). -/
def leNat : Bytes → Nat
  | [] => 0
  | b :: bs => b.toNat + 256 * leNat bs

/-- The `n` bytes of a number, lowest first (R3). -/
def leBytes : Nat → Nat → Bytes
  | 0, _ => []
  | n + 1, v => BitVec.ofNat 8 (v % 256) :: leBytes n (v / 256)

/-- The number a byte string spells, highest byte first. -/
def beNat (b : Bytes) : Nat := leNat b.reverse

/-- The `n` bytes of a number, highest first. -/
def beBytes (n v : Nat) : Bytes := (leBytes n v).reverse

/-- The signed value of a `w`-bit field. -/
def toS (w v : Nat) : Int := if v % 2 ^ w < 2 ^ (w - 1) then (v % 2 ^ w : Nat) else (v % 2 ^ w : Nat) - (2 ^ w : Nat)

/-- The `w`-bit field of a signed value. -/
def ofS (w : Nat) (i : Int) : Nat := (i % (2 ^ w : Nat)).toNat

/-- Bits hi:lo of a number. -/
def bits (v hi lo : Nat) : Nat := v / 2 ^ lo % 2 ^ (hi + 1 - lo)

/-- Bit i of a number. -/
def bit (v i : Nat) : Bool := v / 2 ^ i % 2 == 1

/-- 0 or 1. -/
def b2n (b : Bool) : Nat := if b then 1 else 0

/-- The word whose bit i is `f i`, for i below n. -/
def maskOf : Nat → (Nat → Bool) → Nat
  | 0, _ => 0
  | n + 1, f => maskOf n f + (if f n then 2 ^ n else 0)

/-- `v` with the bits that are 1 in `w` cleared (a W1C write, R5). -/
def clearBits (v w : Nat) : Nat := maskOf 64 fun i => bit v i && !bit w i

/-- `n` bytes of `b` from offset `o`. -/
def slice (b : Bytes) (o n : Nat) : Bytes := (b.drop o).take n

/-- Unsigned field of a record. -/
def u8 (b : Bytes) (o : Nat) : Nat := leNat (slice b o 1)
def u16 (b : Bytes) (o : Nat) : Nat := leNat (slice b o 2)
def u32 (b : Bytes) (o : Nat) : Nat := leNat (slice b o 4)
def u64 (b : Bytes) (o : Nat) : Nat := leNat (slice b o 8)

/-- Signed field of a record. -/
def s8 (b : Bytes) (o : Nat) : Int := toS 8 (u8 b o)
def s16 (b : Bytes) (o : Nat) : Int := toS 16 (u16 b o)
def s32 (b : Bytes) (o : Nat) : Int := toS 32 (u32 b o)
def s64 (b : Bytes) (o : Nat) : Int := toS 64 (u64 b o)

/-- `b` filled with zeros to `n` bytes, cut at `n`. -/
def padTo (n : Nat) (b : Bytes) : Bytes := (b ++ List.replicate (n - b.length) 0).take n

/-- `n` bytes of zero. -/
def zeros (n : Nat) : Bytes := List.replicate n 0

/-- Consecutive pieces of `n` bytes, `k` of them. -/
def chunks (n : Nat) : Nat → Bytes → List Bytes
  | 0, _ => []
  | k + 1, b => b.take n :: chunks n k (b.drop n)

/-- Element `i` of a list, or the default value. -/
def nth {α : Type} [Inhabited α] (l : List α) (i : Nat) : α := l.getD i default

/-- The first value under a key of an association list. -/
def lookupKey {α : Type} (k : Nat) : List (Nat × α) → Option α
  | [] => none
  | (j, a) :: r => if j = k then some a else lookupKey k r

/-- Write a value under a key: keys stay ascending, one entry a key. -/
def insertKey {α : Type} (k : Nat) (v : α) : List (Nat × α) → List (Nat × α)
  | [] => [(k, v)]
  | (j, a) :: r => if k < j then (k, v) :: (j, a) :: r else if k = j then (k, v) :: r else (j, a) :: insertKey k v r

/-- Remove a key. -/
def eraseKey {α : Type} (k : Nat) (l : List (Nat × α)) : List (Nat × α) := l.filter fun p => p.1 != k

/-- Insert an element in front of the first element that does not stand before it. -/
def insertBy {α : Type} (before : α → α → Bool) (x : α) : List α → List α
  | [] => [x]
  | y :: r => if before x y then x :: y :: r else y :: insertBy before x r

/-- Stable sort: `before x y` says that x must stand before y. -/
def sortBy {α : Type} (before : α → α → Bool) (l : List α) : List α := l.foldl (fun acc x => insertBy before x acc) []

/-- Modify an element of a list where the index exists. -/
def modifyAt {α : Type} (f : α → α) : Nat → List α → List α
  | _, [] => []
  | 0, a :: r => f a :: r
  | n + 1, a :: r => a :: modifyAt f n r

/-- Set an element of a list where the index exists. -/
def setAt {α : Type} (i : Nat) (a : α) (l : List α) : List α := modifyAt (fun _ => a) i l

/-- The half-range rule (02 R67): a is later than b, n bits. -/
def later (n a b : Nat) : Bool := 0 < (a + 2 ^ n - b % 2 ^ n) % 2 ^ n && (a + 2 ^ n - b % 2 ^ n) % 2 ^ n < 2 ^ (n - 1)

end Sys2Proof.Machine
end

