-- ==== Sys2Proof/Machine/Flags.lean ====
section
/-!
DEFINITION. Saturation, rounding and the status words that commands and samples carry.
-/
namespace Sys2Proof.Machine

/-- A counter that saturates at its last value. -/
def sat (m v : Nat) : Nat := if m ≤ v then m else v

/-- A value held inside two limits. -/
def clampI (lo hi v : Int) : Int := if v < lo then lo else if hi < v then hi else v
def clampN (lo hi v : Nat) : Nat := if v < lo then lo else if hi < v then hi else v

/-- Saturation to a signed field of w bits. -/
def satS (w : Nat) (v : Int) : Int := clampI (-(2 ^ (w - 1) : Nat)) ((2 ^ (w - 1) : Nat) - 1) v

/-- Saturation to an unsigned field of w bits. -/
def satU (w : Nat) (v : Int) : Int := clampI 0 ((2 ^ w : Nat) - 1) v

/-- Time flags of a sample's status (02 R50) and its code (R538). -/
def stLate : Nat := 0x8000
def stDuplicate : Nat := 0x4000
def stClkRc : Nat := 0x2000

/-- The code of a status word: bits 3:0 (02 R538). -/
def stCode (status : Nat) : Nat := status % 16

/-- Status words of completions (13 Table 13-6). -/
def stOk : Nat := 0x0000
def stAborted : Nat := 0x0001
def stAlreadyDone : Nat := 0x0002
def stPartial : Nat := 0x0003
def stBadOpcode : Nat := 0x0004
def stBadDescriptor : Nat := 0x0005
def stPayloadError : Nat := 0x0006
def stTagInUse : Nat := 0x0007
def stNotReady : Nat := 0x0008
def stSpiRefused : Nat := 0x0009
def stSleepPending : Nat := 0x000A
def stAuthFail : Nat := 0x0010
def stCounterStale : Nat := 0x0011
def stSlotLocked : Nat := 0x0012

end Sys2Proof.Machine
end

