-- ==== Sys2Proof/Machine/Datum.lean ====
section
/-!
DEFINITION. The Datum image: header, section directory and records (13 R386, Tables 13-10 to 13-14), and the fields of
the map, fusion and prediction records (03 Tables 3-4, 3-5; 04 Tables 4-1 to 4-5).
-/
namespace Sys2Proof.Machine

/-- A Datum: its image as loaded and its sections' records by type (13 R386). -/
structure Datum where
  image : Bytes
  sects : List (Nat × List Bytes)
deriving DecidableEq, Repr

/-- LENGTH of an image (Table 13-10). -/
def datLength (img : Bytes) : Nat := u32 img 8

/-- One directory entry, 16 bytes: TYPE, REC_SIZE, COUNT, OFFSET. -/
def dirEntry (img : Bytes) (i : Nat) : Bytes := slice img (64 + 16 * i) 16
def deType (e : Bytes) : Nat := u16 e 0
def deSize (e : Bytes) : Nat := u16 e 2
def deCount (e : Bytes) : Nat := u32 e 4
def deOffset (e : Bytes) : Nat := u32 e 8

/-- The directory of an image. -/
def dirOf (img : Bytes) : List Bytes := (List.range (u16 img 6)).map (dirEntry img)

/-- The records of a directory entry. -/
def sectRecs (img e : Bytes) : List Bytes := chunks (deSize e) (deCount e) (img.drop (deOffset e))

/-- The Datum that an image spells. -/
def datumOf (img : Bytes) : Datum :=
  let im := img.take (datLength img)
  { image := im, sects := (dirOf im).map fun e => (deType e, sectRecs im e) }

/-- Records of a type; a type missing from the directory has none (R386). -/
def Datum.recs (d : Datum) (ty : Nat) : List Bytes := (lookupKey ty d.sects).getD []

/-- Records `first .. first + n - 1` of a type. -/
def Datum.run (d : Datum) (ty first n : Nat) : List Bytes := ((d.recs ty).drop first).take n

/-- Value of a field where 0 takes a default. -/
def dflt (v d : Nat) : Nat := if v = 0 then d else v

/-! Section types (Table 13-11). -/
def tyGlobals : Nat := 0x01
def tyOutput : Nat := 0x02
def tyHostSrc : Nat := 0x03
def tyMap : Nat := 0x10
def tyZone : Nat := 0x11
def tyFusion : Nat := 0x12
def tyProbe : Nat := 0x13
def tyGeom : Nat := 0x14
def tySensor : Nat := 0x15
def tyPred : Nat := 0x16
def tyDryer : Nat := 0x20
def tyHeat : Nat := 0x21
def tyDryFan : Nat := 0x22
def tyRoute : Nat := 0x23
def tyElem : Nat := 0x24
def tySuper : Nat := 0x25
def tyStoGlob : Nat := 0x28
def tyNode : Nat := 0x29
def tyBinCtl : Nat := 0x2A
def tyChan : Nat := 0x30
def tySeq : Nat := 0x31
def tyContour : Nat := 0x32
def tyCell : Nat := 0x33
def tyLin : Nat := 0x34
def tyChkHdr : Nat := 0x35
def tyChkRec : Nat := 0x36
def tyValve : Nat := 0x40
def tyFan : Nat := 0x48
def tyUio : Nat := 0x50
def tyDomF : Nat := 0x51
def tyCan : Nat := 0x58
def tyFilter : Nat := 0x59
def tySignal : Nat := 0x5A
def tyCanCmd : Nat := 0x5B

/-! Globals (Table 13-12). -/
/-- SETTLE in force under a Datum, 1/64 s (02 R52). -/
def datSettle (d : Datum) : Nat := dflt (u16 ((d.recs tyGlobals).headD []) 0) 16
/-- CAPTURE_MB (01 R33). -/
def datCaptureMb (d : Datum) : Nat := dflt (u16 ((d.recs tyGlobals).headD []) 2) 64

/-! Decision output record (Table 13-13). -/
def outNum (r : Bytes) : Nat := u16 r 0
def outKind (r : Bytes) : Nat := u16 r 2
def outOwner (r : Bytes) : Nat := u16 r 4
def outSub (r : Bytes) : Nat := u8 r 6

/-! Map record (03 Table 3-4). -/
def mapNum (r : Bytes) : Nat := u8 r 0
def mapKind (r : Bytes) : Nat := u8 r 1
def mapRows (r : Bytes) : Nat := u16 r 2
def mapSlices (r : Bytes) : Nat := u8 r 4
def mapSections (r : Bytes) : Nat := u8 r 5
def mapStep (r : Bytes) : Nat := u16 r 6
def mapRowVol (r : Bytes) : Nat := u32 r 8
def mapLegend (r : Bytes) : Nat := u8 r 12
def mapZones (r : Bytes) : Nat := u8 r 13
def mapZoneBase (r : Bytes) : Nat := u16 r 14
def mapAdvSrc (r : Bytes) : Nat := u16 r 16
def mapRotSrc (r : Bytes) : Nat := u16 r 18
def mapFillSrc (r : Bytes) : Nat := u16 r 20
def mapAmbT (r : Bytes) : Nat := u16 r 22
def mapAmbRh (r : Bytes) : Nat := u16 r 24
def mapPressure (r : Bytes) : Nat := u32 r 28

/-- Kinds of Table 3-1. -/
def kCont : Nat := 1
def kBatch : Nat := 2
def kRecirc : Nat := 3
def kBin : Nat := 4
/-- Dryer kinds (R81). -/
def isDryerKind (k : Nat) : Bool := k == kCont || k == kBatch || k == kRecirc

/-! Zone record (03 Table 3-5). -/
def znKind (r : Bytes) : Nat := u8 r 0
def znFirst (r : Bytes) : Nat := u16 r 2
def znLast (r : Bytes) : Nat := u16 r 4
def znTemp (r : Bytes) : Nat := u16 r 6
def znFlow (r : Bytes) : Nat := u16 r 8
def znConst (r : Bytes) : Nat := u32 r 12

/-! Dryer fusion record (04 Table 4-1). -/
def fuMap (r : Bytes) : Nat := u8 r 0
def fuOutRows (r : Bytes) : Nat := u8 r 1
def fuOutM (r : Bytes) : Nat := u16 r 2
def fuInM (r : Bytes) : Nat := u16 r 4
def fuInT (r : Bytes) : Nat := u16 r 6
def fuInDef (r : Bytes) : Nat := u16 r 8
def fuProbeBase (r : Bytes) : Nat := u16 r 10
def fuProbes (r : Bytes) : Nat := u8 r 12
def fuPairMax (r : Bytes) : Nat := dflt (u16 r 14) 240

/-! Probe record (04 Table 4-2). -/
def pbSrc (r : Bytes) : Nat := u16 r 0
def pbRow (r : Bytes) : Nat := u16 r 2
def pbSection (r : Bytes) : Nat := u8 r 4
def pbSlice (r : Bytes) : Nat := u8 r 5
def pbRadius (r : Bytes) : Nat := u8 r 6
def pbWeight (r : Bytes) : Nat := u16 r 8

/-! Bin geometry record (04 Table 4-3). -/
def geMap (r : Bytes) : Nat := u8 r 0
def geRowPitch (r : Bytes) : Nat := u16 r 2
def geSlicePitch (r : Bytes) : Nat := u16 r 4
def geSectionPitch (r : Bytes) : Nat := u16 r 6
def geNear (r : Bytes) : Nat := u16 r 8
def geMax (r : Bytes) : Nat := u16 r 10
def geBase (r : Bytes) : Nat := u16 r 12
def geCount (r : Bytes) : Nat := u16 r 14

/-! Cable sensor record (04 Table 4-4). -/
def snSrc (r : Bytes) : Nat := u16 r 0
def snRow (r : Bytes) : Nat := u16 r 2
def snSlice (r : Bytes) : Nat := u8 r 4
def snSection (r : Bytes) : Nat := u8 r 5
def snCable (r : Bytes) : Nat := u8 r 6

/-! Prediction record (04 Table 4-5). -/
def prMap (r : Bytes) : Nat := u8 r 0
def prMembers (r : Bytes) : Nat := dflt (u8 r 1) 8
def prPeriod (r : Bytes) : Nat := dflt (u16 r 2) 20
def prStep (r : Bytes) : Nat := dflt (u16 r 4) 20
def prHorizon (r : Bytes) : Nat := dflt (u16 r 6) 240
def prNom (r : Bytes) : Nat := u32 r 8

/-- Default candidate factors (04 Table 4-6). -/
def defFactors : List Nat :=
  [26214, 27853, 29491, 30474, 31130, 31785, 32113, 32440, 32768, 33096, 33423, 34079, 35062, 36045, 37683, 39322]

/-- FACTORS of a prediction record; the field of 32 bytes takes Table 4-6 when all of it is 0. -/
def prFactors (r : Bytes) : List Nat :=
  let l := (List.range 16).map fun i => u16 r (16 + 2 * i)
  if l.all (· == 0) then defFactors else l

/-- The map record of map number `n`. -/
def Datum.mapRec (d : Datum) (n : Nat) : Option Bytes := (d.recs tyMap).find? fun r => mapNum r == n
/-- The fusion record of a map. -/
def Datum.fusionOf (d : Datum) (n : Nat) : Option Bytes := (d.recs tyFusion).find? fun r => fuMap r == n
/-- The prediction record of a map. -/
def Datum.predOf (d : Datum) (n : Nat) : Option Bytes := (d.recs tyPred).find? fun r => prMap r == n
/-- The geometry record of a map. -/
def Datum.geomOf (d : Datum) (n : Nat) : Option Bytes := (d.recs tyGeom).find? fun r => geMap r == n
/-- The zones of a map. -/
def Datum.zonesOf (d : Datum) (r : Bytes) : List Bytes := d.run tyZone (mapZoneBase r) (mapZones r)

end Sys2Proof.Machine
end

