-- ==== Sys2Proof/Machine/DatumPlant.lean ====
section
/-!
DEFINITION. Fields of the drying records (05 Tables 5-2 to 5-12) and of the universal and fan records they name
(10 Table 10-2, 11 Table 11-1), and what the samples of a frame say (02 R54, R538; 11 R321).
-/
namespace Sys2Proof.Machine

/-! Dryer control record (Table 5-2). -/
def dcMap (r : Bytes) : Nat := u8 r 0
def dcTarget (r : Bytes) : Nat := u16 r 2
def dcQMin (r : Bytes) : Nat := u32 r 4
def dcQMax (r : Bytes) : Nat := u32 r 8
def dcRateStep (r : Bytes) : Nat := u16 r 12
def dcHStart (r : Bytes) : Nat := u16 r 14
def dcWErr (r : Bytes) : Nat := u16 r 16
def dcWOd (r : Bytes) : Nat := u16 r 18
def dcWRate (r : Bytes) : Nat := u16 r 20
def dcWDml (r : Bytes) : Nat := u16 r 22
def dcDisKind (r : Bytes) : Nat := u8 r 24
def dcDisCh (r : Bytes) : Nat := u8 r 25
def dcAMin (r : Bytes) : Nat := u16 r 26
def dcAMax (r : Bytes) : Nat := u16 r 28
def dcGain (r : Bytes) : Nat := u32 r 30
def dcTrimKi (r : Bytes) : Nat := u16 r 34
def dcTrimMax (r : Bytes) : Nat := u16 r 36
def dcMeterStale (r : Bytes) : Nat := dflt (u16 r 38) 8
def dcTripRate (r : Bytes) : Nat := u32 r 40
def dcPolicy (r : Bytes) : Nat := u8 r 44
def dcAutoLimit (r : Bytes) : Nat := u16 r 46
def dcCanId (r : Bytes) : Nat := u16 r 48
def dcZoneBase (r : Bytes) : Nat := u8 r 50
def dcZoneCount (r : Bytes) : Nat := u8 r 51
def dcBatchVol (r : Bytes) : Nat := u32 r 52
def dcCoolCredit (r : Bytes) : Nat := u16 r 56
def dcCoolDt (r : Bytes) : Nat := u16 r 58
def dcTemper (r : Bytes) : Nat := u8 r 60
def dcDryMax (r : Bytes) : Nat := u8 r 61
def dcCoolMax (r : Bytes) : Nat := u8 r 62
def dcFullUio (r : Bytes) : Nat := u8 r 63

/-! Heat-zone record (Table 5-3). -/
def hzMap (r : Bytes) : Nat := u8 r 0
def hzZone (r : Bytes) : Nat := u8 r 1
def hzSp (r : Bytes) : Int := s16 r 2
def hzMin (r : Bytes) : Int := s16 r 4
def hzMax (r : Bytes) : Int := s16 r 6
def hzRamp (r : Bytes) : Nat := u16 r 8
def hzKp (r : Bytes) : Nat := u16 r 10
def hzKi (r : Bytes) : Nat := u16 r 12
def hzDemKind (r : Bytes) : Nat := u8 r 14
def hzDemCh (r : Bytes) : Nat := u8 r 15
def hzDemParam (r : Bytes) : Nat := u16 r 16
def hzPermit (r : Bytes) : Nat := u8 r 18
def hzReady (r : Bytes) : Nat := u8 r 19
def hzBackoff (r : Bytes) : Nat := u16 r 20

/-! Drying fan record (Table 5-4). -/
def dfMap (r : Bytes) : Nat := u8 r 0
def dfFan (r : Bytes) : Nat := u8 r 1
def dfRun (r : Bytes) : Nat := u16 r 2
def dfFire (r : Bytes) : Nat := u8 r 4
def dfStates (r : Bytes) : Nat := u8 r 5

/-! Route and element records (Tables 5-8, 5-9). -/
def rtNum (r : Bytes) : Nat := u8 r 0
def rtCount (r : Bytes) : Nat := u8 r 1
def rtFirst (r : Bytes) : Nat := u16 r 2
def rtStopUio (r : Bytes) : Nat := u8 r 4
def rtFlags (r : Bytes) : Nat := u8 r 5
def rtMap (r : Bytes) : Nat := u8 r 6
def elKind (r : Bytes) : Nat := u8 r 0
def elOutKind (r : Bytes) : Nat := u8 r 1
def elOutCh (r : Bytes) : Nat := u8 r 2
def elMotion (r : Bytes) : Nat := u8 r 3
def elPos (r : Bytes) : Nat := u8 r 4
def elPosUio (r : Bytes) : Nat := u8 r 5
def elProve (r : Bytes) : Nat := u16 r 6
def elPurge (r : Bytes) : Nat := u16 r 8
def elMinPulses (r : Bytes) : Nat := u16 r 10
def elWin (r : Bytes) : Nat := u8 r 12

/-! Supervision record (Table 5-12). -/
def suMap (r : Bytes) : Nat := u8 r 0
def suCount (r : Bytes) : Nat := u8 r 1
def suExh (r : Bytes) : List Nat := (List.range (suCount r)).map fun i => u16 r (2 + 2 * i)
def suExhMax (r : Bytes) : Int := s16 r 10
def suRorMax (r : Bytes) : Nat := u16 r 12
def suRorWin (r : Bytes) : Nat := u16 r 14
def suPlenTrip (r : Bytes) : Nat := u16 r 16
def suStale (r : Bytes) : Nat := dflt (u16 r 18) 4
def suRearm (r : Bytes) : Nat := dflt (u16 r 20) 120
def suFastCsw (r : Bytes) : Nat := u8 r 22

/-! Legend limits block (Table 5-5). -/
def lgMaxPlenum (img : Bytes) : Int := s16 img 0xC2
def lgTarget (img : Bytes) : Nat := u16 img 0xC4
def lgOdBand (img : Bytes) : Nat := u16 img 0xC6
def lgCellTrip (img : Bytes) : Int := s16 img 0xC8

/-! Universal channel record (11 Table 11-1) and fan record (10 Table 10-2): channel and sources. -/
def ucCh (r : Bytes) : Nat := u8 r 0
def ucSrc (r : Bytes) : Nat := u16 r 12
def fnCh (r : Bytes) : Nat := u8 r 0
def fnSrcBase (r : Bytes) : Nat := u16 r 46

/-- The dryer control record of a map, with its index. -/
def Datum.dryerOf (d : Datum) (n : Nat) : Option Bytes := (d.recs tyDryer).find? fun r => dcMap r == n
def Datum.superOf (d : Datum) (n : Nat) : Option Bytes := (d.recs tySuper).find? fun r => suMap r == n
/-- The universal channel record of a channel. -/
def Datum.uioRec (d : Datum) (ch : Nat) : Option Bytes := (d.recs tyUio).find? fun r => ucCh r == ch
/-- The route record of a route number. -/
def Datum.routeRec (d : Datum) (n : Nat) : Option Bytes := (d.recs tyRoute).find? fun r => rtNum r == n
/-- The elements of a route, source first. -/
def Datum.elemsOf (d : Datum) (r : Bytes) : List Bytes := d.run tyElem (rtFirst r) (rtCount r)

/-- A sample as a decision takes it: source, status code, value, stamp. -/
structure Taken where
  src : Nat
  code : Nat
  value : Int
  stamp : Nat
deriving DecidableEq, Repr

/-- A code carries a value (02 R538): VALID, or ESTIMATED of a fan speed report. -/
def carries (d : Datum) (t : Taken) : Bool :=
  t.code == 0 || (t.code == 1 && (d.recs tyFan).any fun r => fnSrcBase r == t.src)

/-- Mean of the valid samples of a source in a frame (03 R88). -/
def frameMean (d : Datum) (ss : List Taken) (src : Nat) : Option Int :=
  let l := ss.filter fun t => t.src == src && carries d t
  if src = 0 ∨ l = [] then none else some (divr' (l.foldl (fun a t => a + t.value) 0) l.length)
where
  /-- divr of 03 R91 for a positive divisor. -/
  divr' (a : Int) (b : Nat) : Int := (2 * a + b) / (2 * (b : Int))

/-- Last valid report of a universal channel in a frame: edges in bits 15:0, state in bit 16 (11 R321). -/
def uioReport (d : Datum) (ss : List Taken) (ch : Nat) : Option Nat :=
  match d.uioRec ch with
  | none => none
  | some r => ((ss.filter fun t => t.src == ucSrc r && t.code == 0).getLast?).map fun t => t.value.toNat

/-- A universal input is on at the frame's end (11 R321). -/
def uioOn (d : Datum) (ss : List Taken) (ch : Nat) : Bool :=
  match uioReport d ss ch with | some v => bit v 16 | none => false

/-- Pulses of a universal input in the frame. -/
def uioPulses (d : Datum) (ss : List Taken) (ch : Nat) : Nat :=
  match uioReport d ss ch with | some v => v % 65536 | none => 0

end Sys2Proof.Machine
end

