-- ==== Sys2Proof/Machine/DatumSense.lean ====
section
/-!
DEFINITION. Fields of the front-end section (07 Tables 7-4 to 7-9, 08 Tables 8-1 to 8-8).
-/
namespace Sys2Proof.Machine

/-! Channel record and sequence entry (07 Tables 7-4, 7-6). -/
def chWord (r : Bytes) : Nat := leNat (slice r 0 16)
def chPinP (r : Bytes) : Nat := bits (chWord r) 6 0
def chPinN (r : Bytes) : Nat := bits (chWord r) 14 8
def chGain (r : Bytes) : Nat := bits (chWord r) 18 16
def chAuto (r : Bytes) : Bool := bit (chWord r) 19
def chRate (r : Bytes) : Nat := bits (chWord r) 23 20
def chFilter (r : Bytes) : Nat := bits (chWord r) 25 24
def chBuffer (r : Bytes) : Bool := bit (chWord r) 28
def chRef (r : Bytes) : Nat := bits (chWord r) 27 26
def chSettle (r : Bytes) : Nat := bits (chWord r) 47 32
def chNconv (r : Bytes) : Nat := bits (chWord r) 55 48
def chGuard (r : Bytes) : Nat := bits (chWord r) 58 56
def chGuardEn (r : Bytes) : Bool := bit (chWord r) 59
def chOwEn (r : Bytes) : Bool := bit (chWord r) 60
def chReport (r : Bytes) : Bool := bit (chWord r) 61
def chOwMode (r : Bytes) : Nat := bits (chWord r) 63 62
def chExc (r : Bytes) : Nat := bits (chWord r) 66 64
def chExaLvl (r : Bytes) : Nat := bits (chWord r) 71 68
def chExbLvl (r : Bytes) : Nat := bits (chWord r) 75 72
def chExaPin (r : Bytes) : Nat := bits (chWord r) 81 76
def chExbPin (r : Bytes) : Nat := bits (chWord r) 87 82
def chGuardPin (r : Bytes) : Nat := bits (chWord r) 93 88
def chFmask (r : Bytes) : Nat := bits (chWord r) 103 96
def chTia (r : Bytes) : Nat := bits (chWord r) 106 104
def chLvl (r : Bytes) : Nat := bits (chWord r) 111 108
def chTint (r : Bytes) : Nat := bits (chWord r) 115 112
def chMode (r : Bytes) : Nat := bits (chWord r) 117 116
def chEntry (r : Bytes) : Nat := u8 r 16
def chSrc (r : Bytes) : Nat := u16 r 18
def chUnit (r : Bytes) : Nat := u16 r 20
def chXslot (r : Bytes) : Nat := u16 r 22
def chLinSrc (r : Bytes) : Nat := u8 r 24
def chLinRef (r : Bytes) : Nat := u8 r 25
def chLinMap (r : Bytes) : Nat := u8 r 26
def chComp (r : Bytes) : Nat := u8 r 27
def chCompEn (r : Bytes) : Bool := bit (u8 r 28) 0

/-- Decimation D of a RATE code (07 Table 7-2): f_mod / D samples a second. -/
def rateD (c : Nat) : Nat :=
  [307200, 153600, 61440, 51200, 30720, 12288, 6144, 3072, 1536, 768, 384, 192, 96, 48].getD c 48
/-- Order N of a FILTER code (07 Table 7-3). -/
def filterN (c : Nat) : Nat := c + 3
/-- Modulator frequency, Hz (07 R221). -/
def fMod : Nat := 3072000

/-! Sequence record (07 Table 7-5). -/
def sqList (r : Bytes) : Nat := u8 r 0
def sqTrig (r : Bytes) : Nat := u8 r 1
def sqFirst (r : Bytes) : Nat := u8 r 2
def sqCount (r : Bytes) : Nat := u8 r 3
def sqPeriod (r : Bytes) : Nat := u16 r 4
def sqPhase (r : Bytes) : Nat := u16 r 6

/-! Contour record (07 Table 7-9). -/
def coCsw (r : Bytes) : Nat := u8 r 0
def coEntry (r : Bytes) : Nat := u8 r 1
def coLow (r : Bytes) : Bool := bit (u8 r 2) 0
def coLatch (r : Bytes) : Bool := bit (u8 r 2) 1
def coIrq (r : Bytes) : Bool := bit (u8 r 2) 2
def coFault (r : Bytes) : Nat := bits (u8 r 2) 4 3
def coDebounce (r : Bytes) : Nat := u8 r 3
def coThresh (r : Bytes) : Int := s32 r 4
def coHyst (r : Bytes) : Nat := u32 r 8
def coSrc (r : Bytes) : Nat := u16 r 12
def coUioOn (r : Bytes) : Nat := u32 r 16
def coUioOff (r : Bytes) : Nat := u32 r 20

/-! Moisture cell record (08 Table 8-3). -/
def clEntry (r : Bytes) : Nat := u8 r 0
def clB0 (r : Bytes) (k : Nat) : Int := s32 r (4 + 8 * k)
def clG0 (r : Bytes) (k : Nat) : Int := s32 r (8 + 8 * k)

/-! Linearisation record (08 Tables 8-5, 8-6): 112 bytes, then the Legend block's own 16. -/
def lnFormat (b : Bytes) : Nat := u8 b 0
def lnXform (b : Bytes) : Nat := u8 b 1
def lnDx (b : Bytes) : Nat := u8 b 2
def lnDt (b : Bytes) : Nat := u8 b 3
def lnCsh (b : Bytes) : Nat := u8 b 4
def lnXsh (b : Bytes) : Int := s8 b 5
def lnT0 (b : Bytes) : Int := s16 b 6
def lnXoff (b : Bytes) : Int := s64 b 8
def lnMin (b : Bytes) : Int := s32 b 16
def lnMax (b : Bytes) : Int := s32 b 20
def lnA (b : Bytes) (i j : Nat) : Int := s32 b (24 + 4 * (5 * j + i))
def lnAge (b : Bytes) : Nat := dflt (u16 b 104) 2000
def lnKc (b : Bytes) : Int := s16 b 112
def lnEmptyE1 (b : Bytes) : Nat := u16 b 114
def lnRref (b : Bytes) : Int := s32 b 116
def lnD0 (b : Bytes) : Int := s32 b 120
def lnD1 (b : Bytes) : Int := s32 b 124

/-! Check header and records (08 Table 8-8). -/
def ckPin (r : Bytes) : Nat := u8 r 0
def ckPartner (r : Bytes) : Nat := u8 r 1
def ckKind (r : Bytes) : Nat := u8 r 2
def ckGrounded (r : Bytes) : Bool := bit (u8 r 3) 0
def ckLo (r : Bytes) : Nat := u32 r 4
def ckHi (r : Bytes) : Nat := u32 r 8
def ckLeak (r : Bytes) : Nat := dflt (u16 r 12) 1000
def ckDelta (r : Bytes) : Nat := u16 r 14
/-- The first check record of a pin, by index. -/
def Datum.chkIdx (d : Datum) (pin : Nat) : Option Nat := (d.recs tyChkRec).findIdx? fun r => ckPin r == pin
/-- CHK_PERIOD, s; 0 and a Datum without a header give 60. -/
def Datum.chkPeriod (d : Datum) : Nat := dflt (u16 ((d.recs tyChkHdr).headD []) 0) 60

/-- The channel record of an entry. -/
def Datum.chanRec (d : Datum) (e : Nat) : Option Bytes := (d.recs tyChan).find? fun r => chEntry r == e
def Datum.seqRec (d : Datum) (i : Nat) : Option Bytes := (d.recs tySeq)[i]?
def Datum.cswRec (d : Datum) (n : Nat) : Option Bytes := (d.recs tyContour).find? fun r => coCsw r == n
def Datum.cellRec (d : Datum) (e : Nat) : Option Bytes := (d.recs tyCell).find? fun r => clEntry r == e
def Datum.chkRec (d : Datum) (pin : Nat) : Option Bytes := (d.recs tyChkRec).find? fun r => ckPin r == pin

/-- The list of the sequence that holds an entry. -/
def Datum.listOf (d : Datum) (e : Nat) : Option Nat :=
  ((d.recs tySeq).find? fun r => decide (sqFirst r ≤ e) && decide (e < sqFirst r + sqCount r)).map sqList

/-- Sensor pins an entry uses in any role (07 R242, R266). -/
def entryPins (r : Bytes) : List Nat :=
  ([chPinP r, chPinN r] ++ (if chExaLvl r = 0 then [] else [chExaPin r]) ++ (if chExbLvl r = 0 then [] else [chExbPin r])
    ++ (if chGuardEn r then [chGuardPin r] else [])).filter fun p => decide (p < 64)

/-- Comparators that count: a pin, and HIGH (true) or LOW (07 R239, Table 7-8). -/
def countedComps (r : Bytes) : List (Nat × Bool) :=
  if chOwMode r = 0 then []
  else
    ([(chPinP r, true), (chPinN r, chOwMode r != 2)] ++ (if chOwMode r = 3 then [(chPinP r, false), (chPinN r, false)] else []) ++
      (if chExaLvl r = 0 then [] else [(chExaPin r, true)]) ++ (if chExbLvl r = 0 then [] else [(chExbPin r, true)])).filter
        fun p => decide (p.1 < 64)

/-! Tone frequencies (08 Table 8-2). -/
/-- Samples per cycle. -/
def toneN (k : Nat) : Nat := [8000, 4000, 1600, 400, 160, 80, 32, 8].getD k 8
/-- M = c × N with c = max(1, ceil(2^TINT × 500 / N)) (08 R250). -/
def toneM (tint k : Nat) : Nat := max 1 ((2 ^ tint * 500 + toneN k - 1) / toneN k) * toneN k
/-- Enabled frequencies, ascending. -/
def toneKs (fmask : Nat) : List Nat := (List.range 8).filter fun k => bit fmask k
/-- Samples of one conversion with its lead-in times, in 1/8 µs (08 R250). -/
def toneEighths (r : Bytes) : Nat :=
  (toneKs (chFmask r)).foldl (fun a k => a + max (2 * toneN k) 80 + toneM (chTint r) k) 0

/-- Time from entry start to the end of its last conversion, in 1/3,072,000,000 s: 3,072 to the microsecond, 384 to 1/8 µs, 1,000
to a modulator cycle (07 R227, 08 R250). -/
def entryLen (list : Nat) (r : Bytes) : Nat :=
  max (chSettle r) 2 * 3072 +
    if list = 4 then (chNconv r + 1) * toneEighths r * 384 else (filterN (chFilter r) + chNconv r) * rateD (chRate r) * 1000

end Sys2Proof.Machine
end

