-- ==== Sys2Proof/Config.lean ====
section
/-!
DEFINITION. What an implementation fixes and the spec does not give: constants with no body, so that nothing can be
proved of their values (notes/assumptions/4.md and 9.md).
-/
namespace Sys2Proof

/-- A value the spec leaves open, fresh for each value of the model's counter `State.free`. -/
opaque Config.freeValue : Nat → Int

/-- divr(a, b) for b below 0 (03 R91 states it for b > 0 and b = 0 only). -/
opaque Config.divrNeg : Int → Int → Int

/-- log2q(y, q) for y below 0 (03 R94 states it for y > 0 and y = 0 only). -/
opaque Config.log2Neg : Int → Nat → Int

/-- The build ID of the running image, 8 bytes as a number (02 Table 2-5, 17 Table 17-1). -/
opaque Config.factoryBuild : Nat

/-- Security version of the factory image (17 R449). -/
opaque Config.factorySecVer : Nat

/-- Settings format, length and SHA-256 of the factory image (17 Table 17-6), and its bytes. -/
opaque Config.factoryFmt : Nat
opaque Config.factoryLen : Nat
opaque Config.factoryDigest : Bytes
opaque Config.factoryByte : Nat → Byte

/-- A firmware build can convert the settings of one format into another (17 R461). -/
opaque Config.converts : Nat → Nat → Bool

/-- The Tuthar root public key in ROM: x then y, 64 bytes as a number (15 R425). -/
opaque Config.rootKey : Nat

/-- The priority of sources 2 and 192-239, fixed by the firmware build (14 R392). -/
opaque Config.fixedPrio : Nat → Nat

/-- Factory trims tg, tc, ts of the tone chain for frequency k and TIA range (08 R251). -/
opaque Config.trimG : Nat → Nat → Nat
opaque Config.trimC : Nat → Nat → Nat
opaque Config.trimS : Nat → Nat → Nat

/-- Survey engine busy time over the last 128 frames, per mille, by the count of steps done (04 Table 4-18): the spec gives
no timing of the engine. -/
opaque Config.engineBusy : Nat → Nat

/-- Fitted density of the external memory, MB (01 R31). -/
opaque Config.memMb : Nat

end Sys2Proof
end

