-- ==== Sys2Proof/Machine/Tables.lean ====
section
/-!
DEFINITION. The two 1,024-entry tables of 03 R94, each entry rounded half up from its exact value.
-/
namespace Sys2Proof.Machine

def tabP0 : List Nat :=
  [1073741824, 1074468888, 1075196443, 1075924492, 1076653033, 1077382068, 1078111597, 1078841619,
   1079572136, 1080303147, 1081034654, 1081766656, 1082499153, 1083232146, 1083965636, 1084699622,
   1085434106, 1086169087, 1086904565, 1087640541, 1088377016, 1089113990, 1089851462, 1090589434,
   1091327906, 1092066877, 1092806349, 1093546322, 1094286796, 1095027771, 1095769248, 1096511227,
   1097253708, 1097996693, 1098740180, 1099484170, 1100228665, 1100973664, 1101719167, 1102465174,
   1103211687, 1103958706, 1104706230, 1105454261, 1106202798, 1106951842, 1107701393, 1108451451,
   1109202018, 1109953093, 1110704676, 1111456768, 1112209370, 1112962481, 1113716102, 1114470233,
   1115224875, 1115980028, 1116735692, 1117491868, 1118248556, 1119005757, 1119763470, 1120521696]

def tabP1 : List Nat :=
  [1121280436, 1122039689, 1122799457, 1123559739, 1124320536, 1125081848, 1125843675, 1126606018,
   1127368878, 1128132254, 1128896147, 1129660557, 1130425485, 1131190931, 1131956895, 1132723378,
   1133490379, 1134257900, 1135025941, 1135794502, 1136563583, 1137333186, 1138103309, 1138873953,
   1139645120, 1140416809, 1141189020, 1141961754, 1142735011, 1143508792, 1144283097, 1145057926,
   1145833280, 1146609159, 1147385563, 1148162493, 1148939949, 1149717932, 1150496441, 1151275478,
   1152055042, 1152835134, 1153615754, 1154396902, 1155178580, 1155960787, 1156743523, 1157526790,
   1158310587, 1159094914, 1159879773, 1160665163, 1161451085, 1162237539, 1163024526, 1163812046,
   1164600099, 1165388685, 1166177806, 1166967460, 1167757650, 1168548374, 1169339634, 1170131430]

def tabP2 : List Nat :=
  [1170923762, 1171716630, 1172510036, 1173303978, 1174098458, 1174893476, 1175689033, 1176485128,
   1177281762, 1178078936, 1178876649, 1179674903, 1180473697, 1181273032, 1182072908, 1182873326,
   1183674286, 1184475788, 1185277833, 1186080421, 1186883552, 1187687228, 1188491447, 1189296211,
   1190101520, 1190907374, 1191713774, 1192520720, 1193328213, 1194136252, 1194944838, 1195753972,
   1196563654, 1197373884, 1198184662, 1198995990, 1199807867, 1200620294, 1201433270, 1202246798,
   1203060876, 1203875505, 1204690686, 1205506419, 1206322705, 1207139543, 1207956934, 1208774879,
   1209593378, 1210412430, 1211232038, 1212052200, 1212872918, 1213694191, 1214516021, 1215338407,
   1216161350, 1216984850, 1217808908, 1218633524, 1219458698, 1220284431, 1221110723, 1221937574]

def tabP3 : List Nat :=
  [1222764986, 1223592958, 1224421490, 1225250583, 1226080238, 1226910455, 1227741233, 1228572575,
   1229404479, 1230236946, 1231069977, 1231903573, 1232737732, 1233572457, 1234407747, 1235243602,
   1236080024, 1236917011, 1237754566, 1238592687, 1239431376, 1240270633, 1241110459, 1241950853,
   1242791816, 1243633348, 1244475451, 1245318123, 1246161366, 1247005180, 1247849566, 1248694523,
   1249540052, 1250386154, 1251232829, 1252080077, 1252927899, 1253776295, 1254625266, 1255474811,
   1256324931, 1257175628, 1258026900, 1258878748, 1259731174, 1260584177, 1261437757, 1262291915,
   1263146652, 1264001967, 1264857861, 1265714336, 1266571390, 1267429024, 1268287239, 1269146035,
   1270005413, 1270865373, 1271725915, 1272587039, 1273448747, 1274311038, 1275173913, 1276037373]

def tabP4 : List Nat :=
  [1276901417, 1277766046, 1278631261, 1279497061, 1280363448, 1281230421, 1282097982, 1282966129,
   1283834865, 1284704189, 1285574102, 1286444604, 1287315695, 1288187376, 1289059647, 1289932509,
   1290805962, 1291680006, 1292554642, 1293429870, 1294305692, 1295182106, 1296059113, 1296936715,
   1297814910, 1298693701, 1299573086, 1300453067, 1301333643, 1302214816, 1303096586, 1303978953,
   1304861917, 1305745479, 1306629639, 1307514398, 1308399756, 1309285714, 1310172272, 1311059430,
   1311947188, 1312835548, 1313724509, 1314614072, 1315504238, 1316395006, 1317286378, 1318178353,
   1319070932, 1319964115, 1320857903, 1321752297, 1322647296, 1323542901, 1324439112, 1325335931,
   1326233356, 1327131390, 1328030031, 1328929281, 1329829140, 1330729608, 1331630686, 1332532374]

def tabP5 : List Nat :=
  [1333434672, 1334337582, 1335241103, 1336145235, 1337049980, 1337955338, 1338861309, 1339767893,
   1340675091, 1341582903, 1342491330, 1343400372, 1344310030, 1345220303, 1346131193, 1347042700,
   1347954824, 1348867565, 1349780925, 1350694903, 1351609500, 1352524716, 1353440552, 1354357009,
   1355274085, 1356191783, 1357110102, 1358029043, 1358948606, 1359868792, 1360789601, 1361711033,
   1362633090, 1363555770, 1364479076, 1365403006, 1366327563, 1367252745, 1368178554, 1369104989,
   1370032052, 1370959743, 1371888062, 1372817010, 1373746586, 1374676792, 1375607628, 1376539094,
   1377471191, 1378403919, 1379337279, 1380271270, 1381205894, 1382141151, 1383077041, 1384013565,
   1384950723, 1385888516, 1386826944, 1387766007, 1388705706, 1389646041, 1390587013, 1391528622]

def tabP6 : List Nat :=
  [1392470869, 1393413754, 1394357277, 1395301439, 1396246240, 1397191682, 1398137763, 1399084485,
   1400031848, 1400979853, 1401928499, 1402877788, 1403827719, 1404778294, 1405729513, 1406681375,
   1407633882, 1408587035, 1409540832, 1410495275, 1411450365, 1412406101, 1413362485, 1414319516,
   1415277195, 1416235523, 1417194499, 1418154125, 1419114401, 1420075327, 1421036903, 1421999131,
   1422962010, 1423925542, 1424889725, 1425854562, 1426820052, 1427786196, 1428752993, 1429720446,
   1430688553, 1431657317, 1432626736, 1433596811, 1434567544, 1435538933, 1436510981, 1437483687,
   1438457051, 1439431074, 1440405757, 1441381100, 1442357104, 1443333768, 1444311093, 1445289081,
   1446267730, 1447247043, 1448227018, 1449207657, 1450188960, 1451170927, 1452153560, 1453136858]

def tabP7 : List Nat :=
  [1454120821, 1455105451, 1456090748, 1457076711, 1458063343, 1459050642, 1460038610, 1461027247,
   1462016553, 1463006530, 1463997176, 1464988494, 1465980482, 1466973143, 1467966475, 1468960480,
   1469955159, 1470950510, 1471946536, 1472943236, 1473940611, 1474938662, 1475937388, 1476936791,
   1477936870, 1478937626, 1479939060, 1480941172, 1481943963, 1482947433, 1483951582, 1484956411,
   1485961921, 1486968111, 1487974983, 1488982537, 1489990772, 1490999691, 1492009293, 1493019578,
   1494030547, 1495042201, 1496054540, 1497067565, 1498081275, 1499095672, 1500110755, 1501126526,
   1502142985, 1503160132, 1504177968, 1505196493, 1506215708, 1507235613, 1508256209, 1509277495,
   1510299473, 1511322143, 1512345506, 1513369561, 1514394310, 1515419753, 1516445891, 1517472723]

def tabP8 : List Nat :=
  [1518500250, 1519528473, 1520557392, 1521587009, 1522617322, 1523648333, 1524680042, 1525712449,
   1526745556, 1527779362, 1528813869, 1529849076, 1530884983, 1531921593, 1532958904, 1533996917,
   1535035634, 1536075053, 1537115177, 1538156005, 1539197537, 1540239775, 1541282719, 1542326369,
   1543370725, 1544415789, 1545461560, 1546508040, 1547555228, 1548603125, 1549651732, 1550701048,
   1551751076, 1552801814, 1553853264, 1554905425, 1555958300, 1557011887, 1558066187, 1559121202,
   1560176931, 1561233374, 1562290533, 1563348408, 1564406999, 1565466307, 1566526333, 1567587076,
   1568648537, 1569710717, 1570773616, 1571837235, 1572901575, 1573966635, 1575032416, 1576098919,
   1577166143, 1578234091, 1579302762, 1580372156, 1581442275, 1582513118, 1583584686, 1584656980]

def tabP9 : List Nat :=
  [1585730000, 1586803746, 1587878220, 1588953421, 1590029350, 1591106008, 1592183394, 1593261510,
   1594340357, 1595419934, 1596500241, 1597581281, 1598663052, 1599745556, 1600828793, 1601912763,
   1602997467, 1604082906, 1605169080, 1606255989, 1607343634, 1608432016, 1609521135, 1610610991,
   1611701585, 1612792918, 1613884989, 1614977800, 1616071351, 1617165643, 1618260675, 1619356449,
   1620452965, 1621550224, 1622648225, 1623746970, 1624846459, 1625946692, 1627047671, 1628149395,
   1629251865, 1630355081, 1631459044, 1632563755, 1633669214, 1634775422, 1635882379, 1636990085,
   1638098541, 1639207748, 1640317706, 1641428415, 1642539877, 1643652091, 1644765058, 1645878779,
   1646993254, 1648108484, 1649224469, 1650341209, 1651458706, 1652576959, 1653695970, 1654815738]

def tabP10 : List Nat :=
  [1655936265, 1657057550, 1658179594, 1659302399, 1660425963, 1661550289, 1662675375, 1663801224,
   1664927835, 1666055209, 1667183346, 1668312247, 1669441912, 1670572342, 1671703538, 1672835500,
   1673968228, 1675101724, 1676235986, 1677371017, 1678506817, 1679643385, 1680780723, 1681918831,
   1683057710, 1684197360, 1685337782, 1686478976, 1687620943, 1688763683, 1689907196, 1691051484,
   1692196547, 1693342385, 1694489000, 1695636390, 1696784557, 1697933502, 1699083225, 1700233727,
   1701385007, 1702537067, 1703689907, 1704843528, 1705997930, 1707153113, 1708309079, 1709465828,
   1710623359, 1711781675, 1712940775, 1714100660, 1715261330, 1716422786, 1717585029, 1718748058,
   1719911875, 1721076480, 1722241874, 1723408057, 1724575029, 1725742792, 1726911345, 1728080690]

def tabP11 : List Nat :=
  [1729250827, 1730421755, 1731593477, 1732765992, 1733939301, 1735113405, 1736288303, 1737463997,
   1738640488, 1739817774, 1740995858, 1742174740, 1743354420, 1744534899, 1745716177, 1746898255,
   1748081133, 1749264813, 1750449294, 1751634577, 1752820662, 1754007551, 1755195243, 1756383740,
   1757573041, 1758763148, 1759954060, 1761145779, 1762338305, 1763531638, 1764725780, 1765920730,
   1767116489, 1768313058, 1769510437, 1770708627, 1771907628, 1773107441, 1774308066, 1775509505,
   1776711757, 1777914823, 1779118704, 1780323399, 1781528911, 1782735239, 1783942384, 1785150346,
   1786359126, 1787568724, 1788779142, 1789990379, 1791202437, 1792415315, 1793629014, 1794843536,
   1796058879, 1797275046, 1798492036, 1799709850, 1800928489, 1802147953, 1803368243, 1804589359]

def tabP12 : List Nat :=
  [1805811301, 1807034072, 1808257670, 1809482097, 1810707353, 1811933438, 1813160354, 1814388100,
   1815616678, 1816846088, 1818076330, 1819307406, 1820539314, 1821772057, 1823005635, 1824240048,
   1825475297, 1826711383, 1827948305, 1829186065, 1830424663, 1831664100, 1832904376, 1834145491,
   1835387448, 1836630245, 1837873883, 1839118364, 1840363688, 1841609855, 1842856865, 1844104720,
   1845353420, 1846602965, 1847853357, 1849104595, 1850356681, 1851609614, 1852863396, 1854118026,
   1855373507, 1856629837, 1857887018, 1859145050, 1860403934, 1861663671, 1862924261, 1864185704,
   1865448001, 1866711153, 1867975161, 1869240024, 1870505744, 1871772321, 1873039755, 1874308048,
   1875577199, 1876847210, 1878118081, 1879389813, 1880662405, 1881935859, 1883210176, 1884485355]

def tabP13 : List Nat :=
  [1885761398, 1887038305, 1888316077, 1889594713, 1890874216, 1892154585, 1893435821, 1894717924,
   1896000896, 1897284736, 1898569446, 1899855026, 1901141476, 1902428797, 1903716990, 1905006055,
   1906295993, 1907586805, 1908878490, 1910171051, 1911464486, 1912758797, 1914053985, 1915350050,
   1916646992, 1917944813, 1919243512, 1920543091, 1921843549, 1923144889, 1924447109, 1925750211,
   1927054196, 1928359063, 1929664814, 1930971450, 1932278970, 1933587375, 1934896666, 1936206844,
   1937517909, 1938829862, 1940142704, 1941456434, 1942771053, 1944086563, 1945402964, 1946720256,
   1948038440, 1949357517, 1950677487, 1951998350, 1953320108, 1954642761, 1955966310, 1957290755,
   1958616096, 1959942335, 1961269472, 1962597508, 1963926443, 1965256278, 1966587013, 1967918650]

def tabP14 : List Nat :=
  [1969251188, 1970584628, 1971918972, 1973254219, 1974590370, 1975927425, 1977265386, 1978604253,
   1979944027, 1981284708, 1982626297, 1983968794, 1985312200, 1986656516, 1988001742, 1989347879,
   1990694927, 1992042888, 1993391761, 1994741548, 1996092249, 1997443864, 1998796395, 2000149841,
   2001504204, 2002859484, 2004215682, 2005572798, 2006930832, 2008289787, 2009649662, 2011010457,
   2012372174, 2013734813, 2015098375, 2016462860, 2017828268, 2019194602, 2020561860, 2021930045,
   2023299156, 2024669194, 2026040159, 2027412053, 2028784876, 2030158629, 2031533312, 2032908925,
   2034285470, 2035662947, 2037041357, 2038420700, 2039800978, 2041182189, 2042564337, 2043947420,
   2045331439, 2046716396, 2048102290, 2049489123, 2050876895, 2052265607, 2053655259, 2055045852]

def tabP15 : List Nat :=
  [2056437387, 2057829863, 2059223283, 2060617646, 2062012954, 2063409206, 2064806404, 2066204548,
   2067603638, 2069003676, 2070404662, 2071806597, 2073209480, 2074613314, 2076018099, 2077423834,
   2078830522, 2080238161, 2081646755, 2083056301, 2084466803, 2085878259, 2087290671, 2088704040,
   2090118366, 2091533649, 2092949891, 2094367091, 2095785251, 2097204372, 2098624453, 2100045496,
   2101467502, 2102890470, 2104314402, 2105739297, 2107165158, 2108591984, 2110019777, 2111448536,
   2112878262, 2114308957, 2115740621, 2117173254, 2118606857, 2120041430, 2121476975, 2122913493,
   2124350982, 2125789446, 2127228883, 2128669295, 2130110682, 2131553046, 2132996386, 2134440703,
   2135885998, 2137332272, 2138779525, 2140227759, 2141676973, 2143127168, 2144578345, 2146030505]

def tabP16 : List Nat :=
  [2147483648]

/-- P[i] = round(2^30 × 2^(i/1024)), i = 0 to 1,024 (03 R94). -/
def tabP : List Nat :=
  tabP0 ++ tabP1 ++ tabP2 ++ tabP3 ++ tabP4 ++ tabP5 ++ tabP6 ++ tabP7 ++ tabP8 ++ tabP9 ++ tabP10 ++ tabP11 ++ tabP12 ++ tabP13 ++ tabP14 ++ tabP15 ++ tabP16

def tabL0 : List Nat :=
  [0, 92, 184, 277, 369, 461, 552, 644,
   736, 827, 919, 1010, 1102, 1193, 1284, 1375,
   1466, 1557, 1648, 1738, 1829, 1919, 2010, 2100,
   2190, 2281, 2371, 2461, 2551, 2640, 2730, 2820,
   2909, 2999, 3088, 3178, 3267, 3356, 3445, 3534,
   3623, 3712, 3801, 3889, 3978, 4066, 4155, 4243,
   4331, 4419, 4507, 4595, 4683, 4771, 4859, 4947,
   5034, 5122, 5209, 5296, 5384, 5471, 5558, 5645]

def tabL1 : List Nat :=
  [5732, 5819, 5906, 5992, 6079, 6165, 6252, 6338,
   6425, 6511, 6597, 6683, 6769, 6855, 6941, 7027,
   7112, 7198, 7283, 7369, 7454, 7540, 7625, 7710,
   7795, 7880, 7965, 8050, 8134, 8219, 8304, 8388,
   8473, 8557, 8641, 8726, 8810, 8894, 8978, 9062,
   9146, 9229, 9313, 9397, 9480, 9564, 9647, 9731,
   9814, 9897, 9980, 10063, 10146, 10229, 10312, 10395,
   10477, 10560, 10642, 10725, 10807, 10890, 10972, 11054]

def tabL2 : List Nat :=
  [11136, 11218, 11300, 11382, 11464, 11546, 11627, 11709,
   11791, 11872, 11953, 12035, 12116, 12197, 12278, 12359,
   12440, 12521, 12602, 12683, 12764, 12844, 12925, 13005,
   13086, 13166, 13246, 13327, 13407, 13487, 13567, 13647,
   13727, 13807, 13886, 13966, 14046, 14125, 14205, 14284,
   14363, 14443, 14522, 14601, 14680, 14759, 14838, 14917,
   14996, 15075, 15153, 15232, 15310, 15389, 15467, 15546,
   15624, 15702, 15781, 15859, 15937, 16015, 16093, 16170]

def tabL3 : List Nat :=
  [16248, 16326, 16404, 16481, 16559, 16636, 16714, 16791,
   16868, 16945, 17023, 17100, 17177, 17254, 17331, 17407,
   17484, 17561, 17637, 17714, 17791, 17867, 17943, 18020,
   18096, 18172, 18248, 18325, 18401, 18477, 18552, 18628,
   18704, 18780, 18856, 18931, 19007, 19082, 19158, 19233,
   19308, 19384, 19459, 19534, 19609, 19684, 19759, 19834,
   19909, 19983, 20058, 20133, 20207, 20282, 20356, 20431,
   20505, 20579, 20654, 20728, 20802, 20876, 20950, 21024]

def tabL4 : List Nat :=
  [21098, 21172, 21245, 21319, 21393, 21466, 21540, 21614,
   21687, 21760, 21834, 21907, 21980, 22053, 22126, 22199,
   22272, 22345, 22418, 22491, 22564, 22636, 22709, 22782,
   22854, 22927, 22999, 23072, 23144, 23216, 23288, 23360,
   23433, 23505, 23577, 23648, 23720, 23792, 23864, 23936,
   24007, 24079, 24150, 24222, 24293, 24365, 24436, 24507,
   24579, 24650, 24721, 24792, 24863, 24934, 25005, 25076,
   25146, 25217, 25288, 25359, 25429, 25500, 25570, 25641]

def tabL5 : List Nat :=
  [25711, 25781, 25852, 25922, 25992, 26062, 26132, 26202,
   26272, 26342, 26412, 26482, 26551, 26621, 26691, 26760,
   26830, 26899, 26969, 27038, 27108, 27177, 27246, 27315,
   27384, 27453, 27523, 27591, 27660, 27729, 27798, 27867,
   27936, 28004, 28073, 28142, 28210, 28279, 28347, 28415,
   28484, 28552, 28620, 28689, 28757, 28825, 28893, 28961,
   29029, 29097, 29164, 29232, 29300, 29368, 29435, 29503,
   29571, 29638, 29706, 29773, 29840, 29908, 29975, 30042]

def tabL6 : List Nat :=
  [30109, 30176, 30244, 30311, 30378, 30444, 30511, 30578,
   30645, 30712, 30778, 30845, 30912, 30978, 31045, 31111,
   31178, 31244, 31310, 31377, 31443, 31509, 31575, 31641,
   31707, 31773, 31839, 31905, 31971, 32037, 32103, 32168,
   32234, 32300, 32365, 32431, 32496, 32562, 32627, 32693,
   32758, 32823, 32888, 32954, 33019, 33084, 33149, 33214,
   33279, 33344, 33409, 33473, 33538, 33603, 33668, 33732,
   33797, 33861, 33926, 33990, 34055, 34119, 34184, 34248]

def tabL7 : List Nat :=
  [34312, 34376, 34441, 34505, 34569, 34633, 34697, 34761,
   34825, 34888, 34952, 35016, 35080, 35143, 35207, 35271,
   35334, 35398, 35461, 35525, 35588, 35651, 35715, 35778,
   35841, 35904, 35968, 36031, 36094, 36157, 36220, 36283,
   36346, 36408, 36471, 36534, 36597, 36659, 36722, 36785,
   36847, 36910, 36972, 37035, 37097, 37159, 37222, 37284,
   37346, 37408, 37470, 37532, 37595, 37657, 37719, 37780,
   37842, 37904, 37966, 38028, 38090, 38151, 38213, 38275]

def tabL8 : List Nat :=
  [38336, 38398, 38459, 38521, 38582, 38643, 38705, 38766,
   38827, 38888, 38950, 39011, 39072, 39133, 39194, 39255,
   39316, 39377, 39438, 39498, 39559, 39620, 39681, 39741,
   39802, 39863, 39923, 39984, 40044, 40105, 40165, 40225,
   40286, 40346, 40406, 40466, 40527, 40587, 40647, 40707,
   40767, 40827, 40887, 40947, 41006, 41066, 41126, 41186,
   41246, 41305, 41365, 41424, 41484, 41543, 41603, 41662,
   41722, 41781, 41841, 41900, 41959, 42018, 42077, 42137]

def tabL9 : List Nat :=
  [42196, 42255, 42314, 42373, 42432, 42491, 42550, 42609,
   42667, 42726, 42785, 42844, 42902, 42961, 43019, 43078,
   43137, 43195, 43253, 43312, 43370, 43429, 43487, 43545,
   43603, 43662, 43720, 43778, 43836, 43894, 43952, 44010,
   44068, 44126, 44184, 44242, 44300, 44357, 44415, 44473,
   44530, 44588, 44646, 44703, 44761, 44818, 44876, 44933,
   44990, 45048, 45105, 45162, 45220, 45277, 45334, 45391,
   45448, 45505, 45562, 45619, 45676, 45733, 45790, 45847]

def tabL10 : List Nat :=
  [45904, 45961, 46018, 46074, 46131, 46188, 46244, 46301,
   46357, 46414, 46471, 46527, 46583, 46640, 46696, 46752,
   46809, 46865, 46921, 46977, 47034, 47090, 47146, 47202,
   47258, 47314, 47370, 47426, 47482, 47538, 47593, 47649,
   47705, 47761, 47816, 47872, 47928, 47983, 48039, 48094,
   48150, 48205, 48261, 48316, 48372, 48427, 48482, 48538,
   48593, 48648, 48703, 48758, 48813, 48869, 48924, 48979,
   49034, 49089, 49143, 49198, 49253, 49308, 49363, 49418]

def tabL11 : List Nat :=
  [49472, 49527, 49582, 49636, 49691, 49745, 49800, 49855,
   49909, 49963, 50018, 50072, 50127, 50181, 50235, 50289,
   50344, 50398, 50452, 50506, 50560, 50614, 50668, 50722,
   50776, 50830, 50884, 50938, 50992, 51046, 51100, 51153,
   51207, 51261, 51315, 51368, 51422, 51475, 51529, 51582,
   51636, 51689, 51743, 51796, 51850, 51903, 51956, 52010,
   52063, 52116, 52169, 52222, 52276, 52329, 52382, 52435,
   52488, 52541, 52594, 52647, 52700, 52752, 52805, 52858]

def tabL12 : List Nat :=
  [52911, 52964, 53016, 53069, 53122, 53174, 53227, 53279,
   53332, 53384, 53437, 53489, 53542, 53594, 53647, 53699,
   53751, 53804, 53856, 53908, 53960, 54012, 54064, 54117,
   54169, 54221, 54273, 54325, 54377, 54429, 54481, 54532,
   54584, 54636, 54688, 54740, 54791, 54843, 54895, 54946,
   54998, 55050, 55101, 55153, 55204, 55256, 55307, 55359,
   55410, 55461, 55513, 55564, 55615, 55667, 55718, 55769,
   55820, 55871, 55922, 55974, 56025, 56076, 56127, 56178]

def tabL13 : List Nat :=
  [56229, 56280, 56330, 56381, 56432, 56483, 56534, 56585,
   56635, 56686, 56737, 56787, 56838, 56889, 56939, 56990,
   57040, 57091, 57141, 57192, 57242, 57292, 57343, 57393,
   57443, 57494, 57544, 57594, 57644, 57695, 57745, 57795,
   57845, 57895, 57945, 57995, 58045, 58095, 58145, 58195,
   58245, 58295, 58344, 58394, 58444, 58494, 58543, 58593,
   58643, 58692, 58742, 58792, 58841, 58891, 58940, 58990,
   59039, 59089, 59138, 59187, 59237, 59286, 59335, 59385]

def tabL14 : List Nat :=
  [59434, 59483, 59532, 59582, 59631, 59680, 59729, 59778,
   59827, 59876, 59925, 59974, 60023, 60072, 60121, 60170,
   60219, 60267, 60316, 60365, 60414, 60462, 60511, 60560,
   60609, 60657, 60706, 60754, 60803, 60851, 60900, 60948,
   60997, 61045, 61094, 61142, 61190, 61239, 61287, 61335,
   61384, 61432, 61480, 61528, 61576, 61624, 61672, 61721,
   61769, 61817, 61865, 61913, 61961, 62009, 62056, 62104,
   62152, 62200, 62248, 62296, 62343, 62391, 62439, 62487]

def tabL15 : List Nat :=
  [62534, 62582, 62629, 62677, 62725, 62772, 62820, 62867,
   62915, 62962, 63010, 63057, 63104, 63152, 63199, 63246,
   63294, 63341, 63388, 63435, 63483, 63530, 63577, 63624,
   63671, 63718, 63765, 63812, 63859, 63906, 63953, 64000,
   64047, 64094, 64141, 64188, 64234, 64281, 64328, 64375,
   64421, 64468, 64515, 64562, 64608, 64655, 64701, 64748,
   64794, 64841, 64887, 64934, 64980, 65027, 65073, 65120,
   65166, 65212, 65259, 65305, 65351, 65397, 65444, 65490]

def tabL16 : List Nat :=
  [65536]

/-- L[i] = round(2^16 × log2(1 + i/1024)), i = 0 to 1,024 (03 R94). -/
def tabL : List Nat :=
  tabL0 ++ tabL1 ++ tabL2 ++ tabL3 ++ tabL4 ++ tabL5 ++ tabL6 ++ tabL7 ++ tabL8 ++ tabL9 ++ tabL10 ++ tabL11 ++ tabL12 ++ tabL13 ++ tabL14 ++ tabL15 ++ tabL16

end Sys2Proof.Machine
end

