-- ==== Sys2Proof/Machine/Survey.lean ====
section
/-!
DEFINITION. The cell update of the Survey engine: arithmetic (03 R91-R95), isotherms (R96, R98), the step of one cell
(R97, R99, R100). Working values are integers in the unit of the spec's line.
-/
namespace Sys2Proof.Machine

/-- rnd(v, s) = (v + 2^(s-1)) >> s (R91). -/
def rnd (v : Int) (s : Nat) : Int := (v + (2 ^ (s - 1) : Nat)) / (2 ^ s : Nat)

/-- divr(a, b): rounds half towards plus infinity; a divisor of 0 gives 0 (R91). -/
def divr (a b : Int) : Int :=
  if b = 0 then 0 else if b < 0 then Config.divrNeg a b else (2 * a + b) / (2 * b)

/-- The hash of R93 for cell index i, step frame N and salt t. -/
def dithHash (i n t : Nat) : Nat :=
  let h := (i * 0x9E3779B1 + n % 0x100000000 * 0x85EBCA77 + t * 0xC2B2AE3D) % 0x100000000
  let h := Nat.xor h (h / 0x10000)
  let h := h * 0x7FEB352D % 0x100000000
  Nat.xor h (h / 0x8000)

/-- dith(s, t) of R93. -/
def dith (i n s t : Nat) : Int := (dithHash i n t / 2 ^ (32 - s) : Nat)

/-- exp2q of R94: x in 2^-16, result in 2^-24. -/
def exp2q (x : Int) : Int :=
  let n := x / 65536
  let f := (x % 65536).toNat
  let i := f / 64
  let r := f % 64
  let v : Nat := tabP.getD i 0 + ((tabP.getD (i + 1) 0 - tabP.getD i 0) * r + 32) / 64
  let s := n - 6
  if 2 ≤ s then 0xFFFFFFFF
  else if 0 ≤ s then (v * 2 ^ s.toNat : Nat)
  else if s < -31 then 0
  else ((v + 2 ^ ((-s).toNat - 1)) / 2 ^ (-s).toNat : Nat)

/-- log2q of a positive number with q fraction bits (R94). -/
def log2qPos (y q : Nat) : Int :=
  let p := Nat.log2 y
  let f := (if 16 ≤ p then y / 2 ^ (p - 16) else y * 2 ^ (16 - p)) % 65536
  let i := f / 64
  let r := f % 64
  let l : Nat := tabL.getD i 0 + ((tabL.getD (i + 1) 0 - tabL.getD i 0) * r + 32) / 64
  ((p : Int) - q) * 65536 + l

/-- log2q of R94; 0 gives -0x8000_0000 (and sets SAT where it is used in a cell). -/
def log2q (y : Int) (q : Nat) : Int :=
  if y = 0 then -0x80000000 else if y < 0 then Config.log2Neg y q else log2qPos y.toNat q

/-! Constants of Table 3-6. -/
def cLN2 : Int := 45426
def cLOG2E : Int := 94548
def cLOG2LN2 : Int := -34653
def cLOG2H : Int := 774228
def cK622 : Int := 10435428
def cMG : Int := 1666417
def cMB : Int := 995492
def cTK : Int := 1118822
def cCA : Int := 65929
def cCV : Int := 121897
def cCW : Int := 274334
def cL0 : Int := 640256
def cL1 : Int := 604

/-- A map cell (Table 3-2). -/
structure Cell where
  m : Nat
  t : Int
  age : Nat
  dml : Nat
  stress : Nat
  lot : Nat
  dry : Nat
  var : Nat
  flags : Nat
deriving DecidableEq, Repr

/-- An unoccupied cell: every field 0 (R82). -/
def emptyCell : Cell := { m := 0, t := 0, age := 0, dml := 0, stress := 0, lot := 0, dry := 0, var := 0, flags := 0 }

/-! Cell flags (Table 3-3). -/
def cfOccupied : Nat := 0
def cfInletEst : Nat := 1
def cfProbe : Nat := 2
def cfBack : Nat := 3
def cfSensorLost : Nat := 4
def cfRepaired : Nat := 5
def cfSat : Nat := 6
def cfAirLimit : Nat := 7
def cfOverheat : Nat := 8
def cfHotSpot : Nat := 9

/-- Set or clear bit `b` of the flags. -/
def flagTo (b : Nat) (v : Bool) (f : Nat) : Nat :=
  if bit f b then (if v then f else f - 2 ^ b) else (if v then f + 2 ^ b else f)

def Cell.occ (c : Cell) : Bool := bit c.flags cfOccupied
def Cell.legend (c : Cell) : Nat := bits c.flags 15 12
def Cell.conf (c : Cell) : Nat := bits c.flags 11 10
def Cell.setFlag (c : Cell) (b : Nat) (v : Bool) : Cell := { c with flags := flagTo b v c.flags }
/-- Set CONF, bits 11:10. -/
def Cell.setConf (c : Cell) (v : Nat) : Cell :=
  { c with flags := c.flags - bits c.flags 11 10 * 1024 + v % 4 * 1024 }

/-- The 32 bytes of a cell (Table 3-2). -/
def cellBytes (c : Cell) : Bytes :=
  leBytes 2 c.m ++ leBytes 2 (ofS 16 c.t) ++ leBytes 4 c.age ++ leBytes 2 c.dml ++ leBytes 2 c.stress ++ leBytes 4 c.lot ++
  leBytes 4 c.dry ++ leBytes 2 c.var ++ leBytes 2 c.flags ++ zeros 8

/-- The cell that 32 bytes spell. -/
def cellOfBytes (b : Bytes) : Cell :=
  { m := u16 b 0, t := s16 b 2, age := u32 b 4, dml := u16 b 8, stress := u16 b 10, lot := u32 b 12, dry := u32 b 16,
    var := u16 b 20, flags := u16 b 22 }

/-- Kinetics block of a Legend (Table 3-7), with the maximum kernel temperature of its limits block (05 Table 5-5). -/
structure Kin where
  iso : Nat
  la : Int
  inv : Int
  c : Int
  kl : Int
  ke : Int
  kh : Int
  ht : Int
  cg : Int
  lf : Int
  dens : Int
  d0 : Int
  d1 : Int
  d2 : Int
  sg : Int
  sc : Int
  ct : Int
  maxT : Int
deriving DecidableEq, Repr

/-- The kinetics block of a Legend image; a block beyond LENGTH reads as zero (Table 3-10). -/
def kinOf (img : Bytes) : Kin :=
  { iso := u8 img 0x40, la := s32 img 0x44, inv := u32 img 0x48, c := s32 img 0x4C, kl := s32 img 0x50, ke := u32 img 0x54,
    kh := u16 img 0x58, ht := u32 img 0x5C, cg := u32 img 0x60, lf := u16 img 0x64, dens := u32 img 0x68, d0 := s32 img 0x6C,
    d1 := s32 img 0x70, d2 := s32 img 0x74, sg := u32 img 0x78, sc := u32 img 0x7C, ct := u32 img 0x80,
    maxT := s16 img 0xC0 }

/-- What R96 computes once per Legend: the block and phi. -/
structure LegEnv where
  kin : Kin
  phi : Int
deriving DecidableEq, Repr

/-- What R96 computes once per map and zone. -/
structure ZoneEnv where
  stepFrames : Nat
  frame : Nat
  psc : Int
  ma : Int
  wamb : Int
  taIn : Int
  /-- a zero divisor met in the lines of wamb (R91) -/
  sat : Bool
deriving DecidableEq, Repr

/-- dt = step_frames * 32768, 2^-16 s. -/
def stepDt (stepFrames : Nat) : Int := stepFrames * 32768

/-- phi[g] (R96). -/
def legPhi (k : Kin) (dt : Int) : Int := 16777216 - exp2q (-(rnd (rnd (k.ht * dt) 24 * cLOG2E) 16))

/-- PSC of a map (R95): 0 means 101,325 Pa. -/
def pscOf (pressure : Nat) : Int := log2q 156401 8 - log2q (if pressure = 0 then 101325 else pressure : Nat) 0

/-- psr(t) of R96: saturation pressure over ambient pressure, 2^-24. -/
def psr (psc t : Int) : Int := exp2q (psc + divr (cMG * t) (t + cMB))

/-- Ambient humidity ratio of R96 and whether a divisor was 0. -/
def wambOf (psc ambT ambRh : Int) : Int × Bool :=
  let ra := psr psc (ambT * 32)
  let xa := rnd (ambRh * ra) 16
  (divr (cK622 * xa) (16777216 - xa), decide (ambT * 32 + cMB = 0) || decide (16777216 - xa = 0))

/-- ma of R96: g of dry air per cell. -/
def airMass (flow : Int) (stepFrames strands : Nat) : Int := divr (flow * stepFrames * 500) (256 * strands)

/-- The isotherm of R98, with whether a logarithm of 0 was met (R94). -/
def isotherm (k : Kin) (rh tc : Int) : Int × Bool :=
  if k.iso = 2 then
    let a := log2q rh 20
    let y := log2q tc 12 + log2q (-a) 16 + cLOG2LN2 - k.la
    (clampI 0 16777215 (-(rnd (rnd (y * cLN2) 16 * k.inv) 16)), decide (rh = 0) || decide (a = 0) || decide (tc = 0))
  else
    let a := log2q (1048576 - rh) 20
    let y := log2q (-a) 16 + cLOG2LN2 - k.la - log2q tc 12
    (clampI 0 16777215 (exp2q (rnd (y * k.inv) 24)), decide (1048576 - rh = 0) || decide (a = 0) || decide (tc = 0))

/-- Air on its way through a strand: temperature 2^-12 °C, humidity ratio 2^-24. -/
structure Air where
  ta : Int
  w : Int
deriving DecidableEq, Repr

/-- Stored u16 field: saturates (R92). -/
def storeU16 (v : Int) : Nat := (clampI 0 65535 v).toNat
def outU16 (v : Int) : Bool := decide (v < 0) || decide (65535 < v)
/-- Stored s16 field: saturates (R92). -/
def storeS16 (v : Int) : Int := clampI (-32768) 32767 v
def outS16 (v : Int) : Bool := decide (v < -32768) || decide (32767 < v)

/-- The dry-matter loss line of R97: the stored value and whether it saturated. -/
def lossLine (z : ZoneEnv) (k : Kin) (i : Nat) (c : Cell) (tg m : Int) : Nat × Bool :=
  let ldth := log2q (stepDt z.stepFrames) 16 - cLOG2H
  let ld := k.d0 + rnd (k.d1 * tg) 12 + rnd (k.d2 * m) 24 + ldth
  let v : Int := c.dml + (exp2q ld + dith i z.frame 24 3) / 16777216
  (storeU16 v, outU16 v)

/-- Bits 8:6 written afresh (R83, R100). -/
def stepFlags (f : Nat) (sat air hot : Bool) : Nat :=
  flagTo cfOverheat hot (flagTo cfAirLimit air (flagTo cfSat sat f))

/-- OVERHEAT after an update (R100): a MAX_KERNEL of 0 is no limit (05 R158). -/
def tooHot (k : Kin) (t : Int) : Bool := k.maxT != 0 && decide (k.maxT < t)

/-- The update of R97 when ma is 0: the loss line and the cell's own values. -/
def cellStill (z : ZoneEnv) (k : Kin) (i : Nat) (c : Cell) : Cell :=
  let d := lossLine z k i c (c.t * 32) (c.m * 256)
  { c with dml := d.1, flags := stepFlags c.flags d.2 false (tooHot k c.t) }

/-- The update of an occupied cell (R97, R99, R100): the cell and the air that leaves it. -/
def cellUpdate (z : ZoneEnv) (g : LegEnv) (i : Nat) (air : Air) (c : Cell) : Cell × Air :=
  let k := g.kin
  if z.ma = 0 then (cellStill z k i c, air)
  else
    let ma := z.ma
    let dt := stepDt z.stepFrames
    let ldt := log2q dt 16
    let ta := air.ta
    let w := air.w
    let m : Int := c.m * 256
    let tg0 := c.t * 32
    let ca := ma * (cCA + rnd (cCV * w) 24)
    let cg : Int := c.dry * (k.cg + rnd (cCW * m) 24)
    let dtg := rnd (divr ((ta - tg0) * ca) (ca + cg) * g.phi) 24
    let tg := tg0 + dtg
    let ta := ta - divr (cg * dtg) ca
    let r := psr z.psc ta
    let x := divr (w * 16777216) (cK622 + w)
    let rh := clampI 1 1048575 (divr (x * 1048576) r)
    let tc := max (ta + k.c * 32) 32
    let me := isotherm k rh tc
    let fh := 1048576 - rnd (k.kh * rh) 16
    let lk := k.kl - divr (k.ke * 1048576) (tg + cTK) + log2q fh 20 + ldt
    let e := exp2q (-(rnd (exp2q lk * cLOG2E) 24))
    let mn := me.1 + rnd ((m - me.1) * e) 24
    let dw := rnd (c.dry * (m - mn)) 8
    -- R99
    let wsat := divr (cK622 * r) (16777216 - r)
    let dwmax := max 0 (rnd (ma * (wsat - w) * 7) 11)
    let lim := decide (0 < dw) && decide (r < 16777216) && decide (dwmax < dw)
    let mn := if lim then m - divr (dwmax * 256) c.dry else mn
    let dw := if lim then dwmax else dw
    let lat := rnd ((cL0 - rnd (cL1 * tg) 12) * k.lf) 14
    let ta' := ta - divr (dw * lat * 16) ca
    let w' := w + divr (dw * 256) ma
    let loss := lossLine z k i c tg m
    let ex := max 0 ((tg0 - tg) - rnd (k.ct * dt) 20)
    let st := rnd (k.sg * (m - mn).natAbs) 8 + k.sc * ex * 16
    let vm := (mn + dith i z.frame 8 1) / 256
    let vt := (tg + dith i z.frame 5 2) / 32
    let vs : Int := c.stress + (st + dith i z.frame 24 4) / 16777216
    let zero := decide (ca + cg = 0) || decide (ca = 0) || decide (ta + cMB = 0) || decide (cK622 + w = 0) || decide (r = 0) ||
      decide (tg + cTK = 0) || decide (fh = 0) || me.2 || (lim && decide (c.dry = 0))
    let sat := z.sat || zero || outU16 vm || outS16 vt || loss.2 || outU16 vs
    ({ c with m := storeU16 vm, t := storeS16 vt, dml := loss.1, stress := storeU16 vs,
              var := storeU16 (rnd (rnd (c.var * e) 24 * e) 24),
              flags := stepFlags c.flags sat lim (tooHot k (storeS16 vt)) },
     { ta := ta', w := w' })

/-- A cell of a strand: an unoccupied cell passes the air unchanged (R97). `legs` holds slots 0-14. -/
def cellStep (z : ZoneEnv) (legs : List LegEnv) (air : Air) (ic : Nat × Cell) : Cell × Air :=
  if ic.2.occ then
    match legs[ic.2.legend]? with
    | some g => cellUpdate z g ic.1 air ic.2
    | none => (ic.2, air)
  else (ic.2, air)

/-- A strand in air order (R80, R89). -/
def strandStep (z : ZoneEnv) (legs : List LegEnv) : Air → List (Nat × Cell) → List Cell
  | _, [] => []
  | air, ic :: r =>
    let o := cellStep z legs air ic
    o.1 :: strandStep z legs o.2 r

/-- The same row of parallel strands (BIN): new cells and leaving air, column by column. -/
def rowStep (z : ZoneEnv) (legs : List LegEnv) : List Air → List (Nat × Cell) → List (Cell × Air)
  | a :: as, ic :: r => cellStep z legs a ic :: rowStep z legs as r
  | _, _ => []

/-- Rows of a BIN map from the floor up (given floor first): new rows in the same order. -/
def binRows (z : ZoneEnv) (legs : List LegEnv) : List Air → List (List (Nat × Cell)) → List (List Cell)
  | _, [] => []
  | as, row :: rest =>
    let o := rowStep z legs as row
    o.map Prod.fst :: binRows z legs (o.map Prod.snd) rest

end Sys2Proof.Machine
end

