-- ==== Sys2Proof/Machine/TypesMap.lean ====
section
/-!
DEFINITION. State of Grain Maps, fusion and prediction, as plain data (03, 04).
-/
namespace Sys2Proof.Machine

/-- Inlet state (04 Table 4-8). -/
structure Inlet where
  m : Nat
  var : Nat
  t : Int
  legend : Nat
  measured : Bool
  valid : Bool
  lot : Nat
  est : Nat
  pIn : Nat
deriving DecidableEq, Repr

/-- Outlet record (03 Table 3-8). -/
structure OutRec where
  frame : Nat
  age : Nat
  m : Nat
  t : Int
  var : Nat
  map : Nat
  legend : Nat
  lot : Nat
  hi : Nat
  lo : Nat
  flags : Nat
  seq : Nat
deriving DecidableEq, Repr

/-- The open pair (04 R129, R130): opening frame, sum and count of its samples. -/
structure OpenPair where
  opened : Nat
  sum : Int
  cnt : Nat
deriving DecidableEq, Repr

/-- Pair entry (04 Table 4-9). -/
structure PairEntry where
  frame : Nat
  age : Nat
  recM : Nat
  mean : Nat
  y : Int
  bias : Int
  cnt : Nat
  map : Nat
  legend : Nat
  seq : Nat
  flags : Nat
deriving DecidableEq, Repr

/-- Inlet history entry (04 R128): frame, fill moisture 2^-24 d.b., measured mark. -/
structure HistEntry where
  frame : Nat
  m24 : Nat
  measured : Bool
deriving DecidableEq, Repr

/-- Bias state of a Legend slot (04 R133, Table 4-16). -/
structure BiasSt where
  b : Int
  p : Nat
  last : Nat
  pairs : Nat
  gated : Nat
deriving DecidableEq, Repr

/-- One ensemble entry (04 R146). -/
structure PredStep where
  mean : Nat
  spread : Nat
  low : Nat
  high : Nat
  /-- flagged NO_GRAIN: no member has grain (R145, R146) -/
  noGrain : Bool
deriving DecidableEq, Repr

/-- Candidate block (04 Table 4-12). -/
structure CandBlk where
  factor : Nat
  flags : Nat
  maxT : Int
  rows : Nat
  lost : Nat
  steps : List PredStep
deriving DecidableEq, Repr

/-- Prediction result (04 Table 4-11). -/
structure PredResult where
  bound : Nat
  start : Nat
  map : Nat
  members : Nat
  horizon : Nat
  q : Nat
  predStep : Nat
  flags : Nat
  cands : List CandBlk
deriving DecidableEq, Repr

/-- What one prediction step of a member yields (R145): dry-mass sums and the Legend with the largest dry mass; for
BATCH and RECIRC the cells' moistures with their dry masses. -/
structure MemStep where
  grain : Bool
  v : Int
  legend : Nat
  cells : List (Nat × Nat)
deriving DecidableEq, Repr

/-- What one member's run yields over its horizon. -/
structure MemRun where
  cand : Nat
  member : Nat
  steps : List MemStep
  overheat : Bool
  airLimit : Bool
  maxT : Int
  seen : Bool
  rows : Nat
  lost : Int
deriving DecidableEq, Repr

/-- Zone air of a prediction (R141): dry-air flow and entering temperature (2^-12 °C). -/
structure ZoneAir where
  flow : Int
  ta : Int
deriving DecidableEq, Repr

/-- A Grain Map's shape (03 R79, Table 3-4). -/
structure Shape where
  num : Nat
  kind : Nat
  rows : Nat
  slices : Nat
  sections : Nat
  rowVol : Nat
deriving DecidableEq, Repr

/-- A prediction under way (04 R140-R147): the inputs of frame S and the runs. -/
structure PredJob where
  start : Nat
  bound : Nat
  shape : Shape
  cells : List Cell
  adv : Nat
  rot : Nat
  inlet : Option Inlet
  fillT : Int
  fillLegend : Nat
  fillLot : Nat
  psc : Int
  ambT : Int
  ambRh : Int
  zones : List ZoneAir
  bias : List Int
  legends : List Bytes
  q : Nat
  fromNom : Bool
  rotFrame : Nat
  members : Nat
  predStep : Nat
  horizon : Nat
  factors : List Nat
  zoneRows : List (Nat × Nat)
  /-- runs not yet begun: (candidate, member) -/
  todo : List (Nat × Nat)
  done : List MemRun
deriving DecidableEq, Repr

/-- A Grain Map (03, 04). -/
structure GMap where
  shape : Shape
  cells : List Cell
  adv : Nat
  rot : Nat
  fill : Nat
  outSeq : Nat
  /-- samples of the running step period: source, frame, value, in stamp order (R88) -/
  acc : List (Nat × Nat × Int)
  /-- inputs of the last step by source (R88) -/
  held : List (Nat × Int)
  steps : Nat
  /-- frame of the last step that was not aborted (05 R174, R183) -/
  stepAt : Option Nat
  repaired : Bool
  aborted : Bool
  clipped : Bool
  stale : Bool
  noInlet : Bool
  /-- a BIN map without valid cells is reseeded at its next step (06 R209); a dryer map never -/
  invalid : Bool
  inlet : Inlet
  history : List HistEntry
  queue : List OutRec
  openPair : Option OpenPair
  pairLog : List PairEntry
  /-- a step has formed the inlet state since its load values came in (R126, R127) -/
  formed : Bool
  /-- rotation volumes of the steps of the last 1,200 frames with their frames, oldest first (R142) -/
  rots : List (Nat × Nat)
  results : List PredResult
  /-- predictions under way, oldest first: the first one runs, the others wait for it (R148) -/
  jobs : List PredJob
deriving DecidableEq, Repr

/-- A map's block in a save image (04 R151). -/
structure SaveBlock where
  num : Nat
  kind : Nat
  rows : Nat
  slices : Nat
  sections : Nat
  adv : Nat
  rot : Nat
  fill : Nat
  outSeq : Nat
  inlet : Inlet
  history : List HistEntry
  queue : List OutRec
  openPair : Option OpenPair
  cells : List Cell
deriving DecidableEq, Repr

end Sys2Proof.Machine
end

