-- ==== Sys2Proof/Machine/MapStep.lean ====
section
/-!
DEFINITION. A map's step: inputs (03 R88), zones and air (R96), advection (R101-R106), the inlet state (04 R127), pairing,
bias and back-survey (R129-R136), probes (R137), cable interpolation (R138, R139).
-/
namespace Sys2Proof.Machine

/-- Cells of one row. -/
def Shape.width (h : Shape) : Nat := h.sections * h.slices

/-- Samples of a source in the step period: (frame, value) in stamp order. -/
def samplesOf (acc : List (Nat × Nat × Int)) (src : Nat) : List (Nat × Int) :=
  (acc.filter fun e => e.1 == src).map Prod.snd

def sumI (l : List Int) : Int := l.foldl (· + ·) 0
def sumN (l : List Nat) : Nat := l.foldl (· + ·) 0

/-- Mean by R88, where the source has samples. -/
def meanOf (acc : List (Nat × Nat × Int)) (src : Nat) : Option Int :=
  let l := samplesOf acc src
  if src = 0 ∨ l = [] then none else some (divr (sumI (l.map Prod.snd)) l.length)

/-- Input of a temperature, flow or humidity source: the mean, or the previous input and stale (R88). -/
def meanInput (m : GMap) (src : Nat) : Int × Bool :=
  if src = 0 then (0, false)
  else match meanOf m.acc src with
    | some v => (v, false)
    | none => ((lookupKey src m.held).getD 0, true)

/-- Input of a meter source: the sum, a negative sample counting as 0 (R88). -/
def meterInput (m : GMap) (src : Nat) : Nat × Bool :=
  if src = 0 then (0, false)
  else
    let l := samplesOf m.acc src
    ((sumI (l.map fun e => max e.2 0)).toNat, l.isEmpty)

/-- Rows of a map, row 0 first. -/
def rowsOf (h : Shape) (cells : List Cell) : List (List Cell) :=
  let w := h.width
  (List.range h.rows).map fun r => (cells.drop (r * w)).take w

/-- A row that holds grain. -/
def rowOcc (row : List Cell) : Bool := row.any Cell.occ

def emptyRow (h : Shape) : List Cell := List.replicate h.width emptyCell

/-- What a fill puts into a row (R102, R103). -/
structure Fill where
  m : Nat
  var : Nat
  t : Int
  lot : Nat
  legend : Nat
  est : Bool
  /-- a value saturated on its way into the cells (R92) -/
  sat : Bool
deriving DecidableEq, Repr

/-- A filled cell (R102): dry mass from the Legend's DRY_DENSITY. -/
def fillCell (h : Shape) (dens : Int) (f : Fill) : Cell :=
  let dm := divr (h.rowVol * dens) (1024000 * h.slices * h.sections)
  { m := f.m, t := f.t, age := 0, dml := 0, stress := 0, lot := f.lot, dry := (clampI 0 0xFFFFFFFF dm).toNat, var := f.var,
    flags := 1 + 3 * 1024 + f.legend % 16 * 4096 + (if f.est then 2 else 0) + 64 * b2n (f.sat || decide (0xFFFFFFFF < dm)) }

def fillRow (h : Shape) (dens : Int) (f : Fill) : List Cell := List.replicate h.width (fillCell h dens f)

/-- Dry mass of a list of cells and dry-mass-weighted sums (R104). -/
def dryOf (cs : List Cell) : Nat := sumN (cs.map Cell.dry)
def wsum (cs : List Cell) (f : Cell → Int) : Int := sumI (cs.map fun c => (c.dry : Int) * f c)

/-- Key with the largest dry mass, the lowest key on a tie. -/
def heaviest (cs : List Cell) (key : Cell → Nat) : Nat :=
  let tally := cs.foldl (fun (acc : List (Nat × Nat)) c => insertKey (key c) (((lookupKey (key c) acc).getD 0) + c.dry) acc) []
  (tally.foldl (fun (best : Option (Nat × Nat)) p =>
    match best with
    | none => some p
    | some b => if b.2 < p.2 then some p else some b) none |>.map Prod.fst).getD 0

/-- Bitwise OR of the flags of cells. -/
def orFlags (cs : List Cell) : Nat := maskOf 16 fun i => cs.any fun c => bit c.flags i

def maxN (l : List Nat) : Nat := l.foldl max 0
def minN (l : List Nat) : Nat := match l with | [] => 0 | a :: r => r.foldl min a

/-- The outlet record of a row that leaves in frame `n` (Table 3-8, R104); a row without grain emits none. Where the cells of a row
differ in age, as after a repair or a restore, the spec names no rule, and the record takes the highest age
(notes/assumptions/43.md). -/
def outletOf (mapNo n seq : Nat) (row : List Cell) : Option OutRec :=
  let cs := row.filter Cell.occ
  if cs = [] then none
  else
    let total : Int := dryOf cs
    let mean := storeU16 (divr (wsum cs fun c => c.m) total)
    let dev := rnd (wsum cs fun c => ((c.m : Int) - mean) * ((c.m : Int) - mean)) 8
    some { frame := n, age := maxN (cs.map Cell.age), m := mean, t := storeS16 (divr (wsum cs Cell.t) total),
           var := storeU16 (divr (dev + wsum cs fun c => c.var) total), map := mapNo, legend := heaviest cs Cell.legend,
           lot := heaviest cs Cell.lot, hi := maxN (cs.map Cell.m), lo := minN (cs.map Cell.m), flags := orFlags cs,
           seq := seq % 65536 }

/-- The outlet records of rows in the order given, with the next sequence number. -/
def outletsOf (mapNo n : Nat) : Nat → List (List Cell) → List OutRec × Nat
  | seq, [] => ([], seq)
  | seq, row :: rest =>
    match outletOf mapNo n seq row with
    | none => outletsOf mapNo n seq rest
    | some o =>
      let r := outletsOf mapNo n ((seq + 1) % 65536) rest
      (o :: r.1, r.2)

/-- Rows that hold grain, counted as one block that ends at the bottom (R105). -/
def occRows (rows : List (List Cell)) : Nat := (rows.filter rowOcc).length

/-- Rows to move from a credit: (rows moved, credit kept, clipped) with `avail` rows available (R101). -/
def takeRows (credit rowVol avail : Nat) : Nat × Nat × Bool :=
  let k := if rowVol = 0 then 0 else credit / rowVol
  (min k avail, credit - k * rowVol, decide (avail < k))

/-- A credit accumulator with an input added (R101). -/
def addCredit (credit input : Nat) : Nat × Bool := (min (credit + input) 0xFFFFFFFF, decide (0xFFFFFFFF < credit + input))

/-- The bottom `k` rows, bottom row first. -/
def bottomRows (rows : List (List Cell)) (k : Nat) : List (List Cell) := rows.reverse.take k

/-- Rows move down by k; `top` rows enter above (given top first, k of them). -/
def shiftDown (rows top : List (List Cell)) (k : Nat) : List (List Cell) := top ++ rows.take (rows.length - k)

/-- Put the block of `n` rows at the bottom of a map of `total` rows. -/
def blockAtBottom (h : Shape) (block : List (List Cell)) : List (List Cell) :=
  List.replicate (h.rows - block.length) (emptyRow h) ++ block

/-- What advection gives: rows, credits, outlet rows (in emission order), clipped, rows filled. -/
structure Moved where
  rows : List (List Cell)
  adv : Nat
  rot : Nat
  fill : Nat
  out : List (List Cell)
  clipped : Bool
  filled : Nat
  /-- rows of `out` that left by the discharge or unload credit -/
  left : Nat
deriving DecidableEq, Repr

/-- Advection by R102, R105, R106 from credits that already hold the step's inputs. -/
def advect (h : Shape) (dens : Int) (f : Fill) (rows : List (List Cell)) (adv rot fill : Nat) : Moved :=
  if h.kind = kCont then
    let (k, keep, clip) := takeRows adv h.rowVol h.rows
    { rows := shiftDown rows (List.replicate k (fillRow h dens f)) k, adv := keep, rot := rot, fill := fill,
      out := bottomRows rows k, clipped := clip, filled := k, left := k }
  else
    let n := occRows rows
    let (k, keepA, clipA) := takeRows adv h.rowVol n
    let block := (rows.drop (h.rows - n)).take (n - k)
    let n := n - k
    let (kr, keepR, clipR) := if h.kind = kRecirc then takeRows rot h.rowVol n else (0, rot, false)
    let turned := block.drop (n - kr)
    let block2 := turned ++ block.take (n - kr)
    let (kf, keepF, clipF) := takeRows fill h.rowVol (h.rows - n)
    { rows := blockAtBottom h (List.replicate kf (fillRow h dens f) ++ block2), adv := keepA, rot := keepR, fill := keepF,
      out := bottomRows rows k ++ turned.reverse, clipped := clipA || clipR || clipF, filled := kf, left := k }

/-- The zone that a row belongs to. -/
def zoneAt (zs : List (Nat × Nat × ZoneEnv)) (row : Nat) : Option ZoneEnv :=
  (zs.find? fun z => decide (z.1 ≤ row) && decide (row ≤ z.2.1)).map fun z => z.2.2

/-- Indexed cells of a row. -/
def indexRow (h : Shape) (row : Nat) (cs : List Cell) : List (Nat × Cell) :=
  (List.range cs.length).zip cs |>.map fun p => (row * h.width + p.1, p.2)

/-- The cells of a dryer row: one strand a section (R80). -/
def dryerRow (h : Shape) (legs : List LegEnv) (z : ZoneEnv) (row : Nat) (cs : List Cell) : List Cell :=
  let ic := indexRow h row cs
  ((List.range h.sections).map fun s =>
    strandStep z legs { ta := z.taIn, w := z.wamb } ((ic.drop (s * h.slices)).take h.slices)).flatten

/-- All cell updates of a step (R89), zones given with first and last row. -/
def updateCells (h : Shape) (legs : List LegEnv) (zs : List (Nat × Nat × ZoneEnv)) (cells : List Cell) : List Cell :=
  let rows := (List.range h.rows).zip (rowsOf h cells)
  if h.kind = kBin then
    match zs with
    | [] => cells
    | z :: _ =>
      let up := rows.reverse.map fun p => indexRow h p.1 p.2
      (binRows z.2.2 legs (List.replicate h.width { ta := z.2.2.taIn, w := z.2.2.wamb }) up).reverse.flatten
  else
    (rows.map fun p =>
      match zoneAt zs p.1 with
      | none => p.2
      | some z => dryerRow h legs z p.1 p.2).flatten

/-- Ages rise by the step's frames (R89). -/
def ageCells (n : Nat) (cs : List Cell) : List Cell :=
  cs.map fun c => if c.occ then { c with age := min (c.age + n) 0xFFFFFFFF } else c

/-- Strands of a zone (R84). -/
def strandsOf (h : Shape) (first last : Nat) : Nat :=
  if h.kind = kBin then h.slices * h.sections else (last + 1 - first) * h.sections

/-- Once-per-zone values of R96. -/
def zoneEnvOf (h : Shape) (stepFrames n : Nat) (psc ambT : Int) (wamb : Int × Bool) (zkind first last : Nat) (flow temp : Int) :
    ZoneEnv :=
  { stepFrames := stepFrames, frame := n, psc := psc, ma := airMass flow stepFrames (strandsOf h first last),
    wamb := wamb.1, taIn := if zkind = 1 then temp * 32 else ambT * 32, sat := wamb.2 }

/-- The Legend environments of slots 0-14 for a step of dt (R96). -/
def legEnvs (imgs : List Bytes) (dt : Int) : List LegEnv :=
  imgs.map fun im => let k := kinOf im; { kin := k, phi := legPhi k dt }

/-- What a step of a map reads from the Datum. -/
structure MapRecs where
  mr : Bytes
  zones : List Bytes
  fusion : Option Bytes
  probes : List Bytes
  geom : Option Bytes
  sensors : List Bytes
deriving DecidableEq, Repr

def mapRecsOf (d : Datum) (r : Bytes) : MapRecs :=
  let fu := d.fusionOf (mapNum r)
  let ge := d.geomOf (mapNum r)
  { mr := r, zones := d.zonesOf r, fusion := fu,
    probes := match fu with | some f => d.run tyProbe (fuProbeBase f) (fuProbes f) | none => [],
    geom := ge, sensors := match ge with | some g => d.run tySensor (geBase g) (geCount g) | none => [] }

def shapeOf (r : Bytes) : Shape :=
  { num := mapNum r, kind := mapKind r, rows := mapRows r, slices := mapSlices r, sections := mapSections r,
    rowVol := mapRowVol r }

/-- IN_VAR_EST of a Legend image (04 Table 4-7). -/
def lgInVarEst (img : Bytes) : Nat := u32 img 0x11C
def lgBiasQ (img : Bytes) : Nat := u32 img 0x100
def lgOutR (img : Bytes) : Nat := u32 img 0x104
def lgInR (img : Bytes) : Nat := u32 img 0x108
def lgBiasP0 (img : Bytes) : Nat := u32 img 0x10C
def lgBiasMax (img : Bytes) : Nat := u16 img 0x110
def lgGate (img : Bytes) : Nat := u16 img 0x112
def lgBsWeight (img : Bytes) : Nat := u16 img 0x114
def lgBsMax (img : Bytes) : Nat := u16 img 0x116
def lgPairMin (img : Bytes) : Nat := u8 img 0x118

/-- Image of a Legend slot; an empty slot reads as zeros. -/
def legImg (imgs : List Bytes) (slot : Nat) : Bytes := imgs.getD slot []

/-- Population variance of R127, 2^-40 (d.b.)². -/
def popVar (xs : List Int) : Int :=
  let n : Int := xs.length
  divr ((n * sumI (xs.map fun x => x * x) - sumI xs * sumI xs) * 256) (n * n)

/-- The inlet state formed at a step's start (R127) and whether the map has one. -/
def formInlet (imgs : List Bytes) (m : GMap) (r : MapRecs) (ambT : Int) : Inlet × Bool :=
  let f := r.fusion.getD []
  let t := storeS16 ((meanOf m.acc (fuInT f)).getD ambT)
  let xs := (samplesOf m.acc (fuInM f)).map Prod.snd
  let lg := legImg imgs m.inlet.legend
  if fuInM f ≠ 0 ∧ xs ≠ [] then
    let mean := storeU16 (divr (sumI xs) xs.length)
    ({ m.inlet with m := mean, measured := true, valid := true, t := t,
                    var := storeU16 (rnd (lgInR lg + popVar xs) 16), est := mean * 256, pIn := lgInVarEst lg }, true)
  else if m.inlet.valid then
    ({ m.inlet with m := storeU16 (rnd m.inlet.est 8), var := storeU16 (rnd m.inlet.pIn 16), measured := false, t := t }, true)
  else ({ m.inlet with t := t }, false)

/-- What fills rows in a step (R102, R103). A BIN map keeps no inlet state. -/
def fillOf (m : GMap) (r : MapRecs) (inl : Inlet × Bool) (ambT : Int) : Fill :=
  if m.shape.kind = kBin then
    { m := 0, var := 0, t := storeS16 ambT, lot := 0, legend := mapLegend r.mr, est := true, sat := outS16 ambT }
  else if inl.2 then
    { m := inl.1.m, var := inl.1.var, t := inl.1.t, lot := inl.1.lot, legend := inl.1.legend, est := !inl.1.measured, sat := false }
  else { m := 0, var := 0, t := storeS16 ambT, lot := inl.1.lot, legend := inl.1.legend, est := true, sat := outS16 ambT }

/-- What the map's inlet state fills outside a step (R107, R112): the state that the last step formed, or, where none has been formed
since its load values, the estimate in force. The ambient temperature is the one that the last step held, 0 before any, since no
sample of a running period counts (notes/assumptions/43.md). -/
def fillNow (m : GMap) (r : MapRecs) : Fill :=
  let ambT := (lookupKey (mapAmbT r.mr) m.held).getD 0
  if m.formed && !m.noInlet then fillOf m r (m.inlet, true) ambT
  else fillOf m r ({ m.inlet with m := storeU16 (rnd m.inlet.est 8), var := storeU16 (rnd m.inlet.pIn 16), measured := false
                                  t := storeS16 ambT }, m.inlet.valid) ambT

/-! Fusion of a dryer map (R129-R137). -/

/-- Fill moisture of a cell or record filled in a frame (R128). -/
def histAt (h : List HistEntry) (frame : Int) : Option HistEntry := h.find? fun e => (e.frame : Int) == frame

/-- Keep the newest `n` elements of a list that grows at its end. -/
def lastN {α : Type} (n : Nat) (l : List α) : List α := l.drop (l.length - n)

/-- What a closing pair changes. -/
structure PairSt where
  map : GMap
  bias : List BiasSt
deriving DecidableEq, Repr

def noBias : BiasSt := { b := 0, p := 0, last := 0, pairs := 0, gated := 0 }
def biasAt (l : List BiasSt) (g : Nat) : BiasSt := l.getD g noBias

/-- The bias update of R133: new state and whether GATED. -/
def biasUpdate (img : Bytes) (n : Nat) (s : BiasSt) (rec : OutRec) (z : Int) : BiasSt × Bool × Int :=
  let df := min (n - s.last) 16777216
  let p : Int := min (s.p + divr (lgBiasQ img * df) 7200) 0xFFFFFFFF
  let y := z - ((rec.m : Int) * 256 + s.b)
  let v := p + lgOutR img + (rec.var : Int) * 65536
  let s1 := { s with p := p.toNat, last := n, pairs := sat 65535 (s.pairs + 1) }
  if y * y * 256 > (lgGate img : Int) * lgGate img * v then ({ s1 with gated := sat 65535 (s1.gated + 1) }, true, y)
  else
    let k := divr (p * 16777216) v
    let lim : Int := lgBiasMax img * 256
    ({ s1 with b := clampI (-lim) lim (s.b + rnd (k * y) 24), p := (rnd ((16777216 - k) * p) 24).toNat }, false, y)

/-- Back-survey of R136 in frame n: cells, estimate and P_in. -/
def backSurvey (img : Bytes) (n : Nat) (m : GMap) (rec : OutRec) (y : Int) (fillM : Nat) (fillFrame : Int) : GMap :=
  let mr : Int := rec.m * 256
  if fillM = 0 then m
  else
    let ratio := divr (mr * 16777216) fillM
    if ratio = 0 then m
    else
      let lim : Int := lgBsMax img * 256
      let din := clampI (-lim) lim (divr (rnd (lgBsWeight img * y) 16 * 16777216) ratio)
      let cells := ((List.range m.cells.length).zip m.cells).map fun ic =>
        let c := ic.2
        let ff : Int := (n : Int) - c.age
        if c.occ && bit c.flags cfInletEst && decide (fillFrame < ff) then
          match histAt m.history ff with
          | none => c
          | some e =>
            if e.m24 = 0 then c
            else
              let mm : Int := c.m * 256
              let v := (mm + divr (din * mm) e.m24 + dith ic.1 n 8 5) / 256
              { c with m := storeU16 v, flags := flagTo cfBack true (if outU16 v then flagTo cfSat true c.flags else c.flags) }
        else c
      { m with cells := cells, inlet := { m.inlet with
          est := (clampI 0 16777215 (m.inlet.est + din)).toNat,
          pIn := max (rnd (m.inlet.pIn * (65536 - (lgBsWeight img : Int))) 16).toNat (lgOutR img) } }

/-- Close a pair of record `rec` in frame n (R131-R133, R136); a record without an open pair is SKIPPED. The spec gives no innovation
for a pair that is SKIPPED or TOO_FEW: its field holds 0 (Table 4-9; notes/assumptions/43.md). -/
def closePair (imgs : List Bytes) (n : Nat) (st : PairSt) (rec : OutRec) (op : Option OpenPair) : PairSt :=
  let g := rec.legend
  let img := legImg imgs g
  let cnt := match op with | some p => p.cnt | none => 0
  let sum := match op with | some p => p.sum | none => 0
  let age := rec.age + (n - rec.frame)
  let entry (y : Int) (st : PairSt) (mean flags : Nat) : PairSt :=
    { st with map := { st.map with pairLog := lastN 256 (st.map.pairLog ++
        [{ frame := n, age := age, recM := rec.m, mean := mean, y := y, bias := (biasAt st.bias g).b, cnt := cnt,
           map := rec.map, legend := g, seq := rec.seq, flags := flags }]) } }
  if op = none then entry 0 st 0 1
  else
    let z := divr (sum * 256) cnt
    let mean := storeU16 (rnd z 8)
    if cnt < lgPairMin img then entry 0 st mean 2
    else
      let fillFrame : Int := (rec.frame : Int) - rec.age
      match histAt st.map.history fillFrame with
      | some e =>
        if e.measured then
          let u := biasUpdate img n (biasAt st.bias g) rec z
          entry u.2.2 { st with bias := setAt g u.1 st.bias } mean (if u.2.1 then 4 else 0)
        else
          let y := z - ((rec.m : Int) * 256 + (biasAt st.bias g).b)
          entry y { st with map := backSurvey img n st.map rec y e.m24 fillFrame } mean 8
      | none =>
        let u := biasUpdate img n (biasAt st.bias g) rec z
        entry u.2.2 { st with bias := setAt g u.1 st.bias } mean (if u.2.1 then 4 else 0)

/-- Remove heads while the queue holds more than `lim` records (R130 step 3): the first head has the open pair. -/
def closeHeads (imgs : List Bytes) (n lim : Nat) : Nat → PairSt → PairSt
  | 0, st => st
  | k + 1, st =>
    if st.map.queue.length ≤ lim then st
    else match st.map.queue with
      | [] => st
      | rec :: rest =>
        let op := st.map.openPair
        closeHeads imgs n lim k (closePair imgs n { st with map := { st.map with queue := rest, openPair := none } } rec op)

/-- The pairing of R130 in the step of frame n, with the step's outlet records. -/
def pairing (imgs : List Bytes) (n : Nat) (f : Bytes) (out : List OutRec) (st : PairSt) : PairSt :=
  if fuOutM f = 0 then st
  else
    let lim := fuOutRows f + 1
    let m := st.map
    let op := m.openPair.map fun p =>
      let xs := (samplesOf m.acc (fuOutM f)).filter fun e => decide (e.1 ≤ p.opened + fuPairMax f)
      { p with sum := p.sum + sumI (xs.map Prod.snd), cnt := p.cnt + xs.length }
    let q := m.queue ++ out
    let st := closeHeads imgs n lim q.length { st with map := { m with openPair := op, queue := q } }
    if st.map.queue.length = lim ∧ st.map.openPair = none then
      { st with map := { st.map with openPair := some { opened := n, sum := 0, cnt := 0 } } }
    else st

/-- One probe's pull of R137 on all cells. -/
def probePull (h : Shape) (n : Nat) (p : Bytes) (mp : Int) (cells : List Cell) : List Cell :=
  let w := h.width
  ((List.range cells.length).zip cells).map fun ic =>
    let c := ic.2
    let row := ic.1 / w
    let sec := ic.1 % w / h.slices
    let sl := ic.1 % h.slices
    let d := if row < pbRow p then pbRow p - row else row - pbRow p
    if c.occ && sec == pbSection p && decide (d ≤ pbRadius p) && (pbSlice p == 0xFF || sl == pbSlice p) then
      let wt := divr ((pbWeight p : Int) * ((pbRadius p : Int) + 1 - d)) (pbRadius p + 1)
      let tg := c.t * 32
      let v := (tg + rnd (wt * (mp * 32 - tg)) 16 + dith ic.1 n 5 6) / 32
      { c with t := storeS16 v, flags := flagTo cfProbe true (if outS16 v then flagTo cfSat true c.flags else c.flags) }
    else c

/-- Probe pulls in ascending record index (R137). -/
def probePulls (h : Shape) (n : Nat) (acc : List (Nat × Nat × Int)) (ps : List Bytes) (cells : List Cell) : List Cell :=
  ps.foldl (fun cs p => match meanOf acc (pbSrc p) with | some v => probePull h n p v cs | none => cs) cells

/-! Cable interpolation of a BIN map (R138, R139). -/

def sensorCell (h : Shape) (s : Bytes) : Nat := (snRow s * h.sections + snSection s) * h.slices + snSlice s

/-- Squared distance in mm² between a cell and a sensor. -/
def dist2 (h : Shape) (g s : Bytes) (i : Nat) : Nat :=
  let ab (a b : Nat) : Nat := if a < b then b - a else a - b
  let w := h.width
  let dr := ab (i / w) (snRow s) * geRowPitch g
  let ds := ab (i % h.slices) (snSlice s) * geSlicePitch g
  let dx := ab (i % w / h.slices) (snSection s) * geSectionPitch g
  dr * dr + ds * ds + dx * dx

/-- Sensors with their distances, nearest first, the lower index on a tie. -/
def nearest (l : List (Nat × Nat)) : List (Nat × Nat) := sortBy (fun a b => decide (a.2 < b.2)) l

/-- Interpolation: `ts` holds each sensor's valid mean (none: no valid mean, or marked lost), `lost` the marks. -/
def cablePass (h : Shape) (g : Bytes) (ss : List Bytes) (ts : List (Option Int)) (lost : List Bool) (cells : List Cell) : List Cell :=
  let idx := List.range ss.length
  let inn : List (Option Int) := idx.map fun k =>
    (ts.getD k none).map fun t => t - (cells.getD (sensorCell h (ss.getD k [])) emptyCell).t
  let valid := idx.filter fun k => (ts.getD k none).isSome
  let r2 := geMax g * geMax g
  let n2 := geNear g * geNear g
  ((List.range cells.length).zip cells).map fun ic =>
    let c := ic.2
    if !c.occ then c
    else
      let i := ic.1
      let dv := nearest (valid.map fun k => (k, dist2 h g (ss.getD k []) i))
      let own := valid.find? fun k => sensorCell h (ss.getD k []) == i
      let asg := (nearest (idx.map fun k => (k, dist2 h g (ss.getD k []) i))).head?.map Prod.fst
      let isLost := match asg with | some k => lost.getD k false | none => false
      let conf : Nat := match own with
        | some _ => 3
        | none => match dv with
          | [] => 0
          | p :: _ => if p.2 ≤ n2 then 2 else if p.2 ≤ r2 then 1 else 0
      let c := (c.setConf (if isLost then min conf 1 else conf)).setFlag cfSensorLost isLost
      match own with
      | some k =>
        let v := (ts.getD k none).getD 0
        { c with t := storeS16 v, flags := if outS16 v then flagTo cfSat true c.flags else c.flags }
      | none =>
        let near := (dv.filter fun p => decide (p.2 ≤ r2)).take 8
        if near = [] then c
        else
          let ws := near.map fun p => (divr 1099511627776 p.2, (inn.getD p.1 none).getD 0)
          let total := sumI (ws.map Prod.fst)
          let v := c.t + divr (sumI (ws.map fun p => p.1 * p.2)) total
          -- a divisor of 0 sets SAT (R91)
          let sat := outS16 v || decide (total = 0) || near.any fun p => p.2 == 0
          { c with t := storeS16 v, flags := if sat then flagTo cfSat true c.flags else c.flags }

/-- A step's input values, held for the next step (R88) and for a prediction (R141). -/
structure StepIn where
  ambT : Int
  ambRh : Int
  /-- per zone: flow and temperature -/
  zones : List (Int × Int)
  adv : Nat
  rot : Nat
  fill : Nat
  stale : Bool
  held : List (Nat × Int)
deriving DecidableEq, Repr

/-- Inputs of a step. `fOn`: frames of the step with aeration on (06 R202). -/
def stepInputs (m : GMap) (r : MapRecs) (fOn : Nat) : StepIn :=
  let at' := meanInput m (mapAmbT r.mr)
  let ah := meanInput m (mapAmbRh r.mr)
  let zs := r.zones.map fun z =>
    (if znFlow z = 0 then ((if znKind z = 3 then divr (znConst z * fOn) (mapStep r.mr) else (znConst z : Int)), false)
     else meanInput m (znFlow z), meanInput m (znTemp z))
  let a := meterInput m (mapAdvSrc r.mr)
  let ro := meterInput m (mapRotSrc r.mr)
  let fi := meterInput m (mapFillSrc r.mr)
  let keep (h : List (Nat × Int)) (src : Nat) (v : Int) := if src = 0 then h else insertKey src v h
  let held := keep (keep m.held (mapAmbT r.mr) at'.1) (mapAmbRh r.mr) ah.1
  let held := (r.zones.zip zs).foldl (fun h p => keep (keep h (znFlow p.1) p.2.1.1) (znTemp p.1) p.2.2.1) held
  { ambT := at'.1, ambRh := ah.1, zones := zs.map fun z => (z.1.1, z.2.1), adv := a.1, rot := ro.1, fill := fi.1,
    stale := at'.2 || ah.2 || zs.any (fun z => z.1.2 || z.2.2) || a.2 || ro.2 || fi.2, held := held }

/-- Zone environments of a step: first row, last row, values. -/
def zoneEnvs (h : Shape) (stepFrames n : Nat) (psc ambT ambRh : Int) (zones : List Bytes) (air : List (Int × Int)) :
    List (Nat × Nat × ZoneEnv) :=
  let wa := wambOf psc ambT ambRh
  (zones.zip air).map fun p =>
    (znFirst p.1, znLast p.1, zoneEnvOf h stepFrames n psc ambT wa (znKind p.1) (znFirst p.1) (znLast p.1) p.2.1 p.2.2)

/-- Credits with the step's inputs (R101). -/
def withCredits (n : Nat) (m : GMap) (i : StepIn) : GMap :=
  let a := addCredit m.adv i.adv
  let r := addCredit m.rot i.rot
  let f := addCredit m.fill i.fill
  { m with adv := a.1, rot := r.1, fill := f.1, clipped := m.clipped || a.2 || r.2 || f.2
           rots := (m.rots.filter fun p => decide (n < p.1 + 1200)) ++ if m.shape.kind = kRecirc then [(n, i.rot)] else [] }

/-- A step that uncorrectable memory aborts (R111): the meter inputs stay in the accumulators. The spec does not say what becomes of the
period's other inputs: the held inputs and INPUT_STALE follow them, and its moisture samples are dropped
(notes/assumptions/43.md). -/
def mapAbort (m : GMap) (r : MapRecs) (n : Nat) : GMap :=
  let i := stepInputs m r 0
  { withCredits n m i with acc := [], held := i.held, stale := i.stale, aborted := true }

/-- The step of frame n with its fusion pass (03 R89, 04 R120). `lost`: the storage layer's marks. Answers the map, the
bias states and, for every row with grain that left by the discharge or unload credit, its Legend slot and its dry mass
(18 R484). The outlet records are formed from the cells as they leave, before bit 2 is cleared for the fusion pass, so that their flags
show the pulls of the last step (R83, Table 3-3; notes/assumptions/43.md). -/
def mapStepPass (imgs : List Bytes) (r : MapRecs) (n fOn : Nat) (lost : List Bool) (bias : List BiasSt) (m : GMap) :
    GMap × List BiasSt × List (Nat × Nat) :=
  let h := m.shape
  let sf := mapStep r.mr
  let i := stepInputs m r fOn
  let psc := pscOf (mapPressure r.mr)
  let inl := formInlet imgs m r i.ambT
  let legs := legEnvs imgs (stepDt sf)
  let cells := updateCells h legs (zoneEnvs h sf n psc i.ambT i.ambRh r.zones i.zones) m.cells
  let cells := ageCells sf cells
  let m1 := withCredits n { m with inlet := if h.kind = kBin then m.inlet else inl.1, held := i.held, stale := i.stale
                                   noInlet := h.kind == kBin || !inl.2, formed := true } i
  let f := fillOf m r inl i.ambT
  let mv := advect h (kinOf (legImg imgs f.legend)).dens f (rowsOf h cells) m1.adv m1.rot m1.fill
  let outs := outletsOf h.num n m1.outSeq mv.out
  let tons := ((mv.out.take mv.left).filter rowOcc).map fun row => (heaviest (row.filter Cell.occ) Cell.legend, dryOf (row.filter Cell.occ))
  let cells := mv.rows.flatten.map fun c => if c.occ then c.setFlag cfProbe false else c
  let hist := if mv.filled = 0 then m1.history
    else lastN 1024 (m1.history ++ [{ frame := n, m24 := f.m * 256, measured := !f.est }])
  let m2 := { m1 with cells := cells, adv := mv.adv, rot := mv.rot, fill := mv.fill, clipped := m1.clipped || mv.clipped,
                      outSeq := outs.2, history := if h.kind = kBin then m1.history else hist,
                      steps := (m1.steps + 1) % 0x100000000, stepAt := some n }
  if h.kind = kBin then
    match r.geom with
    | none => ({ m2 with acc := [] }, bias, tons)
    | some g =>
      let ts := (List.range r.sensors.length).map fun k =>
        if lost.getD k false then none else meanOf m.acc (snSrc (r.sensors.getD k []))
      ({ m2 with acc := [], cells := cablePass h g r.sensors ts lost m2.cells }, bias, tons)
  else
    match r.fusion with
    | none => ({ m2 with acc := [] }, bias, tons)
    | some fu =>
      let st := pairing imgs n fu outs.1 { map := m2, bias := bias }
      ({ st.map with acc := [], cells := probePulls h n m.acc r.probes st.map.cells }, st.bias, tons)

/-- MAP_PRIME: every row from the inlet state (R107). -/
def mapPrimeCells (imgs : List Bytes) (r : MapRecs) (m : GMap) : GMap :=
  let f := fillNow m r
  let h := m.shape
  { m with cells := (List.replicate h.rows (fillRow h (kinOf (legImg imgs f.legend)).dens f)).flatten }

/-- Occupied rows of a map. -/
def GMap.occRows (m : GMap) : Nat := Sys2Proof.Machine.occRows (rowsOf m.shape m.cells)

end Sys2Proof.Machine
end

