-- ==== Sys2Proof/Machine/TypesBase.lean ====
section
/-!
DEFINITION. State of time, frames, host interface, interrupts, keys and the ledger, as plain data (01, 02, 13-16).
-/
namespace Sys2Proof.Machine

/-- One valid copy of a two-copy structure: its generation and body (16 R433). -/
structure Copy (α : Type) where
  gen : Nat
  body : α
deriving DecidableEq, Repr

/-- A two-copy structure: copy 0 and copy 1, each absent when it is not valid (16 R433, R434). -/
structure Two (α : Type) where
  c0 : Option (Copy α)
  c1 : Option (Copy α)
deriving DecidableEq, Repr

/-- An era record (02 Table 2-3). -/
structure Era where
  num : Nat
  reason : Nat
  gazSeq : Nat
  start : Nat
  oldOff : Int
  newOff : Int
deriving DecidableEq, Repr

/-- The Meridian and the wall clock (02 R40-R63). -/
structure Meridian where
  /-- the 96-bit value: count × 2^32 + fraction (R41) -/
  acc : Nat
  /-- p, ppb (R44) -/
  slew : Int
  asleep : Bool
  /-- wall offset, ticks (R61) -/
  offset : Int
  era : Nat
  wallValid : Bool
  /-- era records kept, newest first, at most 64 (R62) -/
  eras : List Era
  /-- Meridian floor F (R45) -/
  floor : Two Nat
  hiPcie : Nat
  hiSpi : Nat
  late : Nat
  future : Nat
  ovr : Nat
  /-- duplicates counted (R54) -/
  dups : Nat
deriving DecidableEq, Repr

/-- Clock monitor (01 R37, R38, Table 1-13). -/
structure Clocks where
  refLost : Bool
  onRc : Bool
  lfLost : Bool
  pllUnlock : Bool
  /-- the 32.768 kHz clock has run for 1 s without fault (R38) -/
  lfProven : Bool
  /-- PLLs out of lock: their block is held until relock (Table 1-13) -/
  held : List Nat
  /-- spans in which the device ran from the RC oscillator and that have ended, and the start of a running one (02 R50) -/
  rcSpans : List (Nat × Nat)
  rcFrom : Nat
deriving DecidableEq, Repr

/-- A stamped sample (13 R380) with its arrival instant (02 R53). -/
structure Sample where
  stamp : Nat
  src : Nat
  status : Nat
  value : Int
  arrival : Nat
deriving DecidableEq, Repr

/-- One decision output: number, kind, value (02 R70). -/
structure Out where
  num : Nat
  kind : Nat
  val : Int
deriving DecidableEq, Repr

/-- D(N) and H(N) of a decided frame (02 R70). -/
structure Digest where
  frame : Nat
  d : Bytes
  h : Bytes
deriving DecidableEq, Repr

/-- A command that has been taken and has not completed (13 R376). -/
structure Cmd where
  op : Nat
  d : Desc
  /-- acceptance instant A (02 R57) -/
  acc : Nat
  /-- effective frame E of a frame-tied command; 0 otherwise -/
  eff : Nat
  /-- its effect is made in the decisions of E -/
  tied : Bool
  /-- internal command: no completion (04 R155) -/
  internal : Bool
  /-- ledger entry (16 R442) -/
  led : Option Nat
  /-- PROGRESS so far -/
  prog : Nat
  /-- a long-running command's own value: the spare area, the chosen frame -/
  aux : Nat
deriving DecidableEq, Repr

/-- Frames: collector, decisions, digests (01 R26, R39; 02 R51-R71). -/
structure Frames where
  /-- lowest frame that has not been decided or passed -/
  next : Nat
  /-- front-end queue, oldest first, with its drop count (01 Table 1-11, R35) -/
  queue : List Sample
  drops : Nat
  /-- samples taken and not yet decided, in arrival order (R53, R54) -/
  collector : List Sample
  /-- frames marked OVERRUN before their apply instant (R71) -/
  marks : List Nat
  /-- frame whose decisions were made and whose apply instant has not come (01 R39), whether it is OVERRUN, its outputs -/
  decided : Option (Nat × Bool × List Out)
  /-- a frame whose apply instant passed before its decisions were ready (R71) -/
  missed : Option Nat
  /-- outputs in force at the field, and the CAN frames of their decisions (R71, 05 R165, R170) -/
  inForce : List Out
  canForce : List (Nat × Nat × Nat × Bytes)
  /-- previous decided frame -/
  prev : Option Nat
  /-- H(P) (R70) -/
  chain : Bytes
  digests : List Digest
  /-- late samples counted since the last FRAME record (R56) -/
  lateIn : Nat
deriving DecidableEq, Repr

/-- Capture buffer (02 R72, R73). -/
structure Capture where
  active : Bool
  present : Bool
  first : Nat
  last : Nat
  /-- the capture's previous decided frame P (R73) -/
  prev : Option Nat
  snapLen : Nat
  buf : Bytes
  /-- LATE, DUPLICATE and FUTURE samples of the open group (R73) -/
  odd : List Bytes
deriving DecidableEq, Repr

/-- A ring's registers and indices (13 R363-R371, Tables 13-27 to 13-30). -/
structure Ring where
  base : Nat
  enable : Bool
  vector : Nat
  cq : Nat
  log2 : Nat
  dev : Nat
  host : Nat
  /-- PHASE of the lap the device writes (R369) -/
  phase : Bool
  /-- notification armed (R371) -/
  armed : Bool
deriving DecidableEq, Repr

/-- Records that wait for a device-producer ring (01 R36, 13 Table 13-9). -/
structure Spill where
  recs : List Bytes
  dropped : Nat
  dropStamp : Nat
  dropSeq : Nat
deriving DecidableEq, Repr

/-- HIF registers and queues (13 Tables 13-18 to 13-26, R370, R383). -/
structure Hif where
  ready : Bool
  linkUp : Bool
  linkWidth : Nat
  linkSpeed : Nat
  bme : Bool
  flr : Bool
  hostSilent : Bool
  shadow : Nat
  hbTimeout : Nat
  hbLast : Nat
  hbStart : Nat
  /-- HIF_RINGERR bits 45:0 -/
  ringErr : Nat
  rings : List Ring
  /-- held completions: completion ring and entry bytes with PHASE 0 (R370) -/
  held : List (Nat × Bytes)
  /-- waiting records by ring number 32-40 -/
  spills : List (Nat × Spill)
  /-- event sequence number of the next event (R381) -/
  evSeq : Nat
  /-- MSI-X table: address, data, masked; one entry a vector (R361) -/
  msix : List (Nat × Nat × Bool)
  /-- pending-bit array (R397) -/
  pba : Nat
deriving DecidableEq, Repr

/-- SPI target (13 R390, R391, Table 13-26). -/
structure Spi where
  crcErr : Nat
  mbDone : Bool
  /-- the mailbox descriptor that waits to be taken or completed (64 bytes) -/
  mailbox : Option Bytes
  /-- last completion entry -/
  last : Bytes
  /-- the 64 KB buffer: bytes that are not 0 -/
  buffer : List Host.Cell
  /-- data of the last read transaction, with its CRC-16 -/
  out : Bytes
deriving DecidableEq, Repr

/-- What the device sent to the host: posted writes in order, the HIRQ pins by the interrupt state, the last word read. -/
structure HostSide where
  posted : List (Nat × Bytes)
  readData : Nat
deriving DecidableEq, Repr

/-- One interrupt source (14 Table 14-14, R393, R394). -/
structure IcSrc where
  targets : Nat
  time : Nat
  count : Nat
  wake : Bool
  mask : Bool
  prio : Nat
  /-- events counted since the count was last cleared -/
  c : Nat
  /-- start of the coalescing timer -/
  start : Option Nat
  pend : Bool
  byTime : Bool
  /-- a level source is asserted -/
  level : Bool
deriving DecidableEq, Repr

/-- One target (14 R395-R401). -/
structure IcTarget where
  /-- stack, top first -/
  stack : List Nat
  frozen : Bool
  faultSrc : Nat
  asleep : Bool
  /-- faults merged into its copy of source 1; 0: the copy is not pending -/
  s1 : Nat
  claimx : Nat
  req : Bool
deriving DecidableEq, Repr

/-- Interrupt controller (14). -/
structure Ic where
  srcs : List IcSrc
  tgts : List IcTarget
  retained : Bool
  tpin : Nat
  /-- GPL inputs low (sources 9-24) -/
  gpl : Nat
  /-- wake sources latched in sleep with their stamps (R410) -/
  latched : List (Nat × Nat)
deriving DecidableEq, Repr

/-- Key record of a slot (15 R413). -/
structure KeyRec where
  key : Option Bytes
  mask : Nat
  installs : Nat
deriving DecidableEq, Repr

/-- Counter record of a slot (15 R413, R421). -/
structure CtrRec where
  last : Nat
  fails : Nat
  level : Nat
  lockEnd : Nat
deriving DecidableEq, Repr

structure KeySlot where
  key : Two KeyRec
  ctr : Two CtrRec
deriving DecidableEq, Repr

/-- Owner key record (15 R426). -/
structure Cosign where
  key : Option Bytes
  require : Bool
deriving DecidableEq, Repr

structure Auth where
  slots : List KeySlot
  cosign : Two Cosign
deriving DecidableEq, Repr

/-- A ledger entry (16 Table 16-6). -/
structure LedEntry where
  lseq : Nat
  tag : Nat
  op : Nat
  state : Nat
  keySlot : Nat
  sq : Nat
  target : Nat
  counter : Nat
  tgtGen : Nat
  status : Nat
  accAt : Nat
  frame : Nat
  prog : Nat
  total : Nat
deriving DecidableEq, Repr

/-- Store status, scrub and ledger (16 Tables 16-11 to 16-15). -/
structure Nvs where
  verifyFail : Bool
  ue : Bool
  bank1Fail : Bool
  lastRegion : Nat
  scrubBusy : Bool
  ueCnt : Nat
  ceCnt : Nat
  passes : Nat
  /-- MRAM words whose writes do not read back (R430), by address -/
  deadWords : List Nat
  /-- MRAM words that read with an uncorrectable error (R428), by address -/
  ueWords : List Nat
  ledger : List (Two LedEntry)
  lseq : Nat
  ledSel : Nat
  ledValid : Bool
  /-- latched entry, 56 bytes (R446) -/
  ledData : Bytes
deriving DecidableEq, Repr

/-- What has happened in the present clock cycle, the one whose Meridian value is `at'` (14 R403, 23 R537;
notes/assumptions/69.md). -/
structure Cycle where
  at' : Nat
  /-- W1C bits that the device has set in it, by 64 × offset + bit -/
  bits : List Nat
  /-- interrupt sources that have counted an event in it, one entry an event; sources that became pending in it -/
  evs : List Nat
  pends : List Nat
  /-- register writes of it that took effect before their turn and still wait in the queue -/
  early : List Instr
  /-- the assignment that its claims use, by source -/
  asg : Option (List (Nat × Nat))
deriving DecidableEq, Repr

/-- An Exchange slot that has been written (01 Table 1-7, R544). -/
structure XSlot where
  version : Nat
  src : Nat
  value : Int
  stamp : Nat
deriving DecidableEq, Repr

end Sys2Proof.Machine
end

