-- ==== Sys2Proof/Machine/TypesPlant.lean ====
section
/-!
DEFINITION. State of the drying and storage layers and the plant as a whole, as plain data (05, 06). The plant is what a
capture snapshot holds and what a replay replaces (02 R72, R74).
-/
namespace Sys2Proof.Machine

/-- Discharge of a dryer map (05 R159-R166). Modes: 0 STOP, 1 AUTO, 2 MANUAL, 3 TRIP, 4 HOLD. -/
structure Discharge where
  mode : Nat
  q : Nat
  qPrev : Nat
  trim : Int
  act : Int
  silent : Nat
  fault : Bool
  /-- SET_TARGET in force: none for the record's target -/
  target : Option Nat
  kernel : Bool
  rateLim : Bool
  alive : Nat
  /-- bound frame of the last result used -/
  lastBound : Option Nat
deriving DecidableEq, Repr

/-- One candidate as DECISION_READ reports it (05 Table 5-16). -/
structure Choice where
  factor : Nat
  excl : Nat
  e : Nat
  o : Nat
  r : Nat
  d : Nat
  cost : Nat
deriving DecidableEq, Repr

/-- Supervision of a dryer map (05 R182-R186). -/
structure Super where
  trip : Nat
  tripFrame : Nat
  /-- consecutive frames in which no condition held -/
  clear : Nat
  /-- frames without a valid sample, by source -/
  stale : List (Nat × Nat)
  /-- exhaust means: source, frame, mean -/
  exh : List (Nat × Nat × Int)
deriving DecidableEq, Repr

/-- Batch machine (05 R172-R175). -/
structure Batch where
  state : Nat
  held : Bool
  frames : Nat
  filled : Nat
  meanT : Int
  /-- NEXT asked in this frame; ABORT that waits for a route -/
  next : Bool
  aborting : Bool
deriving DecidableEq, Repr

/-- A dryer map with a control record. -/
structure Dryer where
  map : Nat
  dis : Discharge
  sup : Super
  bat : Batch
  /-- STOP_DRYING in force (R188) -/
  stopped : Bool
  choiceFrame : Nat
  choices : List Choice
deriving DecidableEq, Repr

/-- A heat zone, by heat-zone record (05 R167-R170). -/
structure HeatZone where
  sp : Int
  backoff : Nat
  spe : Int
  i : Int
  u : Int
  permit : Bool
  out : Bool
  ovr : Option Nat
  mean : Option Int
  alive : Nat
deriving DecidableEq, Repr

/-- A drying fan, by record: its value in the last frame, the value a trip holds (05 R171), and whether the safe-state line has put it
off until its map is started again (R189). -/
structure DFan where
  val : Nat
  hold : Nat
  off : Bool
deriving DecidableEq, Repr

/-- An element of a route (05 R176-R180). -/
structure RouteEl where
  on : Bool
  proven : Bool
  /-- frames since it was switched on -/
  frames : Nat
  /-- frame in which it went off in the running stop -/
  off : Option Nat
deriving DecidableEq, Repr

/-- A route (05 Table 5-10: 0 IDLE, 1 STARTING, 2 RUNNING, 3 STOPPING, 4 FAULTED). -/
structure Route where
  num : Nat
  state : Nat
  cause : Nat
  elem : Nat
  changed : Nat
  /-- a fault that the running stop ends in -/
  fault : Bool
  /-- frame of the last ROUTE_STOP (R181) -/
  stopped : Option Nat
  els : List RouteEl
deriving DecidableEq, Repr

/-- A cable sensor in the storage layer (06 R198, R205, R206). -/
structure SensSt where
  last : Int
  lastFrame : Nat
  status : Nat
  since : Nat
  run : Nat
  lost : Bool
  hot : Bool
  cannot : Bool
  /-- last three valid readings with their frames, newest last -/
  hist : List (Int × Nat)
  /-- valid readings since the sensor returned from a loss (R206) -/
  back : Nat
  /-- lost and not yet judged for CANNOT_CLEAR (R192, R206) -/
  fresh : Bool
  /-- consecutive steps in which the latch's clearing condition held -/
  cool : Nat
  calm : Nat
deriving DecidableEq, Repr

/-- A BIN map with a bin control record (06). -/
structure BinSt where
  map : Nat
  mode : Nat
  on : Bool
  since : Nat
  /-- first frame in which a force no longer holds -/
  force : Option Nat
  fOn : Nat
  coolF : Nat
  dryF : Nat
  tAir : Option Int
  budget : Nat
  worst : Nat
  lowConf : Bool
  warn : Bool
  spent : Bool
  ambStale : Bool
  /-- value of the alarm output (Table 6-1), decided at steps -/
  alarm : Nat
  /-- the layer has decided since the Datum governs (13 R543) -/
  decided : Bool
  sensors : List SensSt
  /-- last status codes of the running step period, by source -/
  codes : List (Nat × Nat)
deriving DecidableEq, Repr

/-- The plant: maps, bias states, drying and storage layers, decided outputs. -/
structure Plant where
  maps : List GMap
  bias : List BiasSt
  dryers : List Dryer
  zones : List HeatZone
  fans : List DFan
  routes : List Route
  /-- pulses of universal inputs in the last 40 frames, newest first -/
  pulses : List (Nat × List Nat)
  bins : List BinSt
  /-- decision outputs by number (02 R70) -/
  outs : List Out
  /-- CAN frames of the decisions: output number, channel, identifier, data (05 R165, R170) -/
  canOut : List (Nat × Nat × Nat × Bytes)
  /-- the drying layer refuses starts while the line is set (05 R159, R189) -/
  safeHeld : Bool
  /-- a SAFE_SEEN command has come since the last release (05 Table 5-18) -/
  safeSeen : Bool
  hostSilent : Bool
  silentAt : Option Nat
  /-- the frame decided last (06 R202) -/
  last : Option Nat
deriving DecidableEq, Repr

/-- A storage record (06 R208). -/
structure StoreRec where
  map : Nat
  rows : Nat
  m : Nat
  dml : Nat
  legend : Nat
  lot : Nat
  frame : Nat
deriving DecidableEq, Repr

/-- What LEARN commits: bias states and inlet states by map (04 R135, 16 Table 16-5). -/
structure Learn where
  bias : List BiasSt
  inlets : List (Nat × Inlet)
deriving DecidableEq, Repr

/-- A cable node (06 R196, R197, R213). -/
structure NodeSt where
  silent : Bool
  answered : Bool
  /-- STATUS bytes 1-7 of the last accepted STATUS frame to the running scan -/
  scan : Option Bytes
deriving DecidableEq, Repr

end Sys2Proof.Machine
end

