-- ==== Sys2Proof/Machine/Drying.lean ====
section
/-!
DEFINITION. The drying layer's work in a frame (05 R154): supervision, Routes, the discharge choice, batch machines, heat
zones, fans. Each function answers the plant and the events it raises, as (event code, parameter bytes).
-/
namespace Sys2Proof.Machine

/-- What the decisions of a frame read. -/
structure FrameIn where
  n : Nat
  d : Datum
  ss : List Taken
  imgs : List Bytes
deriving DecidableEq, Repr

/-- Events raised: code and parameters from byte 16 on (13 R381). -/
abbrev Evs := List (Nat × Bytes)

/-- Parameters of an event at their byte offsets from 16 (20 R514). -/
def evMap (m : Nat) : Bytes := leBytes 1 m

/-! Status codes of the refusals that Routes give (Table 5-17). -/
def stTripped : Nat := 0x0407
def stSafeHeld : Nat := 0x0408
def stRouteConflict : Nat := 0x040A
def stRouteBusy : Nat := 0x040B

/-! Load values. -/

/-- A machine that a Datum defines while the layer holds for the safe-state line is held too (R175). -/
def newDryer (held : Bool) (r : Bytes) : Dryer :=
  { map := dcMap r,
    dis := { mode := 0, q := 0, qPrev := 0, trim := 0, act := 0, silent := 0, fault := false, target := none, kernel := false,
             rateLim := false, alive := 0, lastBound := none },
    sup := { trip := 0, tripFrame := 0, clear := 0, stale := [], exh := [] },
    bat := { state := 0, held := held, frames := 0, filled := 0, meanT := 0, next := false, aborting := false },
    stopped := false, choiceFrame := 0, choices := [] }

/-- `spe` has no load value in R168 and starts at 0 (notes/assumptions/5.md). -/
def newZone (r : Bytes) : HeatZone :=
  { sp := hzSp r, backoff := 0, spe := 0, i := 0, u := 0, permit := false, out := false, ovr := none,
    mean := none, alive := 0 }

def newEl : RouteEl := { on := false, proven := false, frames := 0, off := none }

def newRoute (d : Datum) (r : Bytes) : Route :=
  { num := rtNum r, state := 0, cause := 0, elem := 0, changed := 0, fault := false, stopped := none, els := (d.elemsOf r).map fun _ => newEl }

/-! Routes (R176-R181). -/

/-- Two element records name one physical element (R176). -/
def sameEl (a b : Bytes) : Bool := elOutKind a == elOutKind b && elOutCh a == elOutCh b

/-- Pulses of an input over the last `w` frames (R177). -/
def pulsesOver (p : Plant) (ch w : Nat) : Nat := sumN (((lookupKey ch p.pulses).getD []).take w)

/-- Another route than `num`, RUNNING or STARTING, holds this physical element (R179). -/
def heldByOther (d : Datum) (p : Plant) (num : Nat) (e : Bytes) : Bool :=
  p.routes.any fun r => r.num != num && (r.state == 1 || r.state == 2) &&
    match d.routeRec r.num with
    | none => false
    | some rr => ((d.elemsOf rr).zip r.els).any fun q => sameEl q.1 e && q.2.on

/-- An element is on for another route, whatever the state of that route (R178); of a distributor, at the same position. -/
def onElsewhere (d : Datum) (p : Plant) (num : Nat) (e : Bytes) : Bool :=
  p.routes.any fun r => r.num != num &&
    match d.routeRec r.num with
    | none => false
    | some rr => ((d.elemsOf rr).zip r.els).any fun q => sameEl q.1 e && (elKind e != 3 || elPos q.1 == elPos e) && q.2.on

/-- An element is proven in this frame (R177); `run`: frames since it was switched on. A speed switch is judged on a whole
window, or on the frames it has when PROVE_FRAMES ends first (DEDUCED: Table 5-11; assumption 41). -/
def proves (f : FrameIn) (p : Plant) (e : Bytes) (run : Nat) : Bool :=
  if elKind e = 1 then
    if elMotion e = 0xFF then decide (elProve e ≤ run)
    else decide (min (elWin e) (elProve e) ≤ run) && decide (elMinPulses e ≤ pulsesOver p (elMotion e) (elWin e))
  else if elPosUio e = 0xFF then decide (elProve e ≤ run) else uioOn f.d f.ss (elPosUio e)

/-- Replace a route. -/
def setRoute (p : Plant) (r : Route) : Plant := { p with routes := p.routes.map fun q => if q.num = r.num then r else q }

/-- Start of a stop in frame n: the source side that was never on counts as off (R179). -/
def beginStop (n : Nat) (r : Route) : Route :=
  if r.state = 1 ∨ r.state = 2 then
    { r with state := 3, changed := n, els := r.els.map fun e => { e with off := if e.on then none else some n } }
  else r

/-- One pass over the elements of a stop: an element goes off when its purge time has passed since its upstream went off. -/
def stopPass (f : FrameIn) (p : Plant) (num : Nat) : Option Nat → List (Bytes × RouteEl) → List RouteEl
  | _, [] => []
  | up, (e, x) :: rest =>
    if elKind e = 3 then { x with on := false, off := some f.n } :: stopPass f p num up rest
    else
      match x.off with
      | some o => x :: stopPass f p num (some (match up with | some u => max u o | none => o)) rest
      | none =>
        match up with
        | none =>
          -- the source element goes off in the stop's first frame
          { x with on := false, proven := false, off := some f.n } :: stopPass f p num (some f.n) rest
        | some u =>
          if heldByOther f.d p num e then { x with on := false, proven := false, off := some u } :: stopPass f p num (some u) rest
          else if u + elPurge e ≤ f.n then
            { x with on := false, proven := false, off := some f.n } :: stopPass f p num (some f.n) rest
          else x :: rest.map Prod.snd

/-- A route at rest after its last element went off. -/
def endStop (n : Nat) (r : Route) : Route :=
  if r.state = 3 ∧ r.els.all (fun e => e.off.isSome) then
    { r with state := if r.fault then 4 else 0, changed := n, els := r.els.map fun _ => newEl }
  else r

/-- Indices of the distributors, then of the other elements from the destination to the source (R178). -/
def distIdx (es : List Bytes) : List Nat := (List.range es.length).filter fun i => elKind (es.getD i []) == 3
def chainIdx (es : List Bytes) : List Nat := ((List.range es.length).filter fun i => elKind (es.getD i []) != 3).reverse

/-- A start that failed to prove element i: the route stops normally and ends FAULTED (R180). -/
def failStart (n i : Nat) (r : Route) : Route := { beginStop n r with fault := true, cause := 2, elem := i }

/-- Work of a STARTING route in a frame (R178, R180). -/
def startWork (f : FrameIn) (p : Plant) (es : List Bytes) (r : Route) : Route :=
  let el (i : Nat) : RouteEl := r.els.getD i newEl
  let ds := distIdx es
  if ds.any (fun i => !(el i).proven && !(el i).on) then
    -- all distributors are driven together; one that is on for another route counts as proven at once
    { r with els := ds.foldl (fun l i =>
        let shared := onElsewhere f.d p r.num (es.getD i [])
        modifyAt (fun x => { x with on := !shared, proven := shared, frames := 0 }) i l) r.els }
  else if ds.any (fun i => !(el i).proven) then
    let els := ds.foldl (fun l i => modifyAt (fun x =>
      if x.proven then x
      else if proves f p (es.getD i []) (x.frames + 1) then { x with proven := true, on := false }
      else { x with frames := x.frames + 1 }) i l) r.els
    match ds.find? fun i => let x := els.getD i newEl; !x.proven && decide (elProve (es.getD i []) ≤ x.frames) with
    | some i => failStart f.n i { r with els := els }
    | none => { r with els := els }
  else
    let cs := chainIdx es
    match cs.find? fun i => !(el i).proven with
    | none => { r with state := 2, changed := f.n }
    | some i =>
      let e := es.getD i []
      let x := el i
      if x.on then
        if proves f p e (x.frames + 1) then
          let els := setAt i { x with proven := true, frames := x.frames + 1 } r.els
          let done := cs.all fun j => (els.getD j newEl).proven
          { r with els := els, state := if done then 2 else 1, changed := if done then f.n else r.changed }
        else if elProve e ≤ x.frames + 1 then failStart f.n i { r with els := setAt i { x with frames := x.frames + 1 } r.els }
        else { r with els := setAt i { x with frames := x.frames + 1 } r.els }
      else
        -- an element already on for another route counts as proven at once
        let shared := onElsewhere f.d p r.num e
        let els := setAt i { x with on := true, proven := shared, frames := 0 } r.els
        let done := cs.all fun j => (els.getD j newEl).proven
        { r with els := els, state := if done then 2 else 1, changed := if done then f.n else r.changed }

/-- A proven MOTOR element without motion (R180). -/
def still (p : Plant) (e : Bytes) (x : RouteEl) : Bool :=
  elKind e == 1 && elMotion e != 0xFF && x.proven && x.on && decide (pulsesOver p (elMotion e) (elWin e) < elMinPulses e)

/-- The elements of every route that lost motion in the frame. -/
def stillEls (d : Datum) (p : Plant) : List Bytes :=
  p.routes.flatMap fun r =>
    match d.routeRec r.num with
    | none => []
    | some rr => ((d.elemsOf rr).zip r.els).filterMap fun q => if still p q.1 q.2 then some q.1 else none

/-- A MOTOR that a route holds, also while it stops, and that lost motion, for this route or another one (R180): of several the
one nearest the destination. -/
def lostMotion (gone : List Bytes) (es : List Bytes) (r : Route) : Option Nat :=
  ((List.range es.length).reverse).find? fun i => (r.els.getD i newEl).on && gone.any fun e => sameEl e (es.getD i [])

/-- MOTION_LOST at element i: source to i off in this frame, the rest stops normally (R180). -/
def motionLost (n i : Nat) (r : Route) : Route :=
  let s := beginStop n r
  { s with fault := true, cause := 1, elem := i,
           els := (List.range s.els.length).map fun k =>
             let x := s.els.getD k newEl
             if k ≤ i then { x with on := false, proven := false, off := some (x.off.getD n) } else x }

/-- Work of one route in a frame (R178-R180); `gone`: the elements that lost motion. -/
def routeWork (f : FrameIn) (gone : List Bytes) (p : Plant) (r : Route) : Plant :=
  match f.d.routeRec r.num with
  | none => p
  | some rr =>
    let es := f.d.elemsOf rr
    let r := if (r.state = 1 ∨ r.state = 2) ∧ rtStopUio rr ≠ 0xFF ∧ uioOn f.d f.ss (rtStopUio rr) then beginStop f.n r else r
    let r := match lostMotion gone es r with | some i => motionLost f.n i r | none => r
    let r := if r.state = 1 then startWork f p es r else r
    let r := if r.state = 3 then endStop f.n { r with els := stopPass f p r.num none (es.zip r.els) } else r
    setRoute p r

/-- All Routes, in ascending route number (R154 step 4). -/
def routesWork (f : FrameIn) (p0 : Plant) : Plant :=
  let gone := stillEls f.d p0
  (sortBy (fun (a b : Route) => decide (a.num < b.num)) p0.routes).foldl (fun p r =>
    match p.routes.find? fun q => q.num == r.num with | some q => routeWork f gone p q | none => p) p0

/-- A new start of a route that is IDLE or FAULTED. -/
def startRoute (n : Nat) (r : Route) : Route :=
  { r with state := 1, cause := 0, elem := 0, changed := n, fault := false, els := r.els.map fun _ => newEl }

/-- Distributor of a route held at another position by a route that is not IDLE (R178). -/
def routeConflict (d : Datum) (p : Plant) (rr : Bytes) : Bool :=
  (d.elemsOf rr).any fun e => elKind e == 3 && p.routes.any fun q => q.num != rtNum rr && q.state != 0 &&
    match d.routeRec q.num with
    | none => false
    | some qr => (d.elemsOf qr).any fun x => elKind x == 3 && sameEl x e && elPos x != elPos e

/-- Why a route does not start in frame n (R178, R181, R189): its state, a stop of the same frame, a distributor, the trip of its map,
the safe-state line. -/
def routeRefusal (n : Nat) (d : Datum) (p : Plant) (rr : Bytes) (r : Route) : Option Nat :=
  if (r.state ≠ 0 ∧ r.state ≠ 4) ∨ r.stopped = some n then some stRouteBusy
  else if routeConflict d p rr then some stRouteConflict
  else if bit (rtFlags rr) 0 && p.dryers.any (fun x => x.map == rtMap rr && x.sup.trip != 0) then some stTripped
  else if p.safeHeld then some stSafeHeld
  else none

/-- Start listed routes; `go` is what a route that starts does in the frame. One that the Route rules refuse stays as it is, and the
machine that asked for it goes on (R172; notes/assumptions/41.md). -/
def startListed (n : Nat) (d : Datum) (go : Plant → Route → Plant) (nums : List Nat) (p : Plant) : Plant :=
  nums.foldl (fun p k => match p.routes.find? (fun r => r.num == k), d.routeRec k with
    | some r, some rr => if (routeRefusal n d p rr r).isNone then go p (startRoute n r) else p
    | _, _ => p) p

/-- Every element that the route alone holds goes off in one frame (R179, IMMEDIATE). -/
def stopNow (n : Nat) (r : Route) : Route :=
  if r.state = 1 ∨ r.state = 2 ∨ r.state = 3 then
    { r with state := if r.fault then 4 else 0, changed := n, els := r.els.map fun _ => newEl }
  else r

/-- Routes of a map with some of the FLAGS bits (R172, R184): bit 0 STOP_ON_TRIP, 1 FILL, 2 UNLOAD, 3 RECIRC. -/
def routesOfMap (d : Datum) (map fl : Nat) : List Nat :=
  ((d.recs tyRoute).filter fun r => rtMap r == map && bit (rtFlags r) fl).map rtNum

/-- Begin a normal stop of listed routes. -/
def stopRoutes (n : Nat) (nums : List Nat) (p : Plant) : Plant :=
  { p with routes := p.routes.map fun r => if nums.contains r.num then beginStop n r else r }

/-- Output value of a route element's physical element (Table 5-1, kind 0x0405). -/
def elemOut (d : Datum) (p : Plant) (e : Bytes) : Int :=
  let vals := (p.routes.map fun r =>
    match d.routeRec r.num with
    | none => []
    | some rr => ((d.elemsOf rr).zip r.els).filterMap fun q =>
        if sameEl q.1 e && q.2.on then some (if elKind q.1 = 3 then (0x100 + elPos q.1 : Int) else 1) else none).flatten
  vals.headD 0

/-! Supervision (R182-R187). -/

/-- Heat-zone records of a dryer control record, with their indices. -/
def zonesOfDryer (d : Datum) (dc : Bytes) : List (Nat × Bytes) :=
  (List.range (dcZoneCount dc)).filterMap fun k => ((d.recs tyHeat)[dcZoneBase dc + k]?).map fun r => (dcZoneBase dc + k, r)

/-- Plenum source of a heat zone (Table 3-5 TEMP_SRC). -/
def plenumSrc (d : Datum) (hz : Bytes) : Nat :=
  match d.mapRec (hzMap hz) with
  | none => 0
  | some m => znTemp ((d.zonesOf m).getD (hzZone hz) [])

/-- Supervised probes: every EXH_SRC and every heat zone's plenum source. -/
def probesOf (d : Datum) (dc su : Bytes) : List Nat := suExh su ++ (zonesOfDryer d dc).map fun z => plenumSrc d z.2

/-- A front-end result marked SETTLING (07 R235); code 1 of any other source is no SETTLING. -/
def settling (d : Datum) (t : Taken) : Bool := t.code == 1 && (d.recs tyChan).any fun r => chSrc r == t.src

/-- A probe's samples in the frame show it broken (R182, first two conditions). -/
def brokenNow (d : Datum) (ss : List Taken) (src : Nat) : Bool :=
  let l := ss.filter fun t => t.src == src
  l.any (fun t => !carries d t && !settling d t) || (match l.getLast? with | some t => settling d t | none => false)

/-- Frames without a valid sample of a probe, after this frame. -/
def staleNext (d : Datum) (ss : List Taken) (st : List (Nat × Nat)) (src : Nat) : Nat :=
  if ss.any (fun t => t.src == src && carries d t) then 0 else (lookupKey src st).getD 0 + 1

/-- Supervision is armed (R182). -/
def supArmed (d : Datum) (p : Plant) (dc : Bytes) (x : Dryer) : Bool :=
  (zonesOfDryer d dc).any (fun z => match p.zones[z.1]? with | some h => h.permit | none => false) || x.dis.mode != 0 ||
    x.bat.state == 2 || x.bat.state == 3 || x.bat.state == 4

/-- A cell above CELL_TRIP of its Legend after a step in the frame (R183 code 6). -/
def cellHigh (f : FrameIn) (p : Plant) (map : Nat) : Bool :=
  match p.maps.find? (fun m => m.shape.num == map) with
  | some m => m.stepAt == some f.n && m.cells.any fun c =>
      c.occ && (lgCellTrip (legImg f.imgs c.legend) != 0) && decide (lgCellTrip (legImg f.imgs c.legend) < c.t)
  | none => false

/-- FAST_CSW crossed to its active side in the frame, by its stamped sample (R183 code 2). -/
def fastCrossed (f : FrameIn) (csw : Nat) : Bool :=
  csw != 0xFF && match (f.d.recs tyContour).find? fun r => u8 r 0 == csw with
    | none => false
    | some r => f.ss.any fun t => t.src == u16 r 12 && t.code == 0 && t.value == 1

/-- The first condition of Table 5-13 that holds in the frame; 0 for none. -/
def tripCode (f : FrameIn) (p : Plant) (dc su : Bytes) (stale : List (Nat × Nat)) (exh : List (Nat × Nat × Int)) : Nat :=
  let exhMean (s : Nat) : Option Int := frameMean f.d f.ss s
  if (probesOf f.d dc su).any (fun s => brokenNow f.d f.ss s || decide (suStale su ≤ (lookupKey s stale).getD 0)) then 1
  else if fastCrossed f (suFastCsw su) then 2
  else if (suExh su).any (fun s => match exhMean s with | some t => decide (suExhMax su < t) | none => false) then 3
  else if (suExh su).any (fun s => match exhMean s with
      | none => false
      | some t => match exh.find? (fun e => e.1 == s && e.2.1 + suRorWin su == f.n) with
        | none => false
        | some e => decide ((suRorMax su : Int) * suRorWin su < (t - e.2.2) * 120)) then 4
  else if (zonesOfDryer f.d dc).any (fun z => match frameMean f.d f.ss (plenumSrc f.d z.2) with
      | some t => decide (hzMax z.2 + suPlenTrip su < t) | none => false) then 5
  else if cellHigh f p (dcMap dc) then 6
  else 0

/-- Stop of a discharge: mode STOP and Q 0. -/
def disStop (x : Discharge) : Discharge := { x with mode := 0, q := 0 }

/-- Withdraw the permits of a dryer's zones; every demand goes to 0. -/
def dropPermits (d : Datum) (dc : Bytes) (p : Plant) : Plant :=
  { p with zones := (zonesOfDryer d dc).foldl (fun zs z => modifyAt (fun h => { h with permit := false, u := 0, i := 0 }) z.1 zs) p.zones }

/-- Replace a dryer. -/
def setDryer (p : Plant) (x : Dryer) : Plant := { p with dryers := p.dryers.map fun q => if q.map = x.map then x else q }

/-- A batch machine's route numbers for a state (R172). -/
def batchRoutes (d : Datum) (map state : Nat) : List Nat :=
  if state = 1 then routesOfMap d map 1
  else if state = 5 then routesOfMap d map 2
  else if state = 2 ∨ state = 4 then routesOfMap d map 3
  else []

/-- Trip actions of R184 on a dryer that trips in frame n. -/
def tripActions (f : FrameIn) (dc : Bytes) (code : Nat) (x : Dryer) (p : Plant) : Plant :=
  let p := dropPermits f.d dc p
  let fans := ((f.d.recs tyDryFan).zip p.fans).map fun q =>
    if dfMap q.1 = x.map then { q.2 with hold := q.2.val, off := q.2.off && p.safeHeld } else q.2
  let dis := if dcTripRate dc = 0 then disStop x.dis else { x.dis with mode := 3, q := dcTripRate dc }
  let batchStop := x.bat.state = 1 ∨ x.bat.state = 2 ∨ x.bat.state = 3
  let p := stopRoutes f.n (routesOfMap f.d x.map 0) { p with fans := fans }
  let p := if batchStop then stopRoutes f.n (batchRoutes f.d x.map x.bat.state) p else p
  setDryer p { x with dis := dis, sup := { x.sup with trip := code, tripFrame := f.n },
                      bat := if batchStop then { x.bat with state := 0, frames := 0, next := false, aborting := false } else x.bat }

/-- Supervision of one dryer (R182, R183). -/
def superviseOne (f : FrameIn) (acc : Plant × Evs) (x : Dryer) : Plant × Evs :=
  let p := acc.1
  match f.d.dryerOf x.map, f.d.superOf x.map with
  | some dc, some su =>
    let probes := probesOf f.d dc su
    let stale := probes.map fun s => (s, staleNext f.d f.ss x.sup.stale s)
    let code := tripCode f p dc su stale x.sup.exh
    let news := (suExh su).filterMap fun s => (frameMean f.d f.ss s).map fun t => (s, f.n, t)
    let exh := news ++ x.sup.exh.filter fun e => decide (f.n < e.2.1 + 241)
    let armed := supArmed f.d p dc x
    let sup := { x.sup with stale := stale, exh := exh, clear := if code = 0 then x.sup.clear + 1 else 0 }
    let x := { x with sup := sup }
    if armed && code != 0 && x.sup.trip == 0 then
      (tripActions f dc code x (setDryer p x),
       acc.2 ++ [(0x0401, leBytes 1 x.map ++ leBytes 1 code ++ zeros 6 ++ leBytes 8 f.n)])
    else (setDryer p x, acc.2)
  | _, _ => acc

def supervise (f : FrameIn) (p : Plant) : Plant × Evs := p.dryers.foldl (superviseOne f) (p, [])

/-! The discharge choice (R160-R163). -/

def u64Max : Nat := 0xFFFFFFFFFFFFFFFF
def satAdd (a b : Nat) : Nat := min u64Max (a + b)
def satMul (a b : Nat) : Nat := min u64Max (a * b)

/-- Outlet target in force (Table 5-2; SET_TARGET): 0 takes the Legend's TARGET_DEFAULT. -/
def targetOf (imgs : List Bytes) (dc : Bytes) (x : Dryer) (legend : Nat) : Nat :=
  let t := match x.dis.target with | some t => t | none => dcTarget dc
  if t = 0 then lgTarget (legImg imgs legend) else t

/-- Cost terms of a candidate (R160): (e, o). A step flagged NO_GRAIN adds nothing. -/
def costSums (t od hs : Nat) (steps : List PredStep) : Nat × Nat :=
  (steps.drop (hs - 1)).foldl (fun a s =>
    if s.noGrain then a
    else
      let e : Int := (s.mean : Int) - t
      let a1 := satAdd a.1 (satMul e.natAbs e.natAbs)
      if e < -(od : Int) then (a1, satAdd a.2 (satMul (e + od).natAbs (e + od).natAbs)) else (a1, a.2)) (0, 0)

/-- The entry of candidate j (R160, R161, Table 5-16). -/
def choiceOf (dc : Bytes) (t od q : Nat) (c : CandBlk) : Choice :=
  let eo := costSums t od (dcHStart dc) c.steps
  let dev := ((c.factor : Int) - 32768).natAbs
  let r := dev * dev
  let cost := satAdd (satAdd (satAdd (satMul (dcWErr dc) eo.1) (satMul (dcWOd dc) eo.2)) (satMul (dcWRate dc) r))
    (satMul (dcWDml dc) c.lost)
  let rate := divr (q * c.factor) 32768
  let excl := b2n (bit c.flags 0) + 2 * b2n (decide ((divr (dcRateStep dc * 32768) 1000) < dev)) +
    4 * b2n (decide (rate < dcQMin dc) || decide ((dcQMax dc : Int) < rate)) + 8 * b2n (bit c.flags 2)
  { factor := c.factor, excl := excl, e := eo.1, o := eo.2, r := r, d := c.lost, cost := cost }

/-- Index of the element that no other precedes; the lower index wins a tie. -/
def bestIdx {α : Type} (better : α → α → Bool) (l : List (Nat × α)) : Option Nat :=
  (l.foldl (fun (b : Option (Nat × α)) x => match b with | none => some x | some y => if better x.2 y.2 then some x else some y) none).map Prod.fst

/-- Change the back-off of a dryer's zones at a choice (R162). -/
def backoffs (d : Datum) (dc : Bytes) (up : Bool) (p : Plant) : Plant :=
  { p with zones := (zonesOfDryer d dc).foldl (fun zs z =>
      modifyAt (fun h => { h with backoff := if up then h.backoff + hzBackoff z.2 else h.backoff - hzBackoff z.2 }) z.1 zs) p.zones }

/-- The choice of a continuous map in AUTO from a new bound result (R160-R163). -/
def chooseRate (f : FrameIn) (dc : Bytes) (x : Dryer) (legend : Nat) (res : PredResult) (p : Plant) : Plant :=
  let t := targetOf f.imgs dc x legend
  let cs := res.cands.map (choiceOf dc t (lgOdBand (legImg f.imgs legend)) res.q)
  let ix := (List.range cs.length).zip (cs.zip res.cands)
  let feas := ix.filter fun e => e.2.1.excl == 0
  let loose := ix.filter fun e => e.2.1.excl % 8 == 0
  let x := { x with choiceFrame := f.n, choices := cs, dis := { x.dis with lastBound := some res.bound } }
  let take (x : Dryer) (j : Nat) : Dryer :=
    { x with dis := { x.dis with q := (divr (res.q * (res.cands.getD j { factor := 0, flags := 0, maxT := 0, rows := 0, lost := 0, steps := [] }).factor) 32768).toNat, rateLim := false } }
  match bestIdx (fun a b => decide (a.1.cost < b.1.cost)) feas with
  | some j => setDryer (backoffs f.d dc false p) { take x j with dis := { (take x j).dis with kernel := false } }
  | none =>
    match bestIdx (fun a b => decide (a.2.maxT < b.2.maxT) || (a.2.maxT == b.2.maxT && decide (a.1.cost < b.1.cost))) loose with
    | some j => setDryer (backoffs f.d dc true p) { take x j with dis := { (take x j).dis with kernel := true } }
    | none =>
      let p := if x.dis.kernel then backoffs f.d dc true p else p
      setDryer p { x with dis := { x.dis with q := clampN (dcQMin dc) (dcQMax dc) res.q, rateLim := true } }

/-- The bound result that the decisions of frame n use (04 R140). -/
def boundAt (m : GMap) (n : Nat) : Option PredResult :=
  (m.results.filter fun r => decide (r.bound ≤ n)).foldl (fun b r => match b with
    | none => some r
    | some y => if y.bound < r.bound then some r else some y) none

/-- Discharge of one dryer in a frame (R160, R164, R166). -/
def dischargeOne (f : FrameIn) (acc : Plant × Evs) (x : Dryer) : Plant × Evs :=
  let p := acc.1
  match f.d.dryerOf x.map, f.d.mapRec x.map, p.maps.find? (fun m => m.shape.num == x.map) with
  | some dc, some mr, some m =>
    let res := boundAt m f.n
    let p1 := match res with
      | some r => if x.dis.mode = 1 ∧ mapKind mr = kCont ∧ x.dis.lastBound ≠ some r.bound
                  then chooseRate f dc x m.inlet.legend r p else p
      | none => p
    let x := (p1.dryers.find? fun q => q.map == x.map).getD x
    let adv := (f.ss.filter fun t => t.src == mapAdvSrc mr && carries f.d t && mapAdvSrc mr != 0)
    let metered := (sumI (adv.map fun t => max t.value 0))
    let d := x.dis
    let silent := if d.q = 0 ∨ adv ≠ [] then 0 else d.silent + 1
    let raise := !d.fault && d.q != 0 && decide (dcMeterStale dc ≤ silent)
    let fault := (d.fault || raise) && adv.isEmpty
    let lim : Int := dcTrimMax dc
    let trim := if d.mode = 0 ∨ fault then d.trim
      else clampI (-lim) lim (d.trim + rnd ((dcTrimKi dc : Int) * ((d.qPrev : Int) - metered)) 16)
    let act := if d.mode = 0 then 0 else clampI (dcAMin dc) (dcAMax dc) (divr (d.q * dcGain dc) 65536 + trim)
    let seen := match res with | some r => if mapKind mr = kCont then some r.bound else d.lastBound | none => d.lastBound
    let x := { x with dis := { d with silent := silent, fault := fault, trim := trim, act := act, qPrev := d.q, lastBound := seen } }
    (setDryer p1 x, acc.2 ++ if raise then [(0x0402, evMap x.map)] else [])
  | _, _, _ => acc

def discharges (f : FrameIn) (p : Plant) : Plant × Evs :=
  (sortBy (fun (a b : Dryer) => decide (a.map < b.map)) p.dryers).foldl (fun acc x =>
    dischargeOne f acc ((acc.1.dryers.find? fun q => q.map == x.map).getD x)) (p, [])

/-! Batch machines (R172-R175). -/

/-- Start listed routes, with their first frame's work. -/
def startRoutes (f : FrameIn) (nums : List Nat) (p : Plant) : Plant :=
  startListed f.n f.d (fun p r => routeWork f [] (setRoute p r) r) nums p

/-- Stop listed routes, with this frame's work. -/
def stopRoutesNow (f : FrameIn) (nums : List Nat) (p : Plant) : Plant :=
  nums.foldl (fun p k => match p.routes.find? fun r => r.num == k with
    | some r => if r.state = 1 ∨ r.state = 2 then routeWork f [] (setRoute p (beginStop f.n r)) (beginStop f.n r) else p
    | none => p) p

/-- A transition of a batch machine (R172). -/
def batchTo (f : FrameIn) (s : Nat) (x : Dryer) (p : Plant) : Plant :=
  let old := batchRoutes f.d x.map x.bat.state
  let new := batchRoutes f.d x.map s
  let p := stopRoutesNow f (old.filter fun k => !new.contains k) p
  let p := startRoutes f new p
  setDryer p { x with bat := { x.bat with state := s, frames := 0, filled := 0, next := false, aborting := false } }

/-- State after a state ends by its condition: TEMPER 0 is skipped. -/
def batchNext (dc : Bytes) (s : Nat) : Nat :=
  match s with
  | 1 => 2
  | 2 => if dcTemper dc = 0 then 4 else 3
  | 3 => 4
  | 4 => 5
  | _ => 0

/-- DRY's end test of R173, made in the first frame that uses a new bound result. -/
def dryEnds (f : FrameIn) (dc : Bytes) (x : Dryer) (m : GMap) : Bool × Option Nat :=
  match boundAt m f.n, f.d.predOf x.map with
  | some r, some pr =>
    if x.dis.lastBound = some r.bound then (false, x.dis.lastBound)
    else
      let k := (prPeriod pr + prStep pr - 1) / prStep pr
      let blk := (r.cands.headD { factor := 0, flags := 0, maxT := 0, rows := 0, lost := 0, steps := [] }).steps
      let high := (blk.getD (k - 1) { mean := 0, spread := 0, low := 0, high := 0, noGrain := true }).high
      (decide (high ≤ targetOf f.imgs dc x m.inlet.legend + dcCoolCredit dc), some r.bound)
  | _, _ => (false, x.dis.lastBound)

/-- A batch machine's frame (Table 5-7, R173-R175). -/
def batchOne (f : FrameIn) (acc : Plant × Evs) (x : Dryer) : Plant × Evs :=
  let p := acc.1
  match f.d.dryerOf x.map, f.d.mapRec x.map, p.maps.find? (fun m => m.shape.num == x.map) with
  | some dc, some mr, some m =>
    if mapKind mr = kCont then acc
    else
      let occ := m.cells.filter Cell.occ
      let meanT := if m.stepAt = some f.n then divr (wsum occ Cell.t) (dryOf occ) else x.bat.meanT
      let amb := (lookupKey (mapAmbT mr) m.held).getD 0
      let fillNow := (sumI ((f.ss.filter fun t => t.src == mapFillSrc mr && carries f.d t && mapFillSrc mr != 0).map fun t => max t.value 0)).toNat
      let de := dryEnds f dc x m
      let b := { x.bat with meanT := meanT, frames := if x.bat.held then x.bat.frames else x.bat.frames + 1,
                            filled := if x.bat.state = 1 then x.bat.filled + fillNow else x.bat.filled }
      let x := { x with bat := b, dis := { x.dis with lastBound := de.2 } }
      let p := setDryer p x
      if b.held then (p, acc.2)
      else if b.aborting then
        -- FILL, UNLOAD or COOL goes to IDLE once its route has stopped (R175)
        let rs := batchRoutes f.d x.map b.state
        if rs.all (fun k => match p.routes.find? (fun r => r.num == k) with | some r => r.state == 0 || r.state == 4 | none => true)
        then (setDryer p { x with bat := { b with state := 0, frames := 0, aborting := false, next := false } }, acc.2)
        else (p, acc.2)
      else
        let timeout : Bool := decide ((b.state = 2 ∧ dcDryMax dc * 1200 ≤ b.frames) ∨ (b.state = 4 ∧ dcCoolMax dc * 1200 ≤ b.frames))
        let cond : Bool := match b.state with
          | 1 => decide (dcBatchVol dc ≤ b.filled) || (dcFullUio dc != 0xFF && uioOn f.d f.ss (dcFullUio dc))
          | 2 => de.1
          | 3 => decide (dcTemper dc * 120 ≤ b.frames)
          | 4 => decide (meanT ≤ amb + dcCoolDt dc)
          | 5 => !m.cells.any Cell.occ
          | _ => false
        if b.state != 0 && (cond || timeout || b.next) then
          (batchTo f (batchNext dc b.state) x p,
           acc.2 ++ if timeout && b.state == 2 && !cond && !b.next then [(0x0403, evMap x.map ++ leBytes 1 b.state)] else [])
        else (setDryer p { x with bat := { b with next := false } }, acc.2)
  | _, _, _ => acc

def batches (f : FrameIn) (p : Plant) : Plant × Evs :=
  p.dryers.foldl (fun acc x => batchOne f acc ((acc.1.dryers.find? fun q => q.map == x.map).getD x)) (p, [])

/-! Heat zones (R167-R170). -/

/-- The permit output of a zone (R167, Table 5-7). -/
def permitOut (d : Datum) (p : Plant) (h : HeatZone) (map : Nat) : Bool :=
  match p.dryers.find? (fun x => x.map == map), d.mapRec map with
  | some x, some mr => h.permit && x.sup.trip == 0 && !p.safeHeld && !x.stopped &&
      (mapKind mr == kCont || x.bat.state == 2)
  | _, _ => false

/-- One zone's loop (R168, R169). -/
def heatOne (f : FrameIn) (p : Plant) (hz : Bytes) (h : HeatZone) : HeatZone :=
  let legend := match p.maps.find? (fun m => m.shape.num == hzMap hz) with | some m => m.inlet.legend | none => 0
  let mp := lgMaxPlenum (legImg f.imgs legend)
  let limit := if mp = 0 then hzMax hz else min (hzMax hz) mp
  let want := clampI (hzMin hz) limit (h.sp - h.backoff)
  let pm := frameMean f.d f.ss (plenumSrc f.d hz)
  let on := permitOut f.d p h (hzMap hz)
  if !on then
    { h with out := false, i := 0, u := 0, mean := pm, spe := pm.getD h.spe }
  else
    let spe := h.spe + clampI (-(hzRamp hz : Int)) (hzRamp hz) (want - h.spe)
    let h := { h with out := true, spe := spe, mean := pm }
    match h.ovr with
    | some v => { h with u := v, i := v }
    | none =>
      match pm with
      | none => h
      | some t =>
        let err := spe - t
        let ready := hzReady hz == 0xFF || uioOn f.d f.ss (hzReady hz)
        let hold := (h.u == 65535 && decide (0 < err)) || (h.u == 0 && decide (err < 0)) || !ready
        let i := if hold then h.i else clampI 0 65535 (h.i + rnd ((hzKi hz : Int) * err) 8)
        { h with i := i, u := clampI 0 65535 (rnd ((hzKp hz : Int) * err) 7 + i) }

def heatZones (f : FrameIn) (p : Plant) : Plant :=
  { p with zones := ((f.d.recs tyHeat).zip p.zones).map fun q => heatOne f p q.1 q.2 }

/-! Drying fans (R171). -/

/-- A fan's STATES bit for its map's present state; none for a held batch machine, whose outputs return by RESUME (R189). -/
def fanRuns (d : Datum) (p : Plant) (r : Bytes) : Bool :=
  match p.dryers.find? (fun x => x.map == dfMap r), d.mapRec (dfMap r) with
  | some x, some mr =>
    if mapKind mr = kCont then bit (dfStates r) 0 && x.dis.mode != 0
    else x.bat.state != 0 && !x.bat.held && bit (dfStates r) x.bat.state
  | _, _ => false

def fanOne (d : Datum) (p : Plant) (r : Bytes) (a : DFan) : DFan :=
  match p.dryers.find? (fun x => x.map == dfMap r) with
  | none => a
  | some x =>
    let v := if a.off then 0
      else if x.sup.trip ≠ 0 then (if dfFire r = 0 then 0 else if dfFire r = 1 then dfRun r else a.hold)
      else if x.stopped then (if a.val = 0 then 0 else dfRun r)
      else if fanRuns d p r then dfRun r else 0
    { a with val := v }

def dryFans (f : FrameIn) (p : Plant) : Plant :=
  { p with fans := ((f.d.recs tyDryFan).zip p.fans).map fun q => fanOne f.d p q.1 q.2 }

/-- A command that starts a map's drying again ends what the safe-state line did to its fans (R189). -/
def freeFans (d : Datum) (map : Nat) (p : Plant) : Plant :=
  { p with fans := ((d.recs tyDryFan).zip p.fans).map fun q => if dfMap q.1 = map then { q.2 with off := false } else q.2 }

/-! Internal commands (R155, R188, R189). -/

/-- STOP_DRYING ends for a dryer once the host, back again, has granted a permit of it and started its discharge (R188); a map
without heat zones needs no permit, a batch or recirculating one no discharge (notes/assumptions/41.md). -/
def dryAgain (d : Datum) (p : Plant) (x : Dryer) : Dryer :=
  let zones := match d.dryerOf x.map with | some dc => zonesOfDryer d dc | none => []
  let permit := zones.isEmpty || zones.any fun z => (p.zones[z.1]?).any HeatZone.permit
  let going := x.dis.mode != 0 || (match d.mapRec x.map with | some mr => mapKind mr != kCont && !zones.isEmpty | none => false)
  if !p.hostSilent && permit && going then { x with stopped := false } else x

/-- STOP_DRYING of a dryer (R188). -/
def stopDrying (n : Nat) (d : Datum) (dc : Bytes) (p : Plant) : Plant :=
  let p := stopRoutes n (routesOfMap d (dcMap dc) 0) (dropPermits d dc p)
  { p with dryers := p.dryers.map fun x => if x.map = dcMap dc then { x with stopped := true, dis := disStop x.dis } else x }

/-- HOST_SILENT: each map's HOST_POLICY (R188). -/
def hostSilentCmd (n acc : Nat) (d : Datum) (p : Plant) : Plant :=
  let p := { p with hostSilent := true, silentAt := some acc }
  (d.recs tyDryer).foldl (fun p dc =>
    if dcPolicy dc = 2 then stopDrying n d dc p
    else if dcPolicy dc = 1 then
      { p with dryers := p.dryers.map fun x =>
          if x.map = dcMap dc ∧ x.dis.mode = 1 then { x with dis := { x.dis with mode := 4 } } else x }
    else p) p

/-- HOST_RETURN: HOLD returns to AUTO (R188). -/
def hostReturnCmd (d : Datum) (p : Plant) : Plant :=
  let p := { p with hostSilent := false, silentAt := none }
  { p with dryers := p.dryers.map fun x => dryAgain d p (if x.dis.mode = 4 then { x with dis := { x.dis with mode := 1 } } else x) }

/-- HOST_LIMIT of a map (R188). -/
def hostLimitCmd (n : Nat) (d : Datum) (map : Nat) (p : Plant) : Plant :=
  match d.dryerOf map with
  | some dc => if dcPolicy dc = 2 then p else stopDrying n d dc p
  | none => p

/-- The map has a batch machine. -/
def batchMap (d : Datum) (map : Nat) : Bool := match d.mapRec map with | some mr => mapKind mr != kCont | none => false

/-- SAFE_SEEN: heat, discharge, fans and Routes stop, batch machines hold, one in IDLE too (R175, R189). -/
def safeSeenCmd (n : Nat) (d : Datum) (p : Plant) : Plant :=
  { p with safeHeld := true, safeSeen := true, zones := p.zones.map (fun h => { h with permit := false })
           fans := p.fans.map (fun a => { a with off := true })
           dryers := p.dryers.map (fun x => { x with dis := disStop x.dis, bat := { x.bat with held := x.bat.held || batchMap d x.map } })
           routes := p.routes.map fun r => if r.state = 0 then r
             else { r with state := 0, changed := n, fault := false, els := r.els.map fun _ => newEl } }

/-! Decision outputs and CAN frames (R156, R165, R170). -/

/-- Pulses of the frame pushed onto each motion input's history. -/
def pushPulses (f : FrameIn) (p : Plant) : Plant :=
  let chs := (f.d.recs tyElem).filterMap fun e => if elKind e = 1 ∧ elMotion e ≠ 0xFF then some (elMotion e) else none
  { p with pulses := chs.foldl (fun acc ch =>
      insertKey ch ((uioPulses f.d f.ss ch :: (lookupKey ch p.pulses).getD []).take 40) acc) p.pulses }

/-- Value of a drying decision output; none for a kind the layer does not set. -/
def dryOut (d : Datum) (p : Plant) (o : Bytes) : Option Int :=
  let dcOf := (d.recs tyDryer)[outOwner o]?
  let dry := dcOf.bind fun dc => p.dryers.find? fun x => x.map == dcMap dc
  if outKind o = 0x0401 then dry.map fun x => x.dis.act
  else if outKind o = 0x0406 then dry.map fun x => (x.bat.state : Int)
  else if outKind o = 0x0407 then dry.map fun x => (x.sup.trip : Int)
  else if outKind o = 0x0402 then (p.zones[outOwner o]?).map fun h => h.u
  else if outKind o = 0x0403 then (p.zones[outOwner o]?).map fun h => (b2n h.out : Int)
  else if outKind o = 0x0404 then (p.fans[outOwner o]?).map fun a => (a.val : Int)
  else if outKind o = 0x0405 then ((d.recs tyElem)[outOwner o]?).map fun e => elemOut d p e
  else none

/-- Number of the decision output that an owner has of a kind (13 Table 13-13). -/
def outNumOf (d : Datum) (kind owner : Nat) : Nat :=
  match (d.recs tyOutput).find? fun o => outKind o == kind && outOwner o == owner with | some o => outNum o | none => 0

/-- The CAN frames of the frame's decisions (R165, R170), ascending by decision output (12): number, channel, identifier,
data; one for each DIS_KIND 3 and each CAN heat demand. -/
def dryCan (d : Datum) (p : Plant) : List (Nat × Nat × Nat × Bytes) :=
  let dcs := d.recs tyDryer
  let hzs := d.recs tyHeat
  sortBy (fun a b => decide (a.1 < b.1)) (
    ((List.range dcs.length).filterMap fun i =>
      let dc := dcs.getD i []
      if dcDisKind dc = 3 then (p.dryers.find? fun x => x.map == dcMap dc).map fun x =>
        (outNumOf d 0x0401 i, dcDisCh dc, dcCanId dc, leBytes 2 x.dis.act.toNat ++ leBytes 1 x.dis.mode ++ leBytes 1 x.dis.alive)
      else none) ++
    ((List.range hzs.length).filterMap fun i =>
      let r := hzs.getD i []
      match p.zones[i]? with
      | none => none
      | some z =>
        if hzDemKind r = 1 then
          let trip := match p.dryers.find? (fun x => x.map == hzMap r) with | some x => x.sup.trip != 0 | none => false
          some (outNumOf d 0x0402 i, hzDemCh r, hzDemParam r, leBytes 1 (hzZone r % 16 + 64 * b2n trip + 128 * b2n z.out) ++ leBytes 1 z.alive ++
            leBytes 2 z.u.toNat ++ leBytes 2 (ofS 16 z.spe) ++ leBytes 2 (match z.mean with | some t => ofS 16 t | none => 0x8000))
        else none))

/-- Alive counters of the CAN frames rise by 1 per frame (R165, R170). -/
def bumpAlive (p : Plant) : Plant :=
  { p with dryers := p.dryers.map fun x => { x with dis := { x.dis with alive := (x.dis.alive + 1) % 256 } }
           zones := p.zones.map fun z => { z with alive := (z.alive + 1) % 256 } }

end Sys2Proof.Machine
end

