-- ==== Sys2Proof/Machine/Codec.lean ====
section
/-!
DEFINITION. Layouts that belong to the firmware build: the capture snapshot (02 R72, R74; 04 R123) and the map blocks of a save image
(04 R151, R152). A coder spells data as bytes and reads back what it spelt. A mask and a length of padding with no body leave the
build's own layout free (notes/assumptions/4.md).
-/
namespace Sys2Proof

/-- What the build's layout lays over the bytes, by offset, and what it adds to a byte string of a length. -/
opaque Config.layoutMask : Nat → Byte
opaque Config.layoutPad : Nat → Nat

namespace Machine

/-- A way to spell a type as bytes that reads back what it spelt and leaves what follows. -/
structure Coder (α : Type) where
  put : α → Bytes
  get : Bytes → Option (α × Bytes)
  law : ∀ x r, get (put x ++ r) = some (x, r)

/-! Numbers: seven bits a byte, the lowest first, bit 7 set while more follow. -/

def natPut : Nat → Nat → Bytes
  | 0, n => [BitVec.ofNat 8 n]
  | k + 1, n => if n < 128 then [BitVec.ofNat 8 n] else BitVec.ofNat 8 (128 + n % 128) :: natPut k (n / 128)

def natGet : Bytes → Option (Nat × Bytes)
  | [] => none
  | b :: r =>
    if b.toNat < 128 then some (b.toNat, r)
    else match natGet r with
      | some (v, t) => some (b.toNat - 128 + 128 * v, t)
      | none => none

theorem natGet_natPut (k n : Nat) (r : Bytes) (h : n < 2 ^ k) : natGet (natPut k n ++ r) = some (n, r) := by
  induction k generalizing n with
  | zero =>
    obtain rfl : n = 0 := by omega
    rfl
  | succ k ih =>
    unfold natPut
    split
    · have : n % 256 = n := by omega
      simp [natGet, *]
    · have h1 : (128 + n % 128) % 256 = 128 + n % 128 := by omega
      have h2 := ih (n / 128) (by omega)
      simp [natGet, h1, h2]
      omega

/-- Items up to a count. -/
def itemsGet {α : Type} (f : Bytes → Option (α × Bytes)) : Nat → Bytes → Option (List α × Bytes)
  | 0, b => some ([], b)
  | k + 1, b =>
    match f b with
    | none => none
    | some (x, t) => match itemsGet f k t with
      | some (l, u) => some (x :: l, u)
      | none => none

theorem itemsGet_flatMap {α : Type} (c : Coder α) (l : List α) (r : Bytes) :
    itemsGet c.get l.length (l.flatMap c.put ++ r) = some (l, r) := by
  induction l with
  | nil => rfl
  | cons x l ih => simp [itemsGet, List.append_assoc, c.law, ih]

/-! Coders of the plain types. -/

def Coder.nat : Coder Nat where
  put n := natPut (n.log2 + 1) n
  get := natGet
  law n r := natGet_natPut _ n r Nat.lt_log2_self

/-- A coder through another type. -/
def Coder.via {α β : Type} (f : α → β) (g : β → α) (h : ∀ x, g (f x) = x) (c : Coder β) : Coder α where
  put x := c.put (f x)
  get b := (c.get b).map fun p => (g p.1, p.2)
  law x r := by simp [c.law, h]

def Coder.pair {α β : Type} (a : Coder α) (b : Coder β) : Coder (α × β) where
  put x := a.put x.1 ++ b.put x.2
  get l := match a.get l with
    | none => none
    | some (x, t) => (b.get t).map fun p => ((x, p.1), p.2)
  law x r := by simp [List.append_assoc, a.law, b.law]

def Coder.list {α : Type} (a : Coder α) : Coder (List α) where
  put l := Coder.nat.put l.length ++ l.flatMap a.put
  get b := match Coder.nat.get b with
    | none => none
    | some (n, t) => itemsGet a.get n t
  law l r := by simp [List.append_assoc, Coder.nat.law, itemsGet_flatMap]

def Coder.bool : Coder Bool := .via (fun b => if b then 1 else 0) (fun n => n == 1) (by decide) .nat
def Coder.int : Coder Int :=
  .via (fun x => if 0 ≤ x then 2 * x.toNat else 2 * (-x).toNat + 1)
    (fun n => if n % 2 = 0 then (n / 2 : Nat) else -(n / 2 : Nat))
    (fun x => by by_cases h : 0 ≤ x <;> simp [h]; omega) .nat
def Coder.option {α : Type} (a : Coder α) : Coder (Option α) :=
  .via Option.toList List.head? (fun x => by cases x <;> rfl) (.list a)
def Coder.bytes : Coder Bytes :=
  .via (fun b => b.map fun x => x.toNat) (fun l => l.map fun n => BitVec.ofNat 8 n) (fun b => by induction b <;> simp_all) (.list .nat)

/-! The plant's structures. -/

def Coder.cell : Coder Cell :=
  .via (fun x => (x.m, x.t, x.age, x.dml, x.stress, x.lot, x.dry, x.var, x.flags))
    (fun (m, t, age, dml, stress, lot, dry, var, flags) =>
      { m, t, age, dml, stress, lot, dry, var, flags }) (fun _ => rfl)
    (.pair .nat <| .pair .int <| .pair .nat <| .pair .nat <| .pair .nat <| .pair .nat <| .pair .nat <| .pair .nat <| .nat)

def Coder.inlet : Coder Inlet :=
  .via (fun x => (x.m, x.var, x.t, x.legend, x.measured, x.valid, x.lot, x.est, x.pIn))
    (fun (m, var, t, legend, measured, valid, lot, est, pIn) =>
      { m, var, t, legend, measured, valid, lot, est, pIn }) (fun _ => rfl)
    (.pair .nat <| .pair .nat <| .pair .int <| .pair .nat <| .pair .bool <| .pair .bool <| .pair .nat <| .pair .nat <| .nat)

def Coder.outRec : Coder OutRec :=
  .via (fun x => (x.frame, x.age, x.m, x.t, x.var, x.map, x.legend, x.lot, x.hi, x.lo, x.flags, x.seq))
    (fun (frame, age, m, t, var, map, legend, lot, hi, lo, flags, seq) =>
      { frame, age, m, t, var, map, legend, lot, hi, lo, flags, seq }) (fun _ => rfl)
    (.pair .nat <| .pair .nat <| .pair .nat <| .pair .int <| .pair .nat <| .pair .nat <| .pair .nat <| .pair .nat <|
      .pair .nat <| .pair .nat <| .pair .nat <| .nat)

def Coder.openPair : Coder OpenPair :=
  .via (fun x => (x.opened, x.sum, x.cnt))
    (fun (opened, sum, cnt) =>
      { opened, sum, cnt }) (fun _ => rfl)
    (.pair .nat <| .pair .int <| .nat)

def Coder.pairEntry : Coder PairEntry :=
  .via (fun x => (x.frame, x.age, x.recM, x.mean, x.y, x.bias, x.cnt, x.map, x.legend, x.seq, x.flags))
    (fun (frame, age, recM, mean, y, bias, cnt, map, legend, seq, flags) =>
      { frame, age, recM, mean, y, bias, cnt, map, legend, seq, flags }) (fun _ => rfl)
    (.pair .nat <| .pair .nat <| .pair .nat <| .pair .nat <| .pair .int <| .pair .int <| .pair .nat <| .pair .nat <|
      .pair .nat <| .pair .nat <| .nat)

def Coder.histEntry : Coder HistEntry :=
  .via (fun x => (x.frame, x.m24, x.measured))
    (fun (frame, m24, measured) =>
      { frame, m24, measured }) (fun _ => rfl)
    (.pair .nat <| .pair .nat <| .bool)

def Coder.biasSt : Coder BiasSt :=
  .via (fun x => (x.b, x.p, x.last, x.pairs, x.gated))
    (fun (b, p, last, pairs, gated) =>
      { b, p, last, pairs, gated }) (fun _ => rfl)
    (.pair .int <| .pair .nat <| .pair .nat <| .pair .nat <| .nat)

def Coder.predStep : Coder PredStep :=
  .via (fun x => (x.mean, x.spread, x.low, x.high, x.noGrain))
    (fun (mean, spread, low, high, noGrain) =>
      { mean, spread, low, high, noGrain }) (fun _ => rfl)
    (.pair .nat <| .pair .nat <| .pair .nat <| .pair .nat <| .bool)

def Coder.candBlk : Coder CandBlk :=
  .via (fun x => (x.factor, x.flags, x.maxT, x.rows, x.lost, x.steps))
    (fun (factor, flags, maxT, rows, lost, steps) =>
      { factor, flags, maxT, rows, lost, steps }) (fun _ => rfl)
    (.pair .nat <| .pair .nat <| .pair .int <| .pair .nat <| .pair .nat <| (.list .predStep))

def Coder.predResult : Coder PredResult :=
  .via (fun x => (x.bound, x.start, x.map, x.members, x.horizon, x.q, x.predStep, x.flags, x.cands))
    (fun (bound, start, map, members, horizon, q, predStep, flags, cands) =>
      { bound, start, map, members, horizon, q, predStep, flags, cands }) (fun _ => rfl)
    (.pair .nat <| .pair .nat <| .pair .nat <| .pair .nat <| .pair .nat <| .pair .nat <| .pair .nat <| .pair .nat <|
      (.list .candBlk))

def Coder.memStep : Coder MemStep :=
  .via (fun x => (x.grain, x.v, x.legend, x.cells))
    (fun (grain, v, legend, cells) =>
      { grain, v, legend, cells }) (fun _ => rfl)
    (.pair .bool <| .pair .int <| .pair .nat <| (.list (.pair .nat .nat)))

def Coder.memRun : Coder MemRun :=
  .via (fun x => (x.cand, x.member, x.steps, x.overheat, x.airLimit, x.maxT, x.seen, x.rows, x.lost))
    (fun (cand, member, steps, overheat, airLimit, maxT, seen, rows, lost) =>
      { cand, member, steps, overheat, airLimit, maxT, seen, rows, lost }) (fun _ => rfl)
    (.pair .nat <| .pair .nat <| .pair (.list .memStep) <| .pair .bool <| .pair .bool <| .pair .int <| .pair .bool <|
      .pair .nat <| .int)

def Coder.zoneAir : Coder ZoneAir :=
  .via (fun x => (x.flow, x.ta))
    (fun (flow, ta) =>
      { flow, ta }) (fun _ => rfl)
    (.pair .int <| .int)

def Coder.shape : Coder Shape :=
  .via (fun x => (x.num, x.kind, x.rows, x.slices, x.sections, x.rowVol))
    (fun (num, kind, rows, slices, sections, rowVol) =>
      { num, kind, rows, slices, sections, rowVol }) (fun _ => rfl)
    (.pair .nat <| .pair .nat <| .pair .nat <| .pair .nat <| .pair .nat <| .nat)

def Coder.predJob : Coder PredJob :=
  .via (fun x => (x.start, x.bound, x.shape, x.cells, x.adv, x.rot, x.inlet, x.fillT, x.fillLegend, x.fillLot, x.psc, x.ambT,
    x.ambRh, x.zones, x.bias, x.legends, x.q, x.fromNom, x.rotFrame, x.members, x.predStep, x.horizon, x.factors, x.zoneRows,
    x.todo, x.done))
    (fun (start, bound, shape, cells, adv, rot, inlet, fillT, fillLegend, fillLot, psc, ambT, ambRh, zones, bias, legends, q,
      fromNom, rotFrame, members, predStep, horizon, factors, zoneRows, todo, done) =>
      { start, bound, shape, cells, adv, rot, inlet, fillT, fillLegend, fillLot, psc, ambT, ambRh, zones, bias, legends, q,
        fromNom, rotFrame, members, predStep, horizon, factors, zoneRows, todo, done }) (fun _ => rfl)
    (.pair .nat <| .pair .nat <| .pair .shape <| .pair (.list .cell) <| .pair .nat <| .pair .nat <| .pair (.option .inlet) <|
      .pair .int <| .pair .nat <| .pair .nat <| .pair .int <| .pair .int <| .pair .int <| .pair (.list .zoneAir) <|
      .pair (.list .int) <| .pair (.list .bytes) <| .pair .nat <| .pair .bool <| .pair .nat <| .pair .nat <| .pair .nat <|
      .pair .nat <| .pair (.list .nat) <| .pair (.list (.pair .nat .nat)) <| .pair (.list (.pair .nat .nat)) <|
      (.list .memRun))

def Coder.gMap : Coder GMap :=
  .via (fun x => (x.shape, x.cells, x.adv, x.rot, x.fill, x.outSeq, x.acc, x.held, x.steps, x.stepAt, x.repaired, x.aborted,
    x.clipped, x.stale, x.noInlet, x.invalid, x.inlet, x.history, x.queue, x.openPair, x.pairLog, x.formed, x.rots,
    x.results, x.jobs))
    (fun (shape, cells, adv, rot, fill, outSeq, acc, held, steps, stepAt, repaired, aborted, clipped, stale, noInlet,
      invalid, inlet, history, queue, openPair, pairLog, formed, rots, results, jobs) =>
      { shape, cells, adv, rot, fill, outSeq, acc, held, steps, stepAt, repaired, aborted, clipped, stale, noInlet, invalid,
        inlet, history, queue, openPair, pairLog, formed, rots, results, jobs }) (fun _ => rfl)
    (.pair .shape <| .pair (.list .cell) <| .pair .nat <| .pair .nat <| .pair .nat <| .pair .nat <|
      .pair (.list (.pair .nat (.pair .nat .int))) <| .pair (.list (.pair .nat .int)) <| .pair .nat <|
      .pair (.option .nat) <| .pair .bool <| .pair .bool <| .pair .bool <| .pair .bool <| .pair .bool <| .pair .bool <|
      .pair .inlet <| .pair (.list .histEntry) <| .pair (.list .outRec) <| .pair (.option .openPair) <|
      .pair (.list .pairEntry) <| .pair .bool <| .pair (.list (.pair .nat .nat)) <| .pair (.list .predResult) <|
      (.list .predJob))

def Coder.discharge : Coder Discharge :=
  .via (fun x => (x.mode, x.q, x.qPrev, x.trim, x.act, x.silent, x.fault, x.target, x.kernel, x.rateLim, x.alive, x.lastBound))
    (fun (mode, q, qPrev, trim, act, silent, fault, target, kernel, rateLim, alive, lastBound) =>
      { mode, q, qPrev, trim, act, silent, fault, target, kernel, rateLim, alive, lastBound }) (fun _ => rfl)
    (.pair .nat <| .pair .nat <| .pair .nat <| .pair .int <| .pair .int <| .pair .nat <| .pair .bool <|
      .pair (.option .nat) <| .pair .bool <| .pair .bool <| .pair .nat <| (.option .nat))

def Coder.choice : Coder Choice :=
  .via (fun x => (x.factor, x.excl, x.e, x.o, x.r, x.d, x.cost))
    (fun (factor, excl, e, o, r, d, cost) =>
      { factor, excl, e, o, r, d, cost }) (fun _ => rfl)
    (.pair .nat <| .pair .nat <| .pair .nat <| .pair .nat <| .pair .nat <| .pair .nat <| .nat)

def Coder.super : Coder Super :=
  .via (fun x => (x.trip, x.tripFrame, x.clear, x.stale, x.exh))
    (fun (trip, tripFrame, clear, stale, exh) =>
      { trip, tripFrame, clear, stale, exh }) (fun _ => rfl)
    (.pair .nat <| .pair .nat <| .pair .nat <| .pair (.list (.pair .nat .nat)) <| (.list (.pair .nat (.pair .nat .int))))

def Coder.batch : Coder Batch :=
  .via (fun x => (x.state, x.held, x.frames, x.filled, x.meanT, x.next, x.aborting))
    (fun (state, held, frames, filled, meanT, next, aborting) =>
      { state, held, frames, filled, meanT, next, aborting }) (fun _ => rfl)
    (.pair .nat <| .pair .bool <| .pair .nat <| .pair .nat <| .pair .int <| .pair .bool <| .bool)

def Coder.dryer : Coder Dryer :=
  .via (fun x => (x.map, x.dis, x.sup, x.bat, x.stopped, x.choiceFrame, x.choices))
    (fun (map, dis, sup, bat, stopped, choiceFrame, choices) =>
      { map, dis, sup, bat, stopped, choiceFrame, choices }) (fun _ => rfl)
    (.pair .nat <| .pair .discharge <| .pair .super <| .pair .batch <| .pair .bool <| .pair .nat <| (.list .choice))

def Coder.heatZone : Coder HeatZone :=
  .via (fun x => (x.sp, x.backoff, x.spe, x.i, x.u, x.permit, x.out, x.ovr, x.mean, x.alive))
    (fun (sp, backoff, spe, i, u, permit, out, ovr, mean, alive) =>
      { sp, backoff, spe, i, u, permit, out, ovr, mean, alive }) (fun _ => rfl)
    (.pair .int <| .pair .nat <| .pair .int <| .pair .int <| .pair .int <| .pair .bool <| .pair .bool <|
      .pair (.option .nat) <| .pair (.option .int) <| .nat)

def Coder.dFan : Coder DFan :=
  .via (fun x => (x.val, x.hold, x.off))
    (fun (val, hold, off) =>
      { val, hold, off }) (fun _ => rfl)
    (.pair .nat <| .pair .nat <| .bool)

def Coder.routeEl : Coder RouteEl :=
  .via (fun x => (x.on, x.proven, x.frames, x.off))
    (fun (on, proven, frames, off) =>
      { on, proven, frames, off }) (fun _ => rfl)
    (.pair .bool <| .pair .bool <| .pair .nat <| (.option .nat))

def Coder.route : Coder Route :=
  .via (fun x => (x.num, x.state, x.cause, x.elem, x.changed, x.fault, x.stopped, x.els))
    (fun (num, state, cause, elem, changed, fault, stopped, els) =>
      { num, state, cause, elem, changed, fault, stopped, els }) (fun _ => rfl)
    (.pair .nat <| .pair .nat <| .pair .nat <| .pair .nat <| .pair .nat <| .pair .bool <| .pair (.option .nat) <|
      (.list .routeEl))

def Coder.sensSt : Coder SensSt :=
  .via (fun x => (x.last, x.lastFrame, x.status, x.since, x.run, x.lost, x.hot, x.cannot, x.hist, x.back, x.fresh, x.cool,
    x.calm))
    (fun (last, lastFrame, status, since, run, lost, hot, cannot, hist, back, fresh, cool, calm) =>
      { last, lastFrame, status, since, run, lost, hot, cannot, hist, back, fresh, cool, calm }) (fun _ => rfl)
    (.pair .int <| .pair .nat <| .pair .nat <| .pair .nat <| .pair .nat <| .pair .bool <| .pair .bool <| .pair .bool <|
      .pair (.list (.pair .int .nat)) <| .pair .nat <| .pair .bool <| .pair .nat <| .nat)

def Coder.binSt : Coder BinSt :=
  .via (fun x => (x.map, x.mode, x.on, x.since, x.force, x.fOn, x.coolF, x.dryF, x.tAir, x.budget, x.worst, x.lowConf,
    x.warn, x.spent, x.ambStale, x.alarm, x.decided, x.sensors, x.codes))
    (fun (map, mode, on, since, force, fOn, coolF, dryF, tAir, budget, worst, lowConf, warn, spent, ambStale, alarm, decided,
      sensors, codes) =>
      { map, mode, on, since, force, fOn, coolF, dryF, tAir, budget, worst, lowConf, warn, spent, ambStale, alarm, decided,
        sensors, codes }) (fun _ => rfl)
    (.pair .nat <| .pair .nat <| .pair .bool <| .pair .nat <| .pair (.option .nat) <| .pair .nat <| .pair .nat <|
      .pair .nat <| .pair (.option .int) <| .pair .nat <| .pair .nat <| .pair .bool <| .pair .bool <| .pair .bool <|
      .pair .bool <| .pair .nat <| .pair .bool <| .pair (.list .sensSt) <| (.list (.pair .nat .nat)))

def Coder.out : Coder Out :=
  .via (fun x => (x.num, x.kind, x.val))
    (fun (num, kind, val) =>
      { num, kind, val }) (fun _ => rfl)
    (.pair .nat <| .pair .nat <| .int)

def Coder.plant : Coder Plant :=
  .via (fun x => (x.maps, x.bias, x.dryers, x.zones, x.fans, x.routes, x.pulses, x.bins, x.outs, x.canOut, x.safeHeld,
    x.safeSeen, x.hostSilent, x.silentAt, x.last))
    (fun (maps, bias, dryers, zones, fans, routes, pulses, bins, outs, canOut, safeHeld, safeSeen, hostSilent, silentAt, last) =>
      { maps, bias, dryers, zones, fans, routes, pulses, bins, outs, canOut, safeHeld, safeSeen, hostSilent, silentAt, last }) (fun _ => rfl)
    (.pair (.list .gMap) <| .pair (.list .biasSt) <| .pair (.list .dryer) <| .pair (.list .heatZone) <|
      .pair (.list .dFan) <| .pair (.list .route) <| .pair (.list (.pair .nat (.list .nat))) <| .pair (.list .binSt) <|
      .pair (.list .out) <| .pair (.list (.pair .nat (.pair .nat (.pair .nat .bytes)))) <| .pair .bool <| .pair .bool <|
      .pair .bool <| .pair (.option .nat) <| (.option .nat))

def Coder.saveBlock : Coder SaveBlock :=
  .via (fun x => (x.num, x.kind, x.rows, x.slices, x.sections, x.adv, x.rot, x.fill, x.outSeq, x.inlet, x.history, x.queue,
    x.openPair, x.cells))
    (fun (num, kind, rows, slices, sections, adv, rot, fill, outSeq, inlet, history, queue, openPair, cells) =>
      { num, kind, rows, slices, sections, adv, rot, fill, outSeq, inlet, history, queue, openPair, cells }) (fun _ => rfl)
    (.pair .nat <| .pair .nat <| .pair .nat <| .pair .nat <| .pair .nat <| .pair .nat <| .pair .nat <| .pair .nat <|
      .pair .nat <| .pair .inlet <| .pair (.list .histEntry) <| .pair (.list .outRec) <| .pair (.option .openPair) <|
      (.list .cell))

/-! The build's layout of a byte string. -/

def layOver : Nat → Bytes → Bytes
  | _, [] => []
  | i, b :: r => (b ^^^ Config.layoutMask i) :: layOver (i + 1) r

theorem layOver_layOver (i : Nat) (b : Bytes) : layOver i (layOver i b) = b := by
  induction b generalizing i with
  | nil => rfl
  | cons b r ih => simp [layOver, ih]

/-- The bytes of a value under the build's layout, and the value that bytes spell. -/
def laid {α : Type} (c : Coder α) (x : α) : Bytes :=
  let b := c.put x
  layOver 0 (b ++ List.replicate (Config.layoutPad b.length) 0)
def unlaid {α : Type} (c : Coder α) (b : Bytes) : Option α := (c.get (layOver 0 b)).map Prod.fst

/-- What was laid out is read back. -/
theorem unlaid_laid {α : Type} (c : Coder α) (x : α) : unlaid c (laid c x) = some x := by
  simp [unlaid, laid, layOver_layOver, c.law]

/-- The capture snapshot: the plant as the decisions of its frame begin, and the outputs then in force (02 R71, R72). -/
def snapshot (p : Plant) (inForce : List Out) : Bytes := laid (.pair .plant (.list .out)) (p, inForce)
def snapshotOf (b : Bytes) : Option (Plant × List Out) := unlaid (.pair .plant (.list .out)) b

/-- The map blocks of a save image, and the blocks that bytes spell: none of them where they spell no list of blocks. -/
def mapBlocks (l : List SaveBlock) : Bytes := laid (.list .saveBlock) l
def blocksOfImage (b : Bytes) : List SaveBlock := (unlaid (.list .saveBlock) b).getD []

end Machine
end Sys2Proof
end

