-- ==== Sys2Proof/Machine/TypesCan.lean ====
section
/-!
DEFINITION. State of the CAN channels, as plain data (12).
-/
namespace Sys2Proof.Machine

/-- A frame in a transmit FIFO (12 R346-R352). -/
structure TxFrame where
  frame : CanFrame
  /-- attributes of Table 12-7 -/
  attrs : Nat
  tag : Nat
  enq : Nat
  /-- channel that took it in -/
  origin : Nat
  fw : Bool
  /-- decision output that a firmware frame carries -/
  out : Option Nat
  /-- instant of a cancel that waits for the frame's outcome (R348) -/
  cancel : Option Nat
deriving DecidableEq, Repr

/-- A receive message buffer (12 R345). -/
structure MsgBuf where
  count : Nat
  stamp : Nat
  filter : Nat
  frame : CanFrame
deriving DecidableEq, Repr

/-- A filter's token bucket (12 R342): tokens, remainder of the refill time, last stamp, frame of the last CAN_RATE. -/
structure Bucket where
  idx : Nat
  tok : Nat
  rem : Nat
  last : Nat
  raised : Option Nat
deriving DecidableEq, Repr

/-- A stranger (12 R353). -/
structure Stranger where
  id : Nat
  count : Nat
  latest : Nat
deriving DecidableEq, Repr

/-- Address claim of a channel (12 R354). -/
structure Claim where
  name : Nat
  addr : Nat
  lo : Nat
  hi : Nat
  since : Nat
  holding : Bool
  /-- addresses that other nodes claimed -/
  others : List Nat
deriving DecidableEq, Repr

/-- A CAN channel (12). State: 0 active, 1 passive, 2 bus-off, 3 off. -/
structure CanCh where
  ch : Nat
  state : Nat
  recovering : Bool
  standby : Bool
  tec : Nat
  rec' : Nat
  busOffs : Nat
  pexc : Nat
  wake : Bool
  cmdBad : Nat
  fwDrop : Nat
  fifoDrop : Nat
  rateDrop : Nat
  strangers : Nat
  table : List Stranger
  fifo : List TxFrame
  /-- receive FIFO: records of frames that DMA has not moved yet (R344) -/
  rx : List (List Bytes)
  bufs : List MsgBuf
  buckets : List Bucket
  /-- outcomes of host frames by channel and tag, latest first (R348) -/
  outcomes : List (Nat × Nat)
  claim : Option Claim
  /-- requests over CAN that core M has not taken yet (R356) -/
  reqs : List Bytes
  mbLo : Nat
  mbHi : Nat
deriving DecidableEq, Repr

end Sys2Proof.Machine
end

