-- ==== Sys2Proof/Machine/Can.lean ====
section
/-!
DEFINITION. CAN channels: filters, rate limits, signals, buffers, transmit FIFO, errors, failover, strangers, address
claiming (12).
-/
namespace Sys2Proof.Machine

/-! CAN channel record (Table 12-1). -/
def cnCh (r : Bytes) : Nat := u8 r 0
def cnMode (r : Bytes) : Nat := u8 r 1
def cnAuto (r : Bytes) : Bool := bit (u8 r 2) 0
def cnPair (r : Bytes) : Bool := bit (u8 r 2) 1
def cnFailFw (r : Bytes) : Bool := bit (u8 r 2) 2
def cnWakeEn (r : Bytes) : Bool := bit (u8 r 2) 3
def cnSic (r : Bytes) : Bool := bit (u8 r 2) 4
def cnUnknown (r : Bytes) : Bool := bit (u8 r 2) 5
def cnHostMax (r : Bytes) : Nat := u8 r 3
def cnNbrp (r : Bytes) : Nat := u8 r 4
def cnNseg1 (r : Bytes) : Nat := u16 r 6
def cnNseg2 (r : Bytes) : Nat := u8 r 8
def cnDbrp (r : Bytes) : Nat := u8 r 9
def cnDseg1 (r : Bytes) : Nat := u8 r 10
def cnDseg2 (r : Bytes) : Nat := u8 r 11
def cnFilterBase (r : Bytes) : Nat := u16 r 14
def cnFilters (r : Bytes) : Nat := u8 r 16
def cnSignalBase (r : Bytes) : Nat := u16 r 18
def cnSignals (r : Bytes) : Nat := u16 r 20
/-! Filter record (Table 12-2). -/
def flIdx (r : Bytes) : Nat := u8 r 0
def flFifo (r : Bytes) : Bool := bit (u8 r 1) 0
def flBuf (r : Bytes) : Bool := bit (u8 r 1) 1
def flBuffer (r : Bytes) : Nat := u8 r 2
def flFlags (r : Bytes) : Nat := u8 r 3
def flId (r : Bytes) : Nat := u32 r 4
def flMask (r : Bytes) : Nat := u32 r 8
def flPeriod (r : Bytes) : Nat := u16 r 12
def flBurst (r : Bytes) : Nat := u8 r 14
/-! Signal record (Table 12-3). -/
def sgFilter (r : Bytes) : Nat := u8 r 0
def sgStart (r : Bytes) : Nat := u8 r 1
def sgLen (r : Bytes) : Nat := bits (u8 r 2) 2 0
def sgSigned (r : Bytes) : Bool := bit (u8 r 2) 7
def sgNa (r : Bytes) : Bool := bit (u8 r 3) 0
def sgBig (r : Bytes) : Bool := bit (u8 r 3) 1
def sgSrc (r : Bytes) : Nat := u16 r 4
def sgScale (r : Bytes) : Int := s32 r 8
def sgOffset (r : Bytes) : Int := s32 r 12
/-! Command record (Table 12-4). -/
def ccCh (r : Bytes) : Nat := u8 r 0
def ccReq (r : Bytes) : Nat := u16 r 2
def ccRsp (r : Bytes) : Nat := u16 r 4
def ccAllow (r : Bytes) : Nat := u16 r 6

def Datum.canRec (d : Datum) (ch : Nat) : Option Bytes := (d.recs tyCan).find? fun r => cnCh r == ch
def Datum.canCmd (d : Datum) (ch : Nat) : Option Bytes := (d.recs tyCanCmd).find? fun r => ccCh r == ch
def Datum.canFilters (d : Datum) (r : Bytes) : List Bytes :=
  sortBy (fun a b => decide (flIdx a < flIdx b)) (d.run tyFilter (cnFilterBase r) (cnFilters r))
def Datum.canSignals (d : Datum) (r : Bytes) : List Bytes := d.run tySignal (cnSignalBase r) (cnSignals r)

/-- F of R340: decision outputs whose frames the channel carries. -/
def Datum.canOutputs (d : Datum) (ch : Nat) : Nat :=
  ((d.recs tyHeat).filter fun r => hzDemKind r == 1 && hzDemCh r == ch).length
    + ((d.recs tyDryer).filter fun r => dcDisKind r == 3 && dcDisCh r == ch).length
/-- HOST_MAX in force: 0 gives the smaller of 24 and 30 − 2F. -/
def hostMaxOf (d : Datum) (r : Bytes) : Nat := dflt (cnHostMax r) (min 24 (30 - 2 * d.canOutputs (cnCh r)))

def ideOf (f : CanFrame) : Bool := bit f.id 29
def remoteOf (f : CanFrame) : Bool := bit f.id 30
def fdOf (f : CanFrame) : Bool := bit f.dlc 4
/-- Data length of a DLC byte (ISO 11898-1): 9 to 15 stand for 12 to 64 bytes in FD frames, for 8 in classical ones. -/
def dlcLen (dlc : Nat) : Nat :=
  let n := dlc % 16
  if n ≤ 8 then n else if bit dlc 4 then [12, 16, 20, 24, 32, 48, 64].getD (n - 9) 64 else 8

def newCan (ch state : Nat) : CanCh :=
  { ch, state, recovering := false, standby := false, tec := 0, rec' := 0, busOffs := 0, pexc := 0, wake := false, cmdBad := 0
    fwDrop := 0, fifoDrop := 0, rateDrop := 0, strangers := 0, table := [], fifo := [], rx := []
    bufs := List.replicate 32 { count := 0, stamp := 0, filter := 0, frame := { id := 0, dlc := 0, data := [] } }
    buckets := [], outcomes := [], claim := none, reqs := [], mbLo := 0, mbHi := 0 }

/-- FRAME and CONT records of a frame (Table 12-5). -/
def frameRecs (stamp b14 : Nat) (stranger : Bool) (f : CanFrame) : List Bytes :=
  let n := f.data.length
  let conts := (n - 1) / 16
  let head := fun ty => leBytes 8 stamp ++ leBytes 4 f.id ++ leBytes 1 f.dlc ++ leBytes 1 n ++ leBytes 1 b14
    ++ leBytes 1 (ty * 16 + conts * 4 + b2n stranger)
  (List.range (conts + 1)).map fun i => padTo 32 (head (if i = 0 then 0 else 1) ++ slice f.data (16 * i) 16)

/-- TX_REPORT (Table 12-8). -/
def txReport (sof outcome onCh : Nat) (x : TxFrame) : Bytes :=
  leBytes 8 sof ++ leBytes 4 x.frame.id ++ leBytes 1 outcome ++ leBytes 1 onCh ++ leBytes 1 x.attrs ++ leBytes 1 0x20
    ++ leBytes 4 (if x.fw then 0 else x.tag) ++ leBytes 8 x.enq ++ zeros 4

/-- A filter takes a frame (Table 12-2). -/
def filterHit (r : Bytes) (f : CanFrame) : Bool :=
  let fl := flFlags r
  (bit fl 1 || ideOf f == bit fl 0) && (bits fl 3 2 == 0 || (bits fl 3 2 == 2) == fdOf f) && (remoteOf f == bit fl 4)
    && Nat.land (f.id % 2 ^ 29) (flMask r) == Nat.land (flId r) (flMask r)

/-- The rate limit of a filter at a frame's stamp (R342). None: the frame is dropped. Times in 100 µs / 2^24 s. -/
def spendToken (r : Bytes) (stamp : Nat) (b : Bucket) : Bucket × Bool :=
  let total := (stamp - b.last) * 10000 + b.rem
  let per := flPeriod r * 16777216
  let tok := min (flBurst r) (b.tok + total / per)
  if tok = 0 then ({ b with tok := 0, rem := total % per, last := stamp }, false)
  else ({ b with tok := tok - 1, rem := total % per, last := stamp }, true)

/-- One signal's sample (R343): source, status, value. -/
def signalOf (ch : Nat) (r : Bytes) (f : CanFrame) : Nat × Nat × Int :=
  let base := ch * 16 + 64 * b2n (fdOf f)
  let n := sgLen r
  if f.data.length < sgStart r + n then (sgSrc r, base + 9, 0)
  else
    let field := slice f.data (sgStart r) n
    let raw := if sgBig r then beNat field else leNat field
    if sgNa r && raw == 256 ^ n - 1 then (sgSrc r, base + 8, 0)
    else
      let v : Int := if sgSigned r then toS (8 * n) raw else (raw : Int)
      (sgSrc r, base, satS 32 (rnd (v * sgScale r) 16 + sgOffset r))

/-- What a CAN step does outside its channel: samples, records of a channel's receive ring, events, stored buffers. -/
structure CanEff where
  samples : List (Nat × Nat × Int)
  recs : List (Nat × List Bytes)
  evs : List (Nat × Bytes)
  stores : List Nat
deriving DecidableEq, Repr

def noEff : CanEff := { samples := [], recs := [], evs := [], stores := [] }
def CanEff.add (a b : CanEff) : CanEff :=
  { samples := a.samples ++ b.samples, recs := a.recs ++ b.recs, evs := a.evs ++ b.evs, stores := a.stores ++ b.stores }

/-- A frame enters the receive FIFO (R344). -/
def toRxFifo (recs : List Bytes) (c : CanCh) : CanCh :=
  if 64 ≤ c.rx.length then { c with fifoDrop := sat 255 (c.fifoDrop + 1) } else { c with rx := c.rx ++ [recs] }

/-- A frame that no filter takes (R353). -/
def strangerFrame (r : Bytes) (stamp : Nat) (f : CanFrame) (c : CanCh) : CanCh × CanEff :=
  let c := { c with strangers := sat 0xFFFFFFFF (c.strangers + 1) }
  let known := c.table.any fun s => s.id == f.id
  let table :=
    if known then c.table.map fun s => if s.id = f.id then { s with count := sat 0xFFFFFFFF (s.count + 1), latest := stamp } else s
    else
      let kept := if c.table.length < 16 then c.table
        else match (sortBy (fun a b => decide (a.latest < b.latest)) c.table).head? with | some o => c.table.erase o | none => c.table
      kept ++ [{ id := f.id, count := 1, latest := stamp }]
  let c := { c with table := table }
  let c := if cnUnknown r then toRxFifo (frameRecs stamp 0xFF true f) c else c
  (c, { noEff with evs := if known then [] else [(0x0A05, leBytes 1 c.ch ++ zeros 3 ++ leBytes 4 f.id)] })

/-- The filters, the rate limit, the signals, the buffer and the FIFO (R341). `fr`: the running plant frame. -/
def filterFrame (d : Datum) (r : Bytes) (fr stamp : Nat) (f : CanFrame) (c : CanCh) : CanCh × CanEff :=
  match (d.canFilters r).find? fun x => filterHit x f with
  | none => strangerFrame r stamp f c
  | some x =>
    let b0 := (c.buckets.find? fun b => b.idx == flIdx x).getD { idx := flIdx x, tok := flBurst x, rem := 0, last := stamp, raised := none }
    let spent := if flPeriod x = 0 then (b0, true) else spendToken x stamp b0
    let setB := fun (b : Bucket) (c : CanCh) => if flPeriod x = 0 then c else { c with buckets := (c.buckets.filter fun y => y.idx != b.idx) ++ [b] }
    if spent.2 = false then
      (setB { spent.1 with raised := some fr } { c with rateDrop := sat 255 (c.rateDrop + 1) },
       { noEff with evs := if spent.1.raised = some fr then [] else [(0x0A04, leBytes 1 c.ch ++ leBytes 1 (flIdx x))] })
    else
      let c := setB spent.1 c
      let samples := ((d.canSignals r).filter fun s => sgFilter s == flIdx x).map fun s => signalOf c.ch s f
      let c := if flBuf x then
        { c with bufs := modifyAt (fun m => { count := (m.count + 1) % 65536, stamp, filter := flIdx x, frame := f }) (flBuffer x) c.bufs } else c
      let c := if flFifo x then toRxFifo (frameRecs stamp (flIdx x) false f) c else c
      (c, { noEff with samples := samples, stores := if flBuf x then [flBuffer x] else [] })

/-! The transmit FIFO. -/

/-- The FIFO's head takes part in arbitration (R346). -/
def sending (c : CanCh) : Bool := decide (c.state < 2) && !c.standby

/-- A firmware frame enters at the tail (R350). -/
def pushFw (x : TxFrame) (c : CanCh) : CanCh :=
  if 32 ≤ c.fifo.length then { c with fwDrop := sat 255 (c.fwDrop + 1) } else { c with fifo := c.fifo ++ [x] }

/-- A decision frame replaces its output's previous frame in place unless that one is in arbitration at the head (R350). -/
def pushDecision (x : TxFrame) (c : CanCh) : CanCh :=
  let from' := if sending c then 1 else 0
  match (List.range c.fifo.length).find? fun i => decide (from' ≤ i) && ((c.fifo[i]?).any fun y => y.fw && y.out == x.out && y.origin == x.origin) with
  | some i => { c with fifo := setAt i x c.fifo }
  | none => pushFw x c

/-- A firmware frame of a channel; FAILOVER by FAILOVER_FW (Table 12-7). -/
def fwFrame (r : Bytes) (now : Nat) (f : CanFrame) (out : Option Nat) (ch : Nat) : TxFrame :=
  { frame := f, attrs := b2n (cnFailFw r), tag := 0, enq := now, origin := ch, fw := true, out, cancel := none }

/-- Host frames in the FIFO. -/
def hostFrames (c : CanCh) : Nat := (c.fifo.filter fun x => !x.fw).length

/-- The frame that a transmit ring entry spells (Tables 12-5, 12-7). -/
def ringFrame (recs : List Bytes) : CanFrame × Nat × Nat :=
  let h := recs.headD []
  ({ id := u32 h 8 % 2 ^ 31, dlc := u8 h 12 % 128, data := ((recs.map fun r => slice r 16 16).flatten).take (u8 h 13) }, u8 h 14 % 16, u32 h 0)

/-- Records that an outcome leaves (R347), and the outcome under the host's tag. -/
def outcomeRecs (sof o onCh : Nat) (x : TxFrame) : List (Nat × List Bytes) :=
  if o = 0 ∧ bit x.attrs 2 = false then [] else [(x.origin, [txReport sof o onCh x])]
/-- A host frame by its channel and tag. -/
def noteKey (origin tag : Nat) : Nat := origin * 2 ^ 32 + tag
def noteOutcome (o : Nat) (x : TxFrame) (c : CanCh) : CanCh :=
  if x.fw then c
  else { c with outcomes := (noteKey x.origin x.tag, o) :: c.outcomes.filter fun p => p.1 != noteKey x.origin x.tag }

/-- The head is complete (R346, R355): its claimed address filled in; TEC falls by 1. -/
def txHead (c : CanCh) : Option TxFrame :=
  match c.fifo with
  | [] => none
  | x :: _ =>
    if !sending c then none
    else if bit x.attrs 3 then
      match c.claim with
      | some k => if k.holding then some { x with frame := { x.frame with id := x.frame.id / 256 * 256 + k.addr } } else none
      | none => none
    else some x

/-- Error-active or error-passive by the counters (R349, ISO 11898-1). -/
def errState (c : CanCh) : CanCh × CanEff :=
  if 2 ≤ c.state then (c, noEff)
  else
    let st := if 128 ≤ c.tec ∨ 128 ≤ c.rec' then 1 else 0
    ({ c with state := st }, { noEff with evs := if st = 1 ∧ c.state = 0 then [(0x0A01, leBytes 1 c.ch)] else [] })

/-- CAN_BUS_OFF entry (R349, R351). -/
def busOff (r : Bytes) (c : CanCh) : CanCh × CanEff :=
  ({ c with state := 2, busOffs := sat 65535 (c.busOffs + 1), recovering := cnAuto r }, { noEff with evs := [(0x0A02, leBytes 1 c.ch)] })

/-- FAILOVER frames move to the partner's tail in FIFO order; the move stops at the first that finds no room (R352).
`stays`: a cancel keeps it. Answers the frames kept and the frames moved. -/
def moveFrames (stays : TxFrame → Bool) : Nat → List TxFrame → List TxFrame × List TxFrame
  | _, [] => ([], [])
  | room, x :: rest =>
    if bit x.attrs 0 && !stays x then
      if room = 0 then (x :: rest, [])
      else let q := moveFrames stays (room - 1) rest; (q.1, x :: q.2)
    else let q := moveFrames stays room rest; (x :: q.1, q.2)

/-! Address claiming (R354, SAE J1939-81). -/

/-- The Address Claimed or Cannot Claim frame: PGN 0xEE00 to all, priority 6. -/
def claimFrame (name addr : Nat) : CanFrame := { id := 0x38EEFF00 + addr, dlc := 8, data := leBytes 8 name }

/-- SA_FILL frames leave with NO_ADDRESS (R355). -/
def dropNoAddress (c : CanCh) : CanCh × CanEff :=
  let gone := c.fifo.filter fun x => bit x.attrs 3
  (gone.foldl (fun a x => noteOutcome 5 x a) { c with fifo := c.fifo.filter fun x => !bit x.attrs 3 },
   { noEff with recs := (gone.map fun x => outcomeRecs 0 5 c.ch x).flatten })

/-- The address is lost to a lower NAME: the next free one of the range, or Cannot Claim. -/
def loseAddress (r : Bytes) (now : Nat) (k : Claim) (c : CanCh) : CanCh × CanEff :=
  let others := k.addr :: k.others
  let lost := if k.holding then [(0x0A06, leBytes 1 c.ch ++ leBytes 1 k.addr)] else []
  let next := if k.lo = 0xFF then none else ((List.range (k.hi + 1 - k.lo)).map (· + k.lo)).find? fun a => !others.contains a
  match next with
  | some a =>
    (pushFw (fwFrame r now (claimFrame k.name a) none c.ch) { c with claim := some { k with addr := a, since := now, holding := false, others := others } },
     { noEff with evs := lost })
  | none =>
    let q := dropNoAddress (pushFw (fwFrame r now (claimFrame k.name 254) none c.ch) { c with claim := none })
    (q.1, { q.2 with evs := lost ++ q.2.evs })

/-- A frame of the claim protocol (R354). -/
def claimProtocol (r : Bytes) (now : Nat) (f : CanFrame) (c : CanCh) : CanCh × CanEff :=
  match c.claim with
  | none => (c, noEff)
  | some k =>
    let pf := bits f.id 23 16
    let ps := bits f.id 15 8
    let sa := f.id % 256
    if !ideOf f || bits f.id 25 24 != 0 then (c, noEff)
    else if pf = 0xEE ∧ ps = 0xFF then
      if sa ≠ k.addr then ({ c with claim := some { k with others := sa :: k.others.filter fun a => a != sa } }, noEff)
      else if leNat (f.data.take 8) < k.name then loseAddress r now k c
      else (pushFw (fwFrame r now (claimFrame k.name k.addr) none c.ch) c, noEff)
    else if pf = 0xEA ∧ (ps = 0xFF ∨ ps = k.addr) ∧ f.data.take 3 = [0x00, 0xEE, 0x00] ∧ k.holding then
      (pushFw (fwFrame r now (claimFrame k.name k.addr) none c.ch) c, noEff)
    else (c, noEff)

/-- REC after a frame has been received (R349, ISO 11898-1): down by 1; from above 127 to a value from 119 to 127 that the
standard leaves open (`v`). -/
def recDown (v c : Nat) : Nat := if c = 0 then 0 else if c ≤ 127 then c - 1 else 119 + v % 9

/-- A complete received frame that is no cable-node frame (R341, R354, R356). -/
def canReceive (d : Datum) (r : Bytes) (now fr stamp v : Nat) (f : CanFrame) (c0 : CanCh) : CanCh × CanEff :=
  let p := errState { c0 with rec' := recDown v c0.rec' }
  let c := p.1
  match d.canCmd c.ch with
  | some cc =>
    if !ideOf f && f.id % 2048 == ccReq cc then
      if fdOf f && f.data.length == 64 then ({ c with reqs := c.reqs ++ [f.data] }, p.2)
      else ({ c with cmdBad := sat 255 (c.cmdBad + 1) }, p.2)
    else
      let q := claimProtocol r now f c
      let s := filterFrame d r fr stamp f q.1
      (s.1, (p.2.add q.2).add s.2)
  | none =>
    let q := claimProtocol r now f c
    let s := filterFrame d r fr stamp f q.1
    (s.1, (p.2.add q.2).add s.2)

/-- Bits of a frame before its deciding bit: SOF and identifier, in the extended format SRR and IDE between its two parts (R348). -/
def arbBits (f : CanFrame) : List Bool :=
  let down (hi lo : Nat) : List Bool := (List.range (hi + 1 - lo)).map fun k => bit f.id (hi - k)
  false :: if ideOf f then down 28 18 ++ [true, true] ++ down 17 0 else down 10 0
/-- Stuff bits among them, after `n` equal bits `last`: one after each five equal bits (ISO 11898-1). -/
def stuffBits (last : Bool) (n : Nat) : List Bool → Nat
  | [] => if n = 5 then 1 else 0
  | b :: rest => if n = 5 then 1 + stuffBits b (if b = last then 1 else 2) rest else stuffBits b (if b = last then n + 1 else 1) rest
/-- A cancel at `a` comes in the cycle of the deciding instant or later: the sample point of RTR, RRS or their like, counted in bit
times from the SOF sample point (R339, R348). -/
def cancelLate (r : Bytes) (sof a : Nat) (f : CanFrame) : Bool :=
  let n := (arbBits f).length + stuffBits false 1 ((arbBits f).drop 1)
  decide (sof * 80000000 + n * (cnNbrp r * (1 + cnNseg1 r + cnNseg2 r)) * 16777216 ≤ a * 80000000)
/-- A cancel came before the deciding instant of the attempt: the frame has left it (R348). -/
def withdrawn (r : Bytes) (sof : Nat) (x : TxFrame) : Bool := x.cancel.any fun a => !cancelLate r sof a x.frame

/-- The head frame fails in the attempt of a SOF sample point (R346, R348, R349). -/
def txError (r : Bytes) (sof : Nat) (lost : Bool) (c : CanCh) : CanCh × CanEff :=
  match txHead c, c.fifo with
  | some x, _ :: rest =>
    let p := errState (if lost || withdrawn r sof x then c else { c with tec := c.tec + 8 })
    let c := p.1
    let o := if x.cancel.isSome then some (if lost || withdrawn r sof x then 1 else 2) else if bit x.attrs 1 then some 4 else none
    match o with
    | some o => (noteOutcome o x { c with fifo := rest }, p.2.add { noEff with recs := outcomeRecs 0 o c.ch x })
    | none => (c, p.2)
  | _, _ => (c, noEff)

/-- The head frame is sent (R346, R347), unless a cancel came before the deciding instant (R348). -/
def txComplete (r : Bytes) (sof : Nat) (c : CanCh) : CanCh × CanEff :=
  match txHead c, c.fifo with
  | some x, _ :: rest =>
    if withdrawn r sof x then (noteOutcome 1 x { c with fifo := rest }, { noEff with recs := outcomeRecs 0 1 c.ch x }) else
    let p := errState { c with tec := c.tec - 1, fifo := rest }
    (noteOutcome 0 x p.1, p.2.add { noEff with recs := outcomeRecs sof 0 c.ch x })
  | _, _ => (c, noEff)

/-- CANn slot bytes 4 to 95 (Table 12-6). -/
def slotBody (m : MsgBuf) : Bytes :=
  padTo 92 (zeros 4 ++ leBytes 8 m.stamp ++ leBytes 4 m.frame.id ++ leBytes 1 m.frame.dlc ++ leBytes 1 m.frame.data.length
    ++ leBytes 1 m.filter ++ zeros 1 ++ m.frame.data)

/-- The three posted writes of a store (R345): `old` is the count before it. -/
def slotWrites (base b old : Nat) (m : MsgBuf) : List (Nat × Bytes) :=
  let a := base + 96 * b
  [(a, leBytes 4 (old * 65536)), (a + 4, slotBody m), (a, leBytes 4 (m.count * 65536 + 1))]

def mbBase (c : CanCh) : Nat := c.mbHi * 2 ^ 32 + c.mbLo

end Sys2Proof.Machine
end

