-- ==== Sys2Proof/Machine/Crypto.lean ====
section
/-!
DEFINITION. The check algorithms the spec cites: CRC-16 (01 R14), CRC-32 (03 Table 3-9), SHA-256 (02 R69, R70),
AES-128, CMAC-AES-128 (15 R414), AES Key Wrap (15 R422), ECDSA over P-256 with SHA-256 (15 R425). The cited standards
give the algorithms: notes/assumptions/8.md.
-/
namespace Sys2Proof.Machine

/-- One bit of the CRC-16 of R14. -/
def crc16Bits : Nat → Nat → Nat
  | 0, c => c
  | n + 1, c => crc16Bits n (if c / 0x8000 % 2 = 1 then Nat.xor (c * 2 % 0x10000) 0x1021 else c * 2 % 0x10000)

/-- CRC-16: polynomial 0x1021, initial value 0xFFFF, most significant bit first, no reflection, no final XOR (01 R14). -/
def crc16 (b : Bytes) : Nat := b.foldl (fun c x => crc16Bits 8 (Nat.xor c (x.toNat * 256))) 0xFFFF

def crc32Bits : Nat → Nat → Nat
  | 0, c => c
  | n + 1, c => crc32Bits n (if c % 2 = 1 then Nat.xor (c / 2) 0xEDB88320 else c / 2)

/-- CRC-32: IEEE 802.3 polynomial, reflected, initial and final value 0xFFFF_FFFF (03 Table 3-9). -/
def crc32 (b : Bytes) : Nat :=
  Nat.xor (b.foldl (fun c x => crc32Bits 8 (Nat.xor c x.toNat)) 0xFFFFFFFF) 0xFFFFFFFF

/-! SHA-256 (FIPS 180-4). -/

/-- The `n` words of 32 bits that a number spells, the most significant first. -/
def words32 : Nat → Nat → List Nat
  | 0, _ => []
  | n + 1, v => v / 2 ^ (32 * n) % 2 ^ 32 :: words32 n v

/-- The round constants, eight words a row. -/
def roundConsts : List Nat :=
  (words32 8 0x428a2f9871374491b5c0fbcfe9b5dba53956c25b59f111f1923f82a4ab1c5ed5) ++
  (words32 8 0xd807aa9812835b01243185be550c7dc372be5d7480deb1fe9bdc06a7c19bf174) ++
  (words32 8 0xe49b69c1efbe47860fc19dc6240ca1cc2de92c6f4a7484aa5cb0a9dc76f988da) ++
  (words32 8 0x983e5152a831c66db00327c8bf597fc7c6e00bf3d5a7914706ca635114292967) ++
  (words32 8 0x27b70a852e1b21384d2c6dfc53380d13650a7354766a0abb81c2c92e92722c85) ++
  (words32 8 0xa2bfe8a1a81a664bc24b8b70c76c51a3d192e819d6990624f40e3585106aa070) ++
  (words32 8 0x19a4c1161e376c082748774c34b0bcb5391c0cb34ed8aa4a5b9cca4f682e6ff3) ++
  (words32 8 0x748f82ee78a5636f84c878148cc7020890befffaa4506cebbef9a3f7c67178f2)

/-- The chaining value before the first block. -/
def chainStart : List Nat := words32 8 0x6a09e667bb67ae853c6ef372a54ff53a510e527f9b05688c1f83d9ab5be0cd19

/-- A word turned right. -/
def turn (n x : Nat) : Nat := x / 2 ^ n + x % 2 ^ n * 2 ^ (32 - n)

/-- Three views of a word, added without carry: two turns, and a third turn or a shift. -/
def spread (x i j last : Nat) : Nat := Nat.xor (Nat.xor (turn i x) (turn j x)) last

/-- One round on the eight working words and the sixteen next schedule words: the first of these is used up, and one is made from
the sixteen. -/
def hashRound (st : List Nat × List Nat) (k : Nat) : List Nat × List Nat :=
  match st with
  | ([a, b, c, d, e, f, g, h], x :: win) =>
    let near := win.getD 0 0
    let far := win.getD 13 0
    let made := x + spread near 7 18 (near / 8) + win.getD 8 0 + spread far 17 19 (far / 1024)
    let pick := Nat.lor (Nat.land e f) (Nat.land (2 ^ 32 - 1 - e) g)
    let most := Nat.lor (Nat.land a b) (Nat.land c (Nat.lor a b))
    let t := h + spread e 6 11 (turn 25 e) + pick + k + x
    ([(t + spread a 2 13 (turn 22 a) + most) % 2 ^ 32, a, b, c, (d + t) % 2 ^ 32, e, f, g], win ++ [made % 2 ^ 32])
  | other => other

/-- The chaining value after a block of 64 bytes. -/
def hashBlock (chain : List Nat) (b : Bytes) : List Nat :=
  let out := (roundConsts.foldl hashRound (chain, words32 16 (beNat b))).1
  (chain.zip out).map fun p => (p.1 + p.2) % 2 ^ 32

/-- SHA-256 of a byte string (32 bytes): one bit 1, zeros up to 8 bytes below a whole block, the length in bits. -/
def sha256 (m : Bytes) : Bytes :=
  let fill := 63 - (m.length + 8) % 64
  let whole := m ++ [0x80] ++ zeros fill ++ beBytes 8 (8 * m.length)
  ((chunks 64 (whole.length / 64) whole).foldl hashBlock chainStart).flatMap (beBytes 4)

/-! AES-128 (FIPS 197). -/

/-- Multiplication by x in GF(2^8). -/
def gfX2 (a : Nat) : Nat := if a < 128 then 2 * a else Nat.xor (2 * a % 256) 0x1b

/-- Product in GF(2^8); the first number counts the bits of b still to take. -/
def gfMul : Nat → Nat → Nat → Nat
  | 0, _, _ => 0
  | n + 1, a, b => Nat.xor (if b % 2 = 1 then a else 0) (gfMul n (gfX2 a) (b / 2))

/-- a^254 in GF(2^8), the inverse (0 for 0). -/
def gfInv (a : Nat) : Nat :=
  let m := gfMul 8
  let a2 := m a a
  let a4 := m a2 a2
  let a8 := m a4 a4
  let a16 := m a8 a8
  let a32 := m a16 a16
  let a64 := m a32 a32
  let a128 := m a64 a64
  m a128 (m a64 (m a32 (m a16 (m a8 (m a4 a2)))))

def rotl8 (n x : Nat) : Nat := (x * 2 ^ n + x / 2 ^ (8 - n)) % 256

def aesSub (a : Nat) : Nat :=
  let i := gfInv a
  Nat.xor (Nat.xor (Nat.xor (Nat.xor (Nat.xor i (rotl8 1 i)) (rotl8 2 i)) (rotl8 3 i)) (rotl8 4 i)) 0x63

/-- Inverse of the S-box: undo the affine map, then invert. -/
def aesInvSub (a : Nat) : Nat := gfInv (Nat.xor (Nat.xor (Nat.xor (rotl8 1 a) (rotl8 3 a)) (rotl8 6 a)) 0x05)

def xorL (a b : List Nat) : List Nat := (a.zip b).map fun p => Nat.xor p.1 p.2

/-- Round keys: `n` further words onto the words so far, newest first. -/
def aesExpand : Nat → Nat → List (List Nat) → List (List Nat)
  | 0, _, ws => ws
  | n + 1, rc, ws =>
    let prev := ws.headD []
    let back := ws.getD 3 []
    if ws.length % 4 = 0 then
      let rot := prev.drop 1 ++ prev.take 1
      aesExpand n (gfX2 rc) (xorL back (xorL (rot.map aesSub) [rc, 0, 0, 0]) :: ws)
    else aesExpand n rc (xorL back prev :: ws)

def groups (n : Nat) : Nat → List Nat → List (List Nat)
  | 0, _ => []
  | k + 1, l => l.take n :: groups n k (l.drop n)

/-- The eleven round keys of 16 numbers. -/
def aesKeys (key : List Nat) : List (List Nat) :=
  groups 16 11 ((aesExpand 40 1 (groups 4 4 key).reverse).reverse.flatten)

def shiftRows (s : List Nat) : List Nat := [0, 5, 10, 15, 4, 9, 14, 3, 8, 13, 2, 7, 12, 1, 6, 11].map fun i => s.getD i 0
def invShiftRows (s : List Nat) : List Nat := [0, 13, 10, 7, 4, 1, 14, 11, 8, 5, 2, 15, 12, 9, 6, 3].map fun i => s.getD i 0

def mixCol (m : List Nat) (c : List Nat) : List Nat :=
  [0, 1, 2, 3].map fun r =>
    ([0, 1, 2, 3].map fun k => gfMul 8 (c.getD k 0) (m.getD ((k + 4 - r) % 4) 0)).foldl Nat.xor 0

def mixColumns (m : List Nat) (s : List Nat) : List Nat := ((groups 4 4 s).map (mixCol m)).flatten

/-- AES-128 encryption of one block. -/
def aesEncL (key blk : List Nat) : List Nat :=
  let ks := aesKeys key
  let s := (ks.drop 1).take 9 |>.foldl (fun st k => xorL (mixColumns [2, 3, 1, 1] (shiftRows (st.map aesSub))) k)
    (xorL blk (ks.getD 0 []))
  xorL (shiftRows (s.map aesSub)) (ks.getD 10 [])

/-- AES-128 decryption of one block. -/
def aesDecL (key blk : List Nat) : List Nat :=
  let ks := aesKeys key
  let s := ((ks.drop 1).take 9).reverse.foldl
    (fun st k => mixColumns [14, 11, 13, 9] (xorL ((invShiftRows st).map aesInvSub) k)) (xorL blk (ks.getD 10 []))
  xorL ((invShiftRows s).map aesInvSub) (ks.getD 0 [])

def toNats (b : Bytes) : List Nat := b.map BitVec.toNat
def ofNats (l : List Nat) : Bytes := l.map (BitVec.ofNat 8)

def aesEnc (key blk : Bytes) : Bytes := ofNats (aesEncL (toNats key) (toNats blk))
def aesDec (key blk : Bytes) : Bytes := ofNats (aesDecL (toNats key) (toNats blk))

def xorB (a b : Bytes) : Bytes := (a.zip b).map fun p => p.1 ^^^ p.2

/-- Doubling in GF(2^128) of a CMAC subkey (SP 800-38B). -/
def cmacDbl (l : Bytes) : Bytes :=
  let n := beNat l
  beBytes 16 (if n < 2 ^ 127 then 2 * n else Nat.xor (2 * n % 2 ^ 128) 0x87)

/-- CMAC-AES-128 of a message: 16 octets (SP 800-38B). -/
def cmac (key m : Bytes) : Bytes :=
  let k1 := cmacDbl (aesEnc key (zeros 16))
  let k2 := cmacDbl k1
  let n := if m.length = 0 then 1 else (m.length + 15) / 16
  let head := m.take (16 * (n - 1))
  let tail := m.drop (16 * (n - 1))
  let last := if tail.length = 16 then xorB tail k1 else xorB (padTo 16 (tail ++ [0x80])) k2
  aesEnc key (xorB ((chunks 16 (n - 1) head).foldl (fun x b => aesEnc key (xorB x b)) (zeros 16)) last)

/-- The default initial value of AES Key Wrap (SP 800-38F). -/
def kwIv : Bytes := List.replicate 8 (0xA6 : Byte)

/-- One unwrap step t of a key of two 64-bit halves. -/
def kwStep (key : Bytes) (st : Bytes × Bytes × Bytes) (t : Nat) : Bytes × Bytes × Bytes :=
  let (a, r1, r2) := st
  let r := if t % 2 = 0 then r2 else r1
  let b := aesDec key (xorB a (beBytes 8 t) ++ r)
  if t % 2 = 0 then (b.take 8, r1, b.drop 8) else (b.take 8, b.drop 8, r2)

/-- AES Key Unwrap of 24 bytes: the 16-byte key, or none when the integrity check fails (15 R422). -/
def kwUnwrap (key w : Bytes) : Option Bytes :=
  let (a, r1, r2) := [12, 11, 10, 9, 8, 7, 6, 5, 4, 3, 2, 1].foldl (kwStep key) (w.take 8, slice w 8 8, slice w 16 8)
  if a = kwIv then some (r1 ++ r2) else none

/-! ECDSA over P-256 (FIPS 186-5). -/

def p256P : Nat := 0xFFFFFFFF00000001000000000000000000000000FFFFFFFFFFFFFFFFFFFFFFFF
def p256N : Nat := 0xFFFFFFFF00000000FFFFFFFFFFFFFFFFBCE6FAADA7179E84F3B9CAC2FC632551
def p256B : Nat := 0x5AC635D8AA3A93E7B3EBBD55769886BC651D06B0CC53B0F63BCE3C3E27D2604B
def p256Gx : Nat := 0x6B17D1F2E12C4247F8BCE6E563A440F277037D812DEB33A0F4A13945D898C296
def p256Gy : Nat := 0x4FE342E2FE1A7F9B8EE7EB4A7C0F9E162BCE33576B315ECECBB6406837BF51F5

/-- b^e modulo m; the first number bounds the bits of e. -/
def powMod (m : Nat) : Nat → Nat → Nat → Nat
  | 0, _, _ => 1 % m
  | k + 1, b, e => (if e % 2 = 1 then b else 1) * powMod m k (b * b % m) (e / 2) % m

def invMod (m a : Nat) : Nat := powMod m 256 (a % m) (m - 2)

/-- A point: none is the point at infinity. -/
abbrev EcPt := Option (Nat × Nat)

def ecAdd (p q : EcPt) : EcPt :=
  match p, q with
  | none, q => q
  | p, none => p
  | some (x1, y1), some (x2, y2) =>
    if x1 = x2 ∧ (y1 + y2) % p256P = 0 then none
    else
      let l := if x1 = x2 then (3 * x1 * x1 + p256P - 3) * invMod p256P (2 * y1) % p256P
               else (y2 + p256P - y1) * invMod p256P (x2 + p256P - x1) % p256P
      let x3 := (l * l + 2 * p256P - x1 - x2) % p256P
      some (x3, (l * (x1 + p256P - x3) + p256P - y1) % p256P)

def ecMul : Nat → Nat → EcPt → EcPt
  | 0, _, _ => none
  | k + 1, e, p => ecAdd (if e % 2 = 1 then p else none) (ecMul k (e / 2) (ecAdd p p))

/-- A 64-byte public key is a point of P-256 (15 R426). -/
def onP256 (k : Bytes) : Bool :=
  let x := beNat (slice k 0 32)
  let y := beNat (slice k 32 32)
  k.length == 64 && decide (x < p256P) && decide (y < p256P) && y * y % p256P == (x * x * x + (p256P - 3) * x + p256B) % p256P

/-- ECDSA verification: key x‖y, 32-byte digest, signature r‖s (15 R425). -/
def ecdsaOk (k digest sig : Bytes) : Bool :=
  let r := beNat (slice sig 0 32)
  let s := beNat (slice sig 32 32)
  if sig.length ≠ 64 ∨ r = 0 ∨ p256N ≤ r ∨ s = 0 ∨ p256N ≤ s ∨ onP256 k = false then false
  else
    let w := invMod p256N s
    let u1 := beNat digest * w % p256N
    let u2 := r * w % p256N
    match ecAdd (ecMul 256 u1 (some (p256Gx, p256Gy))) (ecMul 256 u2 (some (beNat (slice k 0 32), beNat (slice k 32 32)))) with
    | none => false
    | some (x, _) => x % p256N == r % p256N

end Sys2Proof.Machine
end

