-- ==== Sys2Proof/Machine/TypesSense.lean ====
section
/-!
DEFINITION. State of the isolation links' records and of the SENSE die, as plain data (01 R13, R16; 07; 08).
-/
namespace Sys2Proof.Machine

/-- What a record of a far die says (01 R13, 07 R237, 08 R266, 09-11). -/
inductive RecBody where
  /-- a SENSE result: entry, status bits 12:0, value (07 R235, R236) -/
  | result (entry status : Nat) (value : Int)
  /-- a Contour crossing (07 R244) -/
  | crossing (csw : Nat) (active : Bool)
  /-- an impedance check outcome (08 R264): pin, outcome, rl, ri, what queued it (ChkReq), the pin's outcome before it, a baseline
  it set -/
  | check (pin outcome rl ri origin prev : Nat) (base : Option Nat)
  /-- a sample of the POWER or IO die: source, status code, value -/
  | sample (src status : Nat) (value : Int)
  /-- a report that LOGIC turns into an event record: code and parameter bytes -/
  | report (code : Nat) (params : Bytes)
deriving DecidableEq, Repr

/-- A record in a far die's output queue (01 R16, R541). -/
structure QRec where
  num : Nat
  /-- short stamp, Meridian bits 43:20 (02 R48) -/
  short : Nat
  body : RecBody
  /-- the instant at which the die took the stamp (02 R50) -/
  took : Nat
  /-- instant at which it was last sent -/
  sent : Option Nat
deriving DecidableEq, Repr

/-- A result that has been released: code, value, end of its conversion, instant of release. -/
structure Released where
  code : Nat
  value : Int
  endAt : Nat
  relAt : Nat
deriving DecidableEq, Repr

/-- One frequency of a tone conversion (08 R251). -/
structure ToneRow where
  k : Nat
  g : Int
  b : Int
  overrange : Bool
deriving DecidableEq, Repr

/-- A sequence entry's run state (07 R225, R231; 08 R257, R268). -/
structure EntSt where
  entry : Nat
  gain : Nat
  /-- gain code of its previous result -/
  prev : Option Nat
  latest : Option Released
  before : Option Released
  rows : List ToneRow
  tia : Nat
deriving DecidableEq, Repr

/-- A running pass of a list (07 R227). -/
structure Pass where
  seq : Nat
  passAt : Nat
  /-- position of the running entry in the sequence -/
  pos : Nat
  /-- the entry waits for reserved pins or for a check (07 R242) -/
  waiting : Bool
  delayed : Bool
  entAt : Nat
  /-- start of modulation, or of the running tone conversion -/
  modAt : Option Nat
  /-- start of the running conversion -/
  convAt : Nat
  /-- conversions ended -/
  k : Nat
  /-- SETTLING results still to come (07 R232) -/
  settling : Nat
  /-- pins whose comparator run marked the running conversion (07 R240) -/
  openPins : List Nat
deriving DecidableEq, Repr

/-- A result between the end of its conversion and its release (07 R234). -/
structure PendRes where
  list : Nat
  seq : Nat
  pos : Nat
  entry : Nat
  endAt : Nat
  gain : Nat
  delayed : Bool
  autoranged : Bool
  code : Nat
  /-- raw code, or the MODE 1 / 2 value, or s of MODE 0 -/
  raw : Int
  /-- r of R254 -/
  r : Int
  /-- what a tone conversion measured -/
  rows : List ToneRow
  /-- MODE 0 found the cell empty or not full (R254) -/
  empty : Bool
  /-- gain in force and SETTLING results to come before this result's decision (07 R241) -/
  gain0 : Nat
deriving DecidableEq, Repr

/-- A queued impedance check (08 R262); origin: 0 OPEN result, 1 re-check, 2 CHECK_RUN, 3 round. -/
structure ChkReq where
  pin : Nat
  partner : Nat
  origin : Nat
  /-- index of its check record; none for the defaults of R262 -/
  rec' : Option Nat
deriving DecidableEq, Repr

/-- What the checks of a pin found (08 R264-R266). -/
structure PinSt where
  pin : Nat
  outcome : Nat
  faulted : Bool
  rl : Nat
  ri : Nat
  /-- next re-check of a faulted pin -/
  recheck : Option Nat
deriving DecidableEq, Repr

/-- A Contour switch at the die (07 R243-R245). -/
structure CswSt where
  csw : Nat
  active : Bool
  latched : Bool
  count : Nat
  /-- the latest result qualifies to deactivate -/
  deact : Bool
deriving DecidableEq, Repr

/-- A sequence's run state (07 R228). -/
structure SeqSt where
  idx : Nat
  due : Bool
  lastStart : Option Nat
  /-- local stamp at which a PERIODIC start last fell due -/
  lastDue : Option Nat
deriving DecidableEq, Repr

/-- MOIST_EMPTY under way (08 R268): started, conversions, sums by frequency. -/
structure EmptyRun where
  entry : Nat
  seq : Nat
  active : Bool
  n : Nat
  g : List Int
  b : List Int
  done : Bool
deriving DecidableEq, Repr

/-- The settings of the entry that a list has applied last (07 R218-R222): the crosspoint's inputs, the converter's reference, buffer
and gain limit, the 20 nA currents. -/
structure ListSet where
  entry : Nat
  pinP : Nat
  pinN : Nat
  ref : Nat
  buffer : Bool
  ow : Bool
deriving DecidableEq, Repr

/-- An excitation source that runs (07 R217, R218): EXAk is 2k and EXBk is 2k + 1; its pin, its level code, the list whose entry
gives it, and the instant since which it runs without interruption. -/
structure ExcSrc where
  idx : Nat
  pin : Nat
  code : Nat
  list : Nat
  since : Nat
deriving DecidableEq, Repr

/-- The SENSE die (07, 08). -/
structure SenseSt where
  powered : Bool
  cfgValid : Bool
  /-- the die's copy of the front-end section -/
  cfg : Datum
  /-- linearisation copies by entry (08 R258) -/
  lin : List (Nat × Bytes)
  ents : List EntSt
  seqs : List SeqSt
  lists : List (Option Pass)
  /-- applied settings by list -/
  afe : List (Option ListSet)
  excs : List ExcSrc
  /-- the pin that each guard ball GD0-GD7 follows; none for AGNDS (07 R219) -/
  gds : List (Option Nat)
  pend : List PendRes
  csws : List CswSt
  pins : List PinSt
  /-- CONTACT baselines by pin (08 R265) -/
  base : List (Nat × Nat)
  chkQ : List ChkReq
  /-- the running check and its start -/
  chk : Option (ChkReq × Nat)
  /-- a check that has asked for its pins while a conversion uses them, and when (07 R242) -/
  ask : Option (ChkReq × Nat)
  /-- one queued check runs before the next tone entry (08 R262) -/
  turn : Bool
  lastRound : Nat
  empties : List EmptyRun
  /-- pass starts of ON_REQUEST sequences that LOGIC has not answered yet -/
  started : List (Nat × Nat)
  skipped : Nat
  opens : Nat
  checks : Nat
deriving DecidableEq, Repr

/-- What LOGIC keeps of the SENSE die (07 R237, R246, R248; 08 R266, R268). -/
structure SenLog where
  /-- latest result by entry: stamp, status, value -/
  latest : List (Nat × Nat × Nat × Int)
  /-- gain code of the last result by entry (07 R225) -/
  gains : List (Nat × Nat)
  /-- Contour states and latches as last received -/
  active : Nat
  latched : Nat
  skipped : Nat
  opens : Nat
  discard : Nat
  checks : Nat
  pins : List PinSt
  /-- linearisation copies that the next ILS frames carry (08 R258) -/
  linOut : List (Nat × Bytes)
  /-- SEQ_REQUESTs, CSW_CLEARs that the next ILS frame carries -/
  requests : List Nat
  clears : List Nat
  /-- the instant from which the Datum governs: gains of earlier results are not kept (07 R225) -/
  govAt : Nat
deriving DecidableEq, Repr

end Sys2Proof.Machine
end

