-- ==== Sys2Proof/Machine/TypesField.lean ====
section
/-!
DEFINITION. State of the POWER and IO dies, and what LOGIC's frames carry to them, as plain data (09, 10, 11).
-/
namespace Sys2Proof.Machine

/-- An Exchange slot as LOGIC copies it to a die: slot, value, stamp, valid mark (01 R544). -/
structure SlotCopy where
  slot : Nat
  value : Int
  stamp : Nat
  valid : Bool
deriving DecidableEq, Repr

/-- Set-points of a fan channel (10 R297, R298). -/
structure FanCmd where
  ch : Nat
  dec : Nat
  host : Nat
  force : Option Nat
  /-- FAN_LOOP_SET's set-point in force -/
  tset : Option Int
  /-- the host-silent table is in force (R299) -/
  table : Bool
deriving DecidableEq, Repr

/-- Set-points of a universal output (11 Table 11-5). -/
structure UioCmd where
  ch : Nat
  dec : Nat
  host : Bool
  force : Option Bool
  /-- PWM period of its role, ms (11 R325) -/
  period : Nat
deriving DecidableEq, Repr

/-- What LOGIC's frames carry in their state part besides the link fields (01 R13). -/
structure FieldCmd where
  safe : Bool
  release : Nat
  valves : Nat
  fans : List FanCmd
  uios : List UioCmd
  slots : List SlotCopy
  cswActive : Nat
  cswLatched : Nat
  requests : List Nat
  clears : List Nat
  lin : List (Nat × Bytes)
deriving DecidableEq, Repr

/-- Host settings of the field channels: VLV_FORCE by channel, the fan and universal-output commands (09 R294, 10 R297-R300,
11 R326). -/
structure FieldSet where
  valves : List (Nat × Bool)
  fans : List FanCmd
  uios : List UioCmd
deriving DecidableEq, Repr

/-- What LOGIC's frames carry since the latest apply instant, and the host settings as decided so far (10 R298). -/
structure FieldLog where
  cmd : FieldCmd
  sets : FieldSet
deriving DecidableEq, Repr

/-- A valve channel at the POWER die (09 Table 9-3). -/
structure ValveSt where
  ch : Nat
  /-- command level last applied -/
  cmd : Bool
  state : Nat
  fault : Nat
  /-- warnings: bit 0 THERM_WARN, 1 THERM_REDUCE, 2 NO_MOVE, 3 CLAMP_LOW -/
  warns : Nat
  /-- start of RISE, DWELL, HOLD or WAIT -/
  riseAt : Nat
  dwellAt : Nat
  holdAt : Nat
  waitAt : Nat
  order : Nat
  /-- turn-on that waits for the end of DECAY (R273) -/
  pendOn : Bool
  /-- DECAY ends in FAULT (THERM_CUT) -/
  toFault : Bool
  /-- the current its chopping regulates to, mA; 0 while nothing is regulated (Table 9-3, R283) -/
  setp : Nat
  /-- OVERLAP_DENIED reports of the channel (R279) -/
  denials : Nat
  /-- a movement report is due for the last DWELL (R290) -/
  moveDue : Bool
  moved : Nat
  /-- the thermal model has been started at Ta (R281) -/
  warm : Bool
  tw : Rat
  th : Rat
  ta : Rat
  rm : Nat
  stress : Nat
  armed : Bool
deriving DecidableEq, Repr

/-- A bank (09 R288). -/
structure BankSt where
  short : Bool
  stuck : Bool
deriving DecidableEq, Repr

/-- A learned bin of a fan (10 R304). -/
structure FanBin where
  l : Int
  s : Int
  n : Nat
deriving DecidableEq, Repr

/-- A fan channel at the POWER die (10 Table 10-4). -/
structure FanSt where
  ch : Nat
  state : Nat
  r : Nat
  attempts : Nat
  fault : Nat
  /-- warnings: bit 0 TACH_LOST, 1 DROPOUT, 2 TSNS_FAULT, 3 SRC_STALE -/
  warns : Nat
  tHold : Nat
  i : Int
  off : Bool
  /-- the target of the last loop and table evaluation -/
  loopT : Nat
  tableT : Nat
  /-- the loop ran on a fresh value at its last evaluation -/
  looping : Bool
  /-- mean current of the last report or judgement -/
  cur : Nat
  speed : Nat
  /-- last rising edges, newest first: die time in µs -/
  edges : List Nat
  /-- instant of the last rising edge -/
  edgeAt : Option Nat
  /-- rising edges since the start window opened, or since the silence began -/
  cnt : Nat
  winAt : Option Nat
  retryAt : Option Nat
  runAt : Option Nat
  /-- i has been at or above I_OPEN since -/
  openOk : Option Nat
  tsns : Int
  tsnsOk : Option Nat
  rSince : Nat
  slewAt : Nat
  evalAt : Nat
  learnAt : Nat
  lastRep : Option Nat
  bins : List FanBin
  /-- LATCHED recovery: waits for its target to pass through 0 (R311) -/
  wait : Bool
  /-- the output voltage, mV (R295) -/
  out : Nat
  /-- fault code of a LOCKED or FAULT channel that reports SUPPLY_OFF (R311) -/
  under : Nat
deriving DecidableEq, Repr

/-- The POWER die (09, 10). -/
structure PowerSt where
  cfgValid : Bool
  cfg : Datum
  cmd : FieldCmd
  valves : List ValveSt
  banks : List BankSt
  fans : List FanSt
  supplyOff : Bool
  vfld : Nat
  order : Nat
  denied : Nat
  noPeak : Nat
  tickAt : Nat
  throttle : Bool
deriving DecidableEq, Repr

/-- What an input's samples of one plant frame add up to (11 R321, R322): the frame by the die's local copy, rising edges, a change,
a sample under low supply, the filtered state before them and after them. -/
structure UioFrame where
  frame : Nat
  edges : Nat
  changed : Bool
  low : Bool
  before : Bool
  after : Bool
deriving DecidableEq, Repr

/-- A universal channel at the IO die (11). -/
structure UioSt where
  ch : Nat
  /-- inputs: previous raw state, the counter and its filtered state (R318, R319) -/
  raw : Bool
  c : Nat
  fil : Bool
  /-- the wire-break counter and its filtered state WIRE_BREAK (R320) -/
  wb : Nat
  broken : Bool
  /-- the input's filtered state, held at off under WIRE_BREAK -/
  filt : Bool
  /-- frames sampled but not yet reported, oldest first -/
  frames : List UioFrame
  /-- rising edges since reset, last open-state current in 10 µA -/
  total : Nat
  openCur : Nat
  lastRep : Option Nat
  /-- outputs: fault code, warnings (bit 0 OPEN_LOAD, 1 OPEN_LOAD_OFF, 2 WIRE_BREAK, 3 UV_WARN, 4 CROSS_FED) -/
  fault : Nat
  warns : Nat
  partner : Nat
  /-- LATCHED recovery: stays off until its commanded level passes through off (R333) -/
  wait : Bool
  hold : Bool
  /-- switched off by a running test (R329, R330) -/
  testOff : Bool
  cur : Nat
  /-- PWM: the instant from which its periods run, the period in hand and its duty (R325) -/
  perAt : Option Nat
  perIx : Nat
  duty : Nat
deriving DecidableEq, Repr

/-- The IO die (11). -/
structure IoSt where
  cfgValid : Bool
  cfg : Datum
  cmd : FieldCmd
  chans : List UioSt
  vfld : Nat
  uvWarn : Bool
  supplyOff : Bool
  segOff : List Bool
  /-- pending tests: channel, true for an off-state test, false for a cross-feed test -/
  tests : List (Nat × Bool)
  /-- running cross-feed test: suspect, groups still to be pulsed, instant of the last step -/
  cross : Option (Nat × List Nat × Nat)
  dieReset : Bool
  throttle : Bool
deriving DecidableEq, Repr

end Sys2Proof.Machine
end

