-- ==== Sys2Proof/Machine/TypesLink.lean ====
section
/-!
DEFINITION. State of the isolation links, as plain data (01 R12-R25, R541, R542). A frame is held as the fields it carries
(notes/assumptions/12.md).
-/
namespace Sys2Proof.Machine

/-- What core M loads into a die, as the configuration windows of LOGIC's frames bring it (01 R13; 07 R224, R225; 08 R258, R265;
10 R304): the Datum, the gains of the die's last results, the linearisation copies, the CONTACT baselines, the learned bins. -/
structure Window where
  datum : Datum
  gains : List (Nat × Nat)
  lin : List (Nat × Bytes)
  base : List (Nat × Nat)
  bins : List (Nat × List FanBin)
deriving DecidableEq, Repr

/-- A LOGIC-to-far frame (01 Table 1-2, R13, R14, R16, R24, R541). -/
structure OutFrame where
  seq : Nat
  short : Nat
  safe : Bool
  ack : Nat
  session : Nat
  timeout : Nat
  /-- hold lease in frames; 0 for none (R23) -/
  lease : Nat
  /-- orders the SENSE die to power down (R23) -/
  down : Bool
  cmd : FieldCmd
  window : Option Window
  /-- bytes 94-95 (R14) -/
  crc : Nat
deriving DecidableEq, Repr

/-- The state part of a far die's frame (R13): a copy of the die's state. -/
inductive DieView where
  | sense (s : SenseSt)
  | power (p : PowerSt)
  | io (i : IoSt)
deriving DecidableEq, Repr

/-- A far-to-LOGIC frame. -/
structure InFrame where
  seq : Nat
  short : Nat
  session : Nat
  farSafe : Bool
  cause : Nat
  /-- expiries of the silence timer and of the lease timer so far (R18, R23) -/
  expiries : Nat
  leases : Nat
  errs : Nat
  drops : Nat
  view : DieView
  recs : List QRec
  crc : Nat
deriving DecidableEq, Repr

/-- A link at LOGIC: its registers and its receiver (Tables 1-3 to 1-5, 1-16). -/
structure NearLink where
  timeout : Nat
  farCause : Nat
  nearSilence : Bool
  farSilence : Bool
  farSafe : Bool
  up : Bool
  farErr : Nat
  nearErr : Nat
  drop : Nat
  /-- session LOGIC sends; none until the first good frame after a start (R541) -/
  session : Option Nat
  /-- session taken over from the far die's first good frame -/
  lastTaken : Nat
  seqOut : Nat
  seqIn : Option Nat
  /-- running silence timer: start and timeout in 10 µs units (R24) -/
  timer : Option (Nat × Nat)
  /-- channels marked LINK_LOST (R22) -/
  lost : Bool
  /-- the instant at which NEAR_SILENCE was last set (07 R238) -/
  silentAt : Nat
  /-- outbound frames stopped on purpose (R23) -/
  stopped : Bool
  /-- a frame in LOGIC's session has come (notes/assumptions/20.md) -/
  synced : Bool
  /-- expiries of the silence and lease timers reported so far -/
  expiries : Nat
  leases : Nat
  /-- the far die's error count as last reported (R25) -/
  errSeen : Nat
  /-- frames on the wire toward the far die, oldest first -/
  wire : List OutFrame
deriving DecidableEq, Repr

/-- A link at the far die. -/
structure FarLink where
  session : Nat
  /-- number of the next record -/
  recNo : Nat
  queue : List QRec
  errs : Nat
  drops : Nat
  timeout : Nat
  timer : Option (Nat × Nat)
  /-- end of a valid hold lease -/
  lease : Option Nat
  /-- outputs in safe state, and its first cause (20 R509) -/
  safe : Bool
  cause : Nat
  expiries : Nat
  leases : Nat
  /-- release number last applied (20 R511); none since the die's power-up -/
  release : Option Nat
  /-- a POWER or IO die without supply (11 R334) -/
  down : Bool
  /-- local stamp: the short stamp loaded and the instant it was loaded (R17) -/
  short : Nat
  at' : Nat
  seqIn : Option Nat
  seqOut : Nat
  /-- a good frame has come within the timeout -/
  up : Bool
  /-- the configuration windows of the last good frame -/
  window : Option Window
  wire : List InFrame
deriving DecidableEq, Repr

structure Links where
  near : List NearLink
  far : List FarLink
  /-- what LOGIC last received of each die -/
  viewS : SenseSt
  viewP : PowerSt
  viewI : IoSt
deriving DecidableEq, Repr

end Sys2Proof.Machine
end

