-- ==== Sys2Proof/Machine/TypesStore.lean ====
section
/-!
DEFINITION. State of the settings and Legend store, firmware update, Gazetteer, lifetime counters, power and the
safe-state line, as plain data (03 R115, 16, 17, 18, 19, 20).
-/
namespace Sys2Proof.Machine

/-! Settings and Legends. -/

/-- PLAN item body (19 Table 19-4). -/
structure Plan where
  armed : Nat
  causes : Nat
  delay : Nat
  secVer : Nat
  hash : Bytes
deriving DecidableEq, Repr

/-- A settings area (16 R437-R439): the Datum's image and items 1 to 6. -/
structure Area where
  datum : Two Bytes
  /-- AREA: settings format, image slot -/
  area : Two (Nat × Nat)
  learn : Two Learn
  store : Two (List StoreRec)
  fans : Two (List (Nat × List FanBin))
  base : Two (List (Nat × Nat))
  plan : Two Plan
deriving DecidableEq, Repr

/-- One of the 16 Legend areas with a commit word: slot, generation, image (03 R115). -/
structure LegArea where
  slot : Nat
  gen : Nat
  img : Bytes
deriving DecidableEq, Repr

/-- A Legend load or erase that has committed and whose frame E has not come (03 R116, R117). -/
structure LegWait where
  slot : Nat
  eff : Nat
  /-- the image from E on; empty for an erase -/
  img : Bytes
  load : Bool
deriving DecidableEq, Repr

/-- A configuration that has committed and whose frame E has not come: the two kinds take effect in one order (02 R57). -/
inductive CfgWait where
  | datum (eff : Nat) (d : Datum)
  | legend (w : LegWait)
deriving DecidableEq, Repr

structure Store where
  s0 : Area
  s1 : Area
  /-- 16 areas, each claimed by a slot or free -/
  legs : List (Option LegArea)
  /-- configurations that wait for their frame E, in commit order (R116, R117; 13 R387) -/
  waits : List CfgWait
  /-- images that govern steps, by slot 0-14; empty for none (03 R116) -/
  legGov : List Bytes
  /-- the Datum that governs decisions (13 R387) -/
  datum : Option Datum
deriving DecidableEq, Repr

/-! Firmware update (17). -/

/-- Boot record (17 Table 17-6). -/
structure BootRec where
  slot : Nat
  state : Nat
  boots : Nat
  flags : Nat
  secVer : Nat
  fmt : Nat
  build : Nat
  window : Nat
  len : Nat
  digest : Bytes
  prevBuild : Nat
  prevSec : Nat
  prevFmt : Nat
deriving DecidableEq, Repr

/-- Session record (17 Table 17-4). -/
structure Session where
  state : Nat
  path : Nat
  slot : Nat
  blocks : Nat
  base : Nat
  hash : Bytes
deriving DecidableEq, Repr

structure Upd where
  boot : Two BootRec
  /-- the record that the present start runs by: the running image -/
  run : BootRec
  floor : Two Nat
  session : Two Session
  /-- download bitmap: bit k set when block k is stored -/
  bitmap : Nat
  slotA : List Host.Cell
  slotB : List Host.Cell
  /-- slot A still holds the factory image, whose bytes the spec does not give -/
  factoryA : Bool
  applyBusy : Bool
  recovery : Bool
  healthy : Bool
  lastCause : Nat
  /-- end of the running trial window (R464) -/
  trialEnd : Option Nat
  /-- microcode self-test of this start passed (R462) -/
  selfTest : Bool
  /-- sequencer running at SENSE, POWER, IO -/
  seqRun : List Bool
  /-- next retry of a failed sequencer load -/
  seqRetry : List (Option Nat)
  /-- last retry event has been raised: none needed -/
  seqWanted : List Bool
deriving DecidableEq, Repr

/-! Gazetteer and lifetime counters (18). -/

/-- The open histogram of an instance (18 R472, R473): bins, seconds, highest and lowest value with marks. -/
structure Hist where
  cls : Nat
  inst : Nat
  bins : List Nat
  secs : Nat
  hi : Int
  hiMark : Nat
  lo : Int
  loMark : Nat
  cross : Nat
  sat : Bool
deriving DecidableEq, Repr

/-- An open period of a level (18 R474). -/
structure GazPeriod where
  /-- its end, ticks -/
  endAt : Nat
  partial' : Bool
  hists : List Hist
  /-- sequence number of the level's previous benchmark -/
  bench : Nat
deriving DecidableEq, Repr

/-- Gazetteer control record, group 0 (18 Table 18-6). -/
structure Group0 where
  aFirst : Nat
  bFirst : Nat
  seqFloor : Nat
  pinnedFull : Bool
  badA : List Nat
  badB : List Nat
deriving DecidableEq, Repr

structure LifeFan where
  starts : Nat
  run : Nat
  stall : Nat
  locked : Nat
deriving DecidableEq, Repr

/-- Valve counters (18 Table 18-6, R484); `formN`, `formSum`: reports of the forming baseline. -/
structure LifeValve where
  cycles : Nat
  since : Nat
  stress : Nat
  base : Nat
  recent : Nat
  last : Nat
  formN : Nat
  formSum : Nat
deriving DecidableEq, Repr

structure LifeRoute where
  starts : Nat
  run : Nat
deriving DecidableEq, Repr

structure Tonnage where
  crop : Nat
  grade : Nat
  grams : Nat
deriving DecidableEq, Repr

/-- A maintenance item (18 R485). -/
structure Maint where
  item : Nat
  basis : Nat
  ch : Nat
  due : Bool
  interval : Nat
  base : Nat
  /-- the base of a CALENDAR item has been set -/
  based : Bool
  firings : Nat
deriving DecidableEq, Repr

/-- Lifetime groups 1 to 8 (18 Table 18-6). -/
structure Life where
  powered : Nat
  run : Nat
  starts : Nat
  wakes : Nat
  fans : List LifeFan
  valves : List LifeValve
  outs : List Nat
  routes : List LifeRoute
  tons : List Tonnage
  writes : List Nat
  maint : List Maint
deriving DecidableEq, Repr

structure Gaz where
  levelA : List (Nat × Bytes)
  levelB : List (Nat × Bytes)
  g0 : Two Group0
  /-- next sequence number -/
  next : Nat
  aFull : Bool
  aDead : Bool
  bDead : Bool
  memFail : Bool
  lwFail : Bool
  lwFull : Bool
  clearing : Bool
  bHours : Nat
  aoCount : Nat
  aoFirst : Nat
  aoLast : Nat
  perA : GazPeriod
  perB : GazPeriod
  /-- last-words bank: slot, record -/
  words : List (Nat × Bytes)
  /-- failures since the bank was cleared -/
  fails : Nat
  life : Life
  /-- committed copies of groups 1 to 8 -/
  lifeNv : List (Two Life)
  /-- last commit, last second sampled, last hourly benchmark -/
  lifeAt : Nat
  secAt : Nat
  hourAt : Nat
  /-- link error totals at the last housekeeping round, and the errors recorded since the last sample (01 R25); Contour states at
  the last sample -/
  errs : List Nat
  errRun : List Nat
  csw : Nat
  /-- latest innovation by map: y and its frame (class 8) -/
  inno : List (Nat × Int × Nat)
  /-- latest plenum mean by heat-zone record with its frame (class 3) -/
  plen : List (Nat × Int × Nat)
deriving DecidableEq, Repr

/-! Power and safe state (19, 20). -/

/-- A temperature site (19 R502, R503): reading, highest reading, implausible, consecutive readings at or above 115 °C,
below 110 °C, at or above 135 °C and below 125 °C; `fresh`: a far die's reading has come since the last round. -/
structure Site where
  temp : Option Int
  peak : Int
  implausible : Bool
  n115 : Nat
  n110 : Nat
  n135 : Nat
  n125 : Nat
  /-- start of its time below 125 °C -/
  coolAt : Option Nat
  throttle : Bool
  shut : Bool
  fresh : Bool
deriving DecidableEq, Repr

structure Pwr where
  /-- 0 RUN, 1 IDLE, 2 WATCH, 3 HALT -/
  state : Nat
  cause : Nat
  wakeSrc : Nat
  wakeStamp : Nat
  memKept : Bool
  haltSr : Bool
  haltSeconds : Nat
  haltAt : Option Nat
  /-- PORN is low -/
  porn : Bool
  /-- domain L is in reset -/
  reset : Bool
  /-- the always-on domain is powered -/
  ao : Bool
  /-- level driven on PWR_EN (19 R489) -/
  pwrEn : Bool
  marker : Bool
  /-- E of an accepted PLAN_ARM -/
  plan : Option Nat
  /-- acceptance instant of the pending release or PLAN_ARM -/
  planAt : Nat
  /-- accepted move to WATCH (2) or HALT (3) with E; `moved` once E's apply instant has passed -/
  move : Option (Nat × Nat)
  moved : Bool
  resetDue : Option Nat
  resetCause : Nat
  /-- mV by rail of R501, rounds out of range, raised -/
  rails : List Nat
  railOut : List Nat
  roundAt : Nat
  /-- the supply and link values of this WATCH cycle have been read -/
  sites : List Site
  throttle : Bool
  shutdown : Bool
  /-- a WATCH cycle or renewal is running: wake frame W, or none for a renewal -/
  cycle : Option (Option Nat)
  /-- instant at which the device last fell asleep -/
  sleepAt : Nat
  /-- next renewal and cycle wakes -/
  nextWake : Option Nat
  renewAt : Option Nat
  /-- LOGIC holds the SENSE die's supply on (01 R23, 06 R210) -/
  senseGate : Bool
  /-- frame of READY or of the last periodic commit (04 R135) -/
  commitAt : Nat
  /-- channels whose standby transceiver watches for the wake-up pattern, held in the always-on domain (12 R357) -/
  canWake : List Nat
deriving DecidableEq, Repr

structure Safe where
  set : Bool
  count : Nat
  first : Nat
  last : Nat
  /-- last sample of FSAFE_N was low -/
  fsafeLow : Bool
  /-- release number that LOGIC's frames carry -/
  release : Nat
  /-- instant of the latest cause -/
  at' : Nat
deriving DecidableEq, Repr

end Sys2Proof.Machine
end

