-- ==== Sys2Proof/Machine/State.lean ====
section
/-!
DEFINITION. The machine: the block's whole state as plain data, its faults and refusals, and the state right after reset
(a device that leaves the factory and has its first power-on; notes/assumptions/5.md).
-/
namespace Sys2Proof.Machine

/-- Faults of a step: none. Every command of this block has an effect that the spec gives, in every state. -/
inductive Fault
deriving DecidableEq, Repr

/-- Refusals of a step. -/
inductive Refusal where
  /-- Raised by the dispatcher for a command that has no meaning yet. Safe: the machine stops. -/
  | notModelled (mnemonic : String)
deriving DecidableEq, Repr

/-- The survey engine's registers (03 Tables 3-18 to 3-21; 04 Tables 4-18, 4-19). -/
structure Svy where
  tileUe : Bool
  extUe : Bool
  repaired : Bool
  ue : Nat
  ce : Nat
  steps : Nat
  /-- highest MEAS -/
  peak : Nat
  /-- the run that each of the four lanes has in flight: map, start frame, candidate, member (04 R147) -/
  lanes : List (Option (Nat × Nat × Nat × Nat))
  predLate : Nat
deriving DecidableEq, Repr

/-- Storage layer outside the plant (06 R194-R197, R209, R212). -/
structure Sto where
  reseeded : Bool
  leaseExpired : Bool
  stale : Nat
  /-- SEQ of the last request; it rises by 1 for each -/
  seq : Nat
  /-- accepted answers are those to this SEQ -/
  nodes : List NodeSt
  /-- end of a running NODE_SCAN -/
  scanEnd : Option Nat
  /-- frame whose cable read has been started -/
  readFor : Option Nat
deriving DecidableEq, Repr

/-- REPLAY (02 R74-R76). -/
structure Replay where
  active : Bool
  saved : Option Plant
  /-- records taken so far in the header, 3 once it is complete -/
  hdr : Nat
  conts : Bytes
  eras : List Bytes
  /-- commands of the open group with their payloads, and CONT records still to come for the last -/
  cmds : List (Bytes × Bytes)
  left : Nat
  samples : List Sample
  /-- ring index of each sample of the open group -/
  places : List Nat
  /-- ring index at which the replay ended -/
  index : Nat
  frames : Nat
  mismatches : Nat
  /-- the replay has ended with a status: further records are ignored -/
  ended : Nat
  /-- outputs in force in the replayed run (02 R71) -/
  inForce : List Out
deriving DecidableEq, Repr

/-- The machine's whole state. -/
structure State where
  /-- commands that wait, first in first out -/
  pending : List Instr
  time : Meridian
  clk : Clocks
  frm : Frames
  cap : Capture
  rpl : Replay
  /-- Exchange slots written (01 R27, R544) -/
  exch : List (Nat × XSlot)
  links : Links
  sense : SenseSt
  senLog : SenLog
  field : FieldLog
  power : PowerSt
  io : IoSt
  can : List CanCh
  plant : Plant
  svy : Svy
  sto : Sto
  hif : Hif
  spi : Spi
  host : HostSide
  /-- commands taken and not completed (13 R376) -/
  cmds : List Cmd
  ic : Ic
  auth : Auth
  nvs : Nvs
  store : Store
  upd : Upd
  gaz : Gaz
  pwr : Pwr
  safe : Safe
  /-- what the present clock cycle has seen -/
  cyc : Cycle
  /-- the model's own counter of values the spec leaves open (notes/assumptions/4.md) -/
  free : Nat
deriving DecidableEq, Repr

/-! Reset. -/

/-- An empty two-copy structure. -/
def noTwo {α : Type} : Two α := { c0 := none, c1 := none }
/-- A two-copy structure whose copy 0 holds a body with generation 1. -/
def oneTwo {α : Type} (a : α) : Two α := { c0 := some { gen := 1, body := a }, c1 := none }

def noDatum : Datum := { image := [], sects := [] }

def noCmd : FieldCmd :=
  { safe := true, release := 0, valves := 0, fans := [], uios := [], slots := [], cswActive := 0, cswLatched := 0
    requests := [], clears := [], lin := [] }

def meridianReset : Meridian :=
  { acc := 0, slew := 0, asleep := false, offset := 0, era := 0, wallValid := false, eras := [], floor := oneTwo 0
    hiPcie := 0, hiSpi := 0, late := 0, future := 0, ovr := 0, dups := 0 }

def clocksReset : Clocks := { refLost := false, onRc := false, lfLost := false, pllUnlock := false, lfProven := true, held := [], rcSpans := [], rcFrom := 0 }

def framesReset (chain : Bytes) : Frames :=
  { next := 0, queue := [], drops := 0, collector := [], marks := [], decided := none, missed := none, inForce := [], canForce := []
    prev := none, chain, digests := [], lateIn := 0 }

def captureReset : Capture :=
  { active := false, present := false, first := 0, last := 0, prev := none, snapLen := 0, buf := [], odd := [] }

def replayReset : Replay :=
  { active := false, saved := none, hdr := 0, conts := [], eras := [], cmds := [], left := 0, samples := [], places := []
    index := 0, frames := 0, mismatches := 0, ended := 0, inForce := [] }

def nearReset : NearLink :=
  { timeout := 100, farCause := 0, nearSilence := false, farSilence := false, farSafe := false, up := false, farErr := 0
    nearErr := 0, drop := 0, session := none, lastTaken := 255, seqOut := 0, seqIn := none, timer := none, lost := false, silentAt := 0
    stopped := false, synced := false, expiries := 0, leases := 0, errSeen := 0, wire := [] }

/-- A far die that has just powered up (R541, 20 R509). -/
def farReset (safe : Bool) (cause : Nat) : FarLink :=
  { session := 0, recNo := 0, queue := [], errs := 0, drops := 0, timeout := 100, timer := none, lease := none, safe, cause
    expiries := 0, leases := 0, release := none, down := false, short := 0, at' := 0, seqIn := none, seqOut := 0, up := false
    window := none, wire := [] }

/-- The SENSE die, powered and without a configuration; what LOGIC shows of it before a frame has come (07 Table 7-14). -/
def senseReset : SenseSt :=
  { powered := true, cfgValid := false, cfg := noDatum, lin := [], ents := [], seqs := []
    lists := [none, none, none, none, none], afe := [none, none, none, none, none], excs := [], gds := List.replicate 8 none
    pend := [], csws := [], pins := [], base := [], chkQ := [], chk := none, ask := none
    turn := false, lastRound := 0, empties := [], started := [], skipped := 0, opens := 0, checks := 0 }

def senseUnseen : SenseSt := { senseReset with powered := false }

def senLogReset : SenLog :=
  { latest := [], gains := [], active := 0, latched := 0, skipped := 0, opens := 0, discard := 0, checks := 0, pins := []
    linOut := [], requests := [], clears := [], govAt := 0 }

def fieldReset : FieldLog := { cmd := noCmd, sets := { valves := [], fans := [], uios := [] } }

def powerReset : PowerSt :=
  { cfgValid := false, cfg := noDatum, cmd := noCmd, valves := [], banks := List.replicate 4 { short := false, stuck := false }
    fans := [], supplyOff := false, vfld := 0, order := 0, denied := 0, noPeak := 0, tickAt := 0, throttle := false }

def ioReset : IoSt :=
  { cfgValid := false, cfg := noDatum, cmd := noCmd, chans := [], vfld := 0, uvWarn := false, supplyOff := false
    segOff := [false, false, false, false], tests := [], cross := none, dieReset := false, throttle := false }

def linksReset : Links :=
  { near := [nearReset, nearReset, nearReset], far := [farReset false 0, farReset true 4, farReset true 4]
    viewS := senseUnseen, viewP := powerReset, viewI := ioReset }

/-- A CAN channel without an enabled record: off (12 Table 12-13). -/
def canReset (ch : Nat) : CanCh :=
  { ch, state := 3, recovering := false, standby := false, tec := 0, rec' := 0, busOffs := 0, pexc := 0, wake := false
    cmdBad := 0, fwDrop := 0, fifoDrop := 0, rateDrop := 0, strangers := 0, table := [], fifo := [], rx := []
    bufs := List.replicate 32 { count := 0, stamp := 0, filter := 0, frame := { id := 0, dlc := 0, data := [] } }
    buckets := [], outcomes := [], claim := none, reqs := [], mbLo := 0, mbHi := 0 }

def biasReset : BiasSt := { b := 0, p := 0, last := 0, pairs := 0, gated := 0 }

def plantReset : Plant :=
  { maps := [], bias := List.replicate 15 biasReset, dryers := [], zones := [], fans := [], routes := [], pulses := []
    bins := [], outs := [], canOut := [], safeHeld := true, safeSeen := false, hostSilent := false, silentAt := none, last := none }

def svyReset : Svy :=
  { tileUe := false, extUe := false, repaired := false, ue := 0, ce := 0, steps := 0, peak := 0, predLate := 0, lanes := [none, none, none, none] }

def stoReset : Sto :=
  { reseeded := false, leaseExpired := false, stale := 0, seq := 0, nodes := [], scanEnd := none, readFor := none }

def ringReset : Ring :=
  { base := 0, enable := false, vector := 0, cq := 0, log2 := 4, dev := 0, host := 0, phase := false, armed := false }

def hifReset : Hif :=
  { ready := false, linkUp := false, linkWidth := 0, linkSpeed := 0, bme := false, flr := false, hostSilent := false
    shadow := 0, hbTimeout := 50, hbLast := 0, hbStart := 0, ringErr := 0, rings := List.replicate 46 ringReset, held := []
    spills := [], evSeq := 0, msix := List.replicate 32 (0, 0, true), pba := 0 }

def spiReset : Spi :=
  { crcErr := 0, mbDone := false, mailbox := none, last := List.replicate 32 0, buffer := [], out := [] }

/-- Interrupt source after reset (14 Table 14-14): source 1 reaches every target with priority 15; a level source's WAKE
bit 6 is its RO kind. -/
def icSrcReset (s : Nat) : IcSrc :=
  { targets := if s = 1 then 255 else 0, time := 0, count := 1, wake := false, mask := false
    prio := if s = 1 then 15 else if s = 2 ∨ (192 ≤ s ∧ s ≤ 239) then Config.fixedPrio s else 0
    c := 0, start := none, pend := false, byTime := false, level := false }

def icTgtReset (n : Nat) : IcTarget :=
  { stack := [], frozen := false, faultSrc := 0, asleep := decide (n < 8), s1 := 0, claimx := 0, req := false }

def icReset : Ic :=
  { srcs := (List.range 256).map icSrcReset, tgts := (List.range 13).map icTgtReset, retained := false, tpin := 0, gpl := 0
    latched := [] }

def keySlotReset : KeySlot := { key := noTwo, ctr := noTwo }

def authReset : Auth := { slots := List.replicate 8 keySlotReset, cosign := noTwo }

def nvsReset : Nvs :=
  { verifyFail := false, ue := false, bank1Fail := false, lastRegion := 0, scrubBusy := false, ueCnt := 0, ceCnt := 0
    passes := 0, deadWords := [], ueWords := [], ledger := List.replicate 64 noTwo, lseq := 0, ledSel := 0
    ledValid := false, ledData := List.replicate 56 0 }

def areaReset : Area :=
  { datum := noTwo, area := noTwo, learn := noTwo, store := noTwo, fans := noTwo, base := noTwo, plan := noTwo }

def storeReset : Store :=
  { s0 := areaReset, s1 := areaReset, legs := List.replicate 16 none, waits := [], legGov := List.replicate 15 []
    datum := none }

/-- The boot record as the factory leaves it: slot A CONFIRMED with the factory image (notes/assumptions/16.md). -/
def bootReset : BootRec :=
  { slot := 0, state := 1, boots := 0, flags := 0, secVer := Config.factorySecVer, fmt := Config.factoryFmt
    build := Config.factoryBuild, window := 0, len := Config.factoryLen, digest := Config.factoryDigest, prevBuild := 0
    prevSec := 0, prevFmt := 0 }

def sessionReset : Session := { state := 0, path := 0, slot := 0, blocks := 0, base := 0, hash := List.replicate 32 0 }

def updReset : Upd :=
  { boot := oneTwo bootReset, run := bootReset, floor := oneTwo 0, session := oneTwo sessionReset, bitmap := 0, slotA := [], slotB := []
    factoryA := true, applyBusy := false, recovery := false, healthy := false, lastCause := 0, trialEnd := none
    selfTest := false, seqRun := [false, false, false], seqRetry := [none, none, none], seqWanted := [true, true, true] }

def periodReset (endAt : Nat) : GazPeriod := { endAt, partial' := true, hists := [], bench := 0 }

def lifeReset : Life :=
  { powered := 0, run := 0, starts := 0, wakes := 0
    fans := List.replicate 12 { starts := 0, run := 0, stall := 0, locked := 0 }
    valves := List.replicate 16 { cycles := 0, since := 0, stress := 0, base := 0, recent := 0, last := 0, formN := 0, formSum := 0 }
    outs := List.replicate 32 0, routes := List.replicate 32 { starts := 0, run := 0 }
    tons := List.replicate 15 { crop := 0, grade := 0, grams := 0 }, writes := List.replicate 10 0, maint := [] }

def group0Reset : Group0 := { aFirst := 0, bFirst := 0, seqFloor := 0, pinnedFull := false, badA := [], badB := [] }

def gazReset : Gaz :=
  { levelA := [], levelB := [], g0 := oneTwo group0Reset, next := 0, aFull := false, aDead := false, bDead := false
    memFail := false, lwFail := false, lwFull := false, clearing := false, bHours := 4, aoCount := 0, aoFirst := 0
    aoLast := 0, perA := periodReset (2 ^ 43), perB := periodReset (4 * 3600 * 2 ^ 24), words := [], fails := 0
    life := lifeReset, lifeNv := List.replicate 8 noTwo, lifeAt := 0, secAt := 0, hourAt := 0, errs := [0, 0, 0], errRun := [0, 0, 0], csw := 0
    inno := [], plen := [] }

def siteReset : Site :=
  { temp := some 0, peak := 0, implausible := false, n115 := 0, n110 := 0, n135 := 0, n125 := 0, coolAt := none
    throttle := false, shut := false, fresh := false }

def pwrReset : Pwr :=
  { state := 0, cause := 1, wakeSrc := 0, wakeStamp := 0, memKept := false, haltSr := false, haltSeconds := 0
    haltAt := none, porn := true, reset := true, ao := true, pwrEn := false, marker := false, plan := none, planAt := 0, move := none
    moved := false, resetDue := none, resetCause := 1, rails := List.replicate 8 0, railOut := List.replicate 8 0
    roundAt := 0, sites := List.replicate 7 siteReset, throttle := false, shutdown := false, cycle := none, sleepAt := 0
    nextWake := none, renewAt := none, senseGate := true, commitAt := 0, canWake := [] }

def safeReset : Safe := { set := true, count := 1, first := 1, last := 1, fsafeLow := false, release := 0, at' := 0 }

def cycleReset (acc : Nat) : Cycle := { at' := acc, bits := [], evs := [], pends := [], early := [], asg := none }

/-- The machine right after reset. -/
def State.reset : State :=
  { pending := [], time := meridianReset, clk := clocksReset, frm := framesReset emptyHash, cap := captureReset
    rpl := replayReset, exch := [], links := linksReset, sense := senseReset, senLog := senLogReset, field := fieldReset, power := powerReset
    io := ioReset, can := (List.range 4).map canReset, plant := plantReset, svy := svyReset, sto := stoReset, hif := hifReset
    spi := spiReset, host := { posted := [], readData := 0 }, cmds := [], ic := icReset, auth := authReset, nvs := nvsReset
    store := storeReset, upd := updReset, gaz := gazReset, pwr := pwrReset, safe := safeReset, cyc := cycleReset 0, free := 0 }
where
  /-- SHA-256 of no bytes: the configuration hash without a Datum or Legend (02 R69). -/
  emptyHash : Bytes :=
    [0xe3, 0xb0, 0xc4, 0x42, 0x98, 0xfc, 0x1c, 0x14, 0x9a, 0xfb, 0xf4, 0xc8, 0x99, 0x6f, 0xb9, 0x24,
     0x27, 0xae, 0x41, 0xe4, 0x64, 0x9b, 0x93, 0x4c, 0xa4, 0x95, 0x99, 0x1b, 0x78, 0x52, 0xb8, 0x55]

end Sys2Proof.Machine
end

