-- ==== Sys2Proof/Machine/Ic.lean ====
section
/-!
DEFINITION. The interrupt controller: events, coalescing, assignment, requests, claim, done, target reset (14). A function
on `Ic` answers the controller after the event; messages leave by `Ops`.
-/
namespace Sys2Proof.Machine

/-- Level sources of Table 14-1. -/
def isLevelSrc (s : Nat) : Bool :=
  (decide (9 ≤ s) && decide (s ≤ 24)) || (decide (35 ≤ s) && decide (s ≤ 43)) || (decide (64 ≤ s) && decide (s ≤ 127))

/-- Sources whose targets are internal (R392). -/
def isInternalSrc (s : Nat) : Bool := s == 2 || (decide (192 ≤ s) && decide (s ≤ 239))

/-- Sources that never assert: 0 and the reserved ones (Table 14-1). -/
def isReservedSrc (s : Nat) : Bool := s == 0 || (decide (25 ≤ s) && decide (s ≤ 33)) || (decide (46 ≤ s) && decide (s ≤ 63))

def icSrc0 : IcSrc :=
  { targets := 0, time := 0, count := 1, wake := false, mask := false, prio := 0, c := 0, start := none, pend := false
    byTime := false, level := false }
def icTgt0 : IcTarget :=
  { stack := [], frozen := false, faultSrc := 0, asleep := true, s1 := 0, claimx := 0, req := false }

def Ic.src (i : Ic) (s : Nat) : IcSrc := i.srcs.getD s icSrc0
def Ic.setSrc (i : Ic) (s : Nat) (x : IcSrc) : Ic := { i with srcs := setAt s x i.srcs }
def Ic.tgt (i : Ic) (n : Nat) : IcTarget := i.tgts.getD n icTgt0
def Ic.setTgt (i : Ic) (n : Nat) (x : IcTarget) : Ic := { i with tgts := setAt n x i.tgts }

/-- A source stands on some target's stack. -/
def Ic.inSvc (i : Ic) (s : Nat) : Bool := i.tgts.any fun t => t.stack.contains s

/-- Running priority of a target (R395). -/
def Ic.running (i : Ic) (n : Nat) : Nat := match (i.tgt n).stack with | [] => 0 | s :: _ => (i.src s).prio

/-- Coalescing time of a TIME code in ticks; none without a limit (R394). -/
def coalesceTicks (k : Nat) : Option Nat :=
  if 1 ≤ k ∧ k ≤ 17 then some ((2 ^ (k - 1) * 16777216 + 999999) / 1000000) else none

/-- The timer of a source has reached its time. -/
def timeUp (now : Nat) (x : IcSrc) : Bool :=
  match x.start with
  | none => false
  | some a => match coalesceTicks x.time with | some d => decide (a + d ≤ now) | none => false

/-- The coalescing timer of a source reaches its time (R394). -/
def icTimer (now s : Nat) (i : Ic) : Ic :=
  let x := i.src s
  if x.pend || i.inSvc s || !timeUp now x then i else i.setSrc s { x with pend := true, byTime := true }
/-- Every source whose timer has reached its time. -/
def icTimers (now : Nat) (i : Ic) : Ic := (List.range i.srcs.length).foldl (fun a s => icTimer now s a) i

/-- An event of an edge source (R393, R394). A source in service counts and is judged when it leaves service (R402). -/
def icEvent (now s : Nat) (i : Ic) : Ic :=
  let x := i.src s
  if x.prio = 0 ∨ isLevelSrc s ∨ isReservedSrc s ∨ s = 1 ∨ isInternalSrc s then i
  else
    let c := sat 65535 (x.c + 1)
    let x := { x with c := c, start := if x.c = 0 then some now else x.start }
    i.setSrc s (if !x.pend && !i.inSvc s && decide (x.count ≤ c) then { x with pend := true, byTime := false } else x)

/-- A level source takes its level; it is pending while asserted and not in service (R394). -/
def icLevel (s : Nat) (lvl : Bool) (i : Ic) : Ic :=
  let x := i.src s
  i.setSrc s { x with level := lvl, pend := lvl && x.prio != 0 && !i.inSvc s, byTime := false }

/-- A source that leaves service is sampled again (R402). -/
def icResample (now s : Nat) (i : Ic) : Ic :=
  if isLevelSrc s then icLevel s (i.src s).level i
  else
    let x := i.src s
    if s = 1 ∨ x.c = 0 then i
    else if x.count ≤ x.c then i.setSrc s { x with pend := true, byTime := false }
    else if timeUp now x then i.setSrc s { x with pend := true, byTime := true }
    else i

/-- Targets of a source that are awake, with their running priority (16 for a frozen one), lowest number first (R395, R396). -/
def awakeSet (i : Ic) (s : Nat) : List (Nat × Nat) :=
  ((List.range 8).filter fun n => bit (i.src s).targets n && !(i.tgt n).asleep).map fun n =>
    (n, if (i.tgt n).frozen then 16 else i.running n)

/-- The target that R396 assigns a source to. -/
def assigned (i : Ic) (s : Nat) : Option Nat :=
  (awakeSet i s).foldl (fun (b : Option (Nat × Nat)) p =>
    match b with
    | none => some p
    | some q => if p.2 < q.2 then some p else some q) none |>.map Prod.fst

/-- A pending source that is routed: not masked, not in service, enabled. Source 1 is routed by its copies. -/
def routed (i : Ic) (s : Nat) : Bool :=
  let x := i.src s
  x.pend && !x.mask && decide (x.prio ≠ 0) && s != 1 && !i.inSvc s

/-- Routed sources, ascending. -/
def routedSrcs (i : Ic) : List Nat := (List.range i.srcs.length).filter (routed i)

/-- A routed source without an awake target wakes the lowest target of its set (R408). -/
def icWake (i : Ic) : Ic :=
  (routedSrcs i).foldl (fun j s =>
    if (j.src s).wake && (awakeSet j s).isEmpty then
      match (List.range 8).find? fun n => bit (j.src s).targets n with
      | some n => j.setTgt n { j.tgt n with asleep := false }
      | none => j
    else j) i

/-- The assignment of a cycle: each routed source with its target (R396). -/
def assignment (i : Ic) : List (Nat × Nat) := (routedSrcs i).filterMap fun s => (assigned i s).map fun n => (s, n)

/-- The source that target n takes under an assignment: one that is still routed, with PRIO above the running priority, the best first,
the lowest number first of several such (R397, R398). -/
def claimable (asg : List (Nat × Nat)) (i : Ic) (n : Nat) : Option Nat :=
  if (i.tgt n).frozen then none
  else
    let run := i.running n
    ((asg.filter fun p => p.2 == n && routed i p.1 && decide (run < (i.src p.1).prio)).map fun p => p.1).foldl
      (fun (b : Option Nat) s => match b with
        | none => some s
        | some q => if (i.src q).prio < (i.src s).prio then some s else some q) none

/-- Request of target n (R397). -/
def icRequest (i : Ic) (n : Nat) : Bool := decide ((i.tgt n).s1 ≠ 0) || (claimable (assignment i) i n).isSome

/-- A claim by target n under its cycle's assignment (R398, R399, R401, R403): the controller and the source returned. -/
def icClaim (asg : List (Nat × Nat)) (n : Nat) (i : Ic) : Ic × Nat :=
  let t := i.tgt n
  if t.frozen then
    if t.s1 ≠ 0 then (i.setTgt n { t with s1 := 0, claimx := t.s1 + 15 * 65536 }, 1)
    else (i.setTgt n { t with claimx := 0 }, 0)
  else if t.s1 ≠ 0 then (i.setTgt n { t with s1 := 0, stack := 1 :: t.stack, claimx := t.s1 + 15 * 65536 }, 1)
  else
    match claimable asg i n with
    | none => (i.setTgt n { t with claimx := 0 }, 0)
    | some s =>
      let x := i.src s
      let cx := x.c + 65536 * x.prio + 1048576 * b2n (isLevelSrc s) + 2097152 * b2n x.byTime
      ((i.setSrc s { x with c := 0, start := none, pend := false, byTime := false }).setTgt n
        { t with stack := s :: t.stack, claimx := cx }, s)

/-- A stack fault of target n with value v (R400): one copy of source 1 for every awake target. -/
def stackFault (n v : Nat) (i : Ic) : Ic :=
  let j := i.setTgt n { i.tgt n with frozen := true, faultSrc := v }
  { j with tgts := j.tgts.map fun t => if t.asleep then t else { t with s1 := sat 65535 (t.s1 + 1) } }

/-- A write of v to IC_DONE_n (R400, R401). -/
def icDone (now n v : Nat) (i : Ic) : Ic :=
  let t := i.tgt n
  if t.frozen ∨ v = 0 then i
  else
    match t.stack with
    | s :: r => if s = v then icResample now v (i.setTgt n { t with stack := r }) else stackFault n v i
    | [] => stackFault n v i

/-- A write of 1 to bit n of IC_TRESET (R401). Only a frozen target has a freeze to end; the stack of the target empties
in every case. -/
def icTreset (now n : Nat) (i : Ic) : Ic :=
  let t := i.tgt n
  let j := i.setTgt n { t with stack := [], frozen := false, s1 := 0 }
  t.stack.foldl (fun a s => icResample now s a) j

/-- A write to IC_SRCCFG_s (Table 14-14, R393, R405). A COUNT that the count has reached already makes the source pending
(R394). -/
def icSrccfg (s v : Nat) (i : Ic) : Ic :=
  let x := i.src s
  let prio := if s = 1 ∨ isInternalSrc s then x.prio else v % 16
  let x := { x with
    targets := if s = 0 ∨ s = 1 ∨ isInternalSrc s then x.targets else bits v 31 24
    time := bits v 20 16, count := max 1 (bits v 15 8), wake := bit v 5, mask := bit v 4 && s != 1, prio := prio }
  let x := if prio = 0 then { x with c := 0, start := none, pend := false, byTime := false } else x
  if isLevelSrc s then icLevel s x.level (i.setSrc s x)
  else i.setSrc s (if !x.pend && !i.inSvc s && x.c != 0 && decide (x.count ≤ x.c) then { x with pend := true, byTime := false } else x)

/-- A source whose pending bit is written with 1: what the present cycle brought it stays, `n` events and its rise (Table 14-15, 23
R537). -/
def clearedSrc (now n : Nat) (inSvc rose : Bool) (x : IcSrc) : IcSrc :=
  let again := x.pend && rose
  { x with c := n, start := if n = 0 then none else some now, pend := again || (decide (n ≠ 0) && decide (x.count ≤ n) && !inSvc)
           byTime := again && x.byTime }

/-- A write of 1s to IC_PEND_w clears edge sources and their counts (Table 14-15). `evs` and `pends`: events and rises of the cycle. -/
def icPendClear (now w v : Nat) (evs pends : List Nat) (i : Ic) : Ic :=
  (List.range 32).foldl (fun a b =>
    let s := 32 * w + b
    if bit v b && !isLevelSrc s && s != 1 then a.setSrc s (clearedSrc now (evs.count s) (a.inSvc s) (pends.contains s) (a.src s)) else a) i

/-- A write to IC_TSLEEP: bits 7:0 (R407). -/
def icTsleep (v : Nat) (i : Ic) : Ic :=
  { i with tgts := ((List.range i.tgts.length).zip i.tgts).map fun p => if p.1 < 8 then { p.2 with asleep := bit v p.1 } else p.2 }

/-- Occurrence of a source in device sleep (R410): the first one of an enabled source latches with its 512-tick stamp. -/
def icLatch (now s : Nat) (i : Ic) : Ic :=
  if 2 ≤ s ∧ s ≤ 33 ∧ (i.src s).prio ≠ 0 ∧ !(i.latched.any fun p => p.1 == s) then
    { i with latched := i.latched ++ [(s, now / 512 * 512)] }
  else i

/-- Restore at a wake after `slept` ticks of sleep (R409, R410): coalescing timers stood still; each latched edge source
counts one event. -/
def icRestore (now slept : Nat) (i : Ic) : Ic :=
  let j := { i with retained := true, srcs := i.srcs.map fun (x : IcSrc) => { x with start := x.start.map fun a => a + slept } }
  { (j.latched.foldl (fun (a : Ic) p => icEvent now p.1 a) j) with latched := [] }

end Sys2Proof.Machine
end

