-- ==== Sys2Proof/Machine/Ops.lean ====
section
/-!
DEFINITION. The named operations over the block's state: the Meridian, posted writes, MSI-X, rings, spills, events,
samples and the frame collector, completions, the Exchange, the safe-state line (01, 02, 13, 14, 20).
-/
namespace Sys2Proof.Machine

/-! The Meridian (02 R40-R52). -/

/-- The count (R40). -/
def State.now (s : State) : Nat := s.time.acc / 2 ^ 32

/-- INC at a slew of p ppb: 2^56 / 25,000,000 × (1 + p × 10^-9), rounded half up (R41). -/
def incOf (p : Int) : Nat :=
  ((2 * 2 ^ 56 * (1000000000 + p) + 25000000000000000) / (2 * 25000000000000000)).toNat

/-- The 96-bit value brought to a count of at least `t` in whole reference cycles, or in whole 512-tick edges asleep
(R41, R42). -/
def accTo (t : Nat) (m : Meridian) : Nat :=
  let goal := t * 2 ^ 32
  let step := if m.asleep then 512 * 2 ^ 32 else incOf m.slew
  if goal ≤ m.acc ∨ step = 0 then m.acc else m.acc + (goal - m.acc + step - 1) / step * step

/-- Time passes up to the instant `t`; nothing else changes. Without the always-on domain's power the count stands (R45). -/
def advance (t : Nat) (s : State) : State := { s with time := { s.time with acc := if s.pwr.ao then accTo t s.time else s.time.acc } }

/-- One reference cycle, or one edge of the 32.768 kHz clock asleep (R41, R42). -/
def oneCycle (m : Meridian) : Meridian :=
  { m with acc := m.acc + if m.asleep then 512 * 2 ^ 32 else incOf m.slew }

/-- SVY_LOAD.MEAS after a count of map steps: 0 before any, then open (04 Table 4-18; notes/assumptions/67.md). -/
def svyMeas (steps : Nat) : Nat := if steps = 0 then 0 else Config.engineBusy steps % 1024

/-- Nothing waits: one cycle of the clock passes (notes/assumptions/1.md). -/
def idle (s : State) : State := { s with time := if s.pwr.ao then oneCycle s.time else s.time }

/-! The present clock cycle (14 R403, 23 R537; notes/assumptions/69.md). -/

/-- What this cycle has seen so far: nothing, when the last note is of another one. -/
def State.cy (s : State) : Cycle := if s.cyc.at' = s.time.acc then s.cyc else cycleReset s.time.acc

/-- An ordered reset has fallen due: domain L is about to restart (19 Table 19-2). -/
def State.resetNow (s : State) : Bool := match s.pwr.resetDue with | some e => decide (e ≤ s.now) | none => false

/-- A command of instant `t` falls into the present cycle. -/
def State.inCycle (s : State) (t : Nat) : Bool := decide (t * 2 ^ 32 ≤ s.time.acc)

/-- The device sets the W1C bit `b` of the register at an offset. -/
def w1cCode (off b : Nat) : Nat := 64 * off + b
def hit (off b : Nat) (s : State) : State := { s with cyc := { s.cy with bits := w1cCode off b :: s.cy.bits } }
def hitIf (p : Bool) (off b : Nat) (s : State) : State := if p then hit off b s else s

/-- A W1C bit after a write of `v`: a bit that the device sets in the cycle of the write stays set (R537). -/
def w1c (s : State) (off v : Nat) (old : Bool) (b : Nat) : Bool := old && (!bit v b || s.cy.bits.contains (w1cCode off b))

/-- The bits of a write of 1s that clear (R537). -/
def w1cMask (s : State) (off v : Nat) : Nat := maskOf 32 fun b => bit v b && !s.cy.bits.contains (w1cCode off b)

/-- The interrupt controller changes; sources that become pending are noted for their cycle. -/
def onIc (f : Ic → Ic) (s : State) : State :=
  let i := f s.ic
  let up := ((i.srcs.zip s.ic.srcs).zipIdx.filter fun p => p.1.1.pend && !p.1.2.pend).map fun p => p.2
  { s with ic := i, cyc := { s.cy with pends := up ++ s.cy.pends } }

/-- First Meridian tick of frame n, and the frame of a stamp (R51). -/
def frameStart (n : Nat) : Nat := n * 2 ^ 23
def frameOf (stamp : Nat) : Nat := stamp / 2 ^ 23

/-- The Datum in force; without one it has no records. -/
def State.datum (s : State) : Datum := s.store.datum.getD noDatum
/-- SETTLE in force (Table 2-12). -/
def State.settle (s : State) : Nat := match s.store.datum with | some d => datSettle d | none => 16
/-- Closing instant C(n) (R52). -/
def State.closing (s : State) (n : Nat) : Nat := frameStart (n + 1) + s.settle * 2 ^ 18
/-- Apply instant of frame n (01 R39). -/
def State.applyAt (s : State) (n : Nat) : Nat := s.closing n + 2 ^ 20
/-- N0: the lowest frame with C(N0) > A (R57). -/
def State.n0 (s : State) (a : Nat) : Nat :=
  let w := 2 ^ 23 + s.settle * 2 ^ 18
  if a < w then 0 else (a - w) / 2 ^ 23 + 1

/-- The full stamp of a short stamp received at count M (R48, R49). -/
def rebuildStamp (m short : Nat) : Nat :=
  let u : Nat := m / 2 ^ 20
  let d : Nat := (short + 2 ^ 24 - u % 2 ^ 24) % 2 ^ 24
  let v : Int := (u : Int) + (if 2 ^ 23 ≤ d then (d : Int) - 16777216 else (d : Int))
  let st := (max v 0).toNat * 2 ^ 20
  if m < st then m / 2 ^ 20 * 2 ^ 20 else st

/-! Values the spec leaves open. -/

/-- A fresh open value and the state that has used it (notes/assumptions/4.md). -/
def State.used (s : State) : State := { s with free := s.free + 1 }
def State.open' (s : State) : Int := Config.freeValue s.free
/-- A fresh open bit. -/
def State.openBit (s : State) : Bool := Config.freeValue s.free % 2 == 1

/-! Interrupt events. -/

/-- Core M and LOGIC run: not in reset, not asleep. -/
def State.awake (s : State) : Bool := !s.pwr.reset && !s.time.asleep

/-- An occurrence of an edge source: counted while awake, latched asleep (14 R394, R410). While a WATCH cycle runs it is
counted and latched as well, so that it wakes the device at the end of the cycle (19 R499). -/
def irq (src : Nat) (s : State) : State :=
  if s.time.asleep then { s with ic := icLatch s.now src s.ic }
  else
    let s1 := onIc (icEvent s.now src) s
    let s2 := { s1 with cyc := { s1.cyc with evs := src :: s1.cyc.evs } }
    if s.pwr.cycle.isSome then { s2 with ic := icLatch s.now src s2.ic } else s2

/-! Posted writes and messages (13 R361, R368, R371). -/

def post (addr : Nat) (b : Bytes) (s : State) : State := { s with host := { s.host with posted := s.host.posted ++ [(addr, b)] } }

/-- An MSI-X message of a vector: sent, or held in the pending-bit array (14 R397). -/
def msixSend (v : Nat) (s : State) : State :=
  match s.hif.msix[v]? with
  | none => s
  | some (a, d, masked) =>
    if masked then { s with hif := { s.hif with pba := if bit s.hif.pba v then s.hif.pba else s.hif.pba + 2 ^ v } }
    else post a (leBytes 4 d) s

/-! Rings (13 R363-R371). -/

def ringNone : Ring :=
  { base := 0, enable := false, vector := 0, cq := 0, log2 := 4, dev := 0, host := 0, phase := false, armed := false }

def State.ring (s : State) (r : Nat) : Ring := s.hif.rings.getD r ringNone
def State.setRing (s : State) (r : Nat) (x : Ring) : State := { s with hif := { s.hif with rings := setAt r x s.hif.rings } }

/-- Host-producer rings: command, CAN transmit, replay (Table 13-1). -/
def hostProducer (r : Nat) : Bool := decide (r < 16) || (decide (41 ≤ r) && decide (r ≤ 45))
def entrySize (r : Nat) : Nat := if r < 16 then 64 else if 32 ≤ r ∧ r < 36 then 16 else 32
def Ring.size (x : Ring) : Nat := 2 ^ x.log2
/-- Entries a device-producer ring can still take. -/
def Ring.room (x : Ring) : Nat := if x.enable then (x.host + x.size - 1 - x.dev % x.size) % x.size else 0
/-- Unread entries of a device-producer ring; waiting entries of a host-producer ring. -/
def Ring.unread (x : Ring) : Nat := (x.dev + x.size - x.host % x.size) % x.size
def Ring.waiting (x : Ring) : Nat := (x.host + x.size - x.dev % x.size) % x.size
def Ring.next (x : Ring) (i : Nat) : Nat := (i + 1) % x.size

/-- The shadow of a ring (R367). -/
def writeShadow (r : Nat) (s : State) : State := post (s.hif.shadow + 4 * r) (leBytes 4 (s.ring r).dev) s

/-- A device-producer ring's notification (R371). -/
def ringNotify (r : Nat) (s : State) : State :=
  let x := s.ring r
  if x.enable && x.armed && decide (8 ≤ x.vector) && !hostProducer r then
    msixSend x.vector (s.setRing r { x with armed := false })
  else s

/-- The device writes one entry at its tail. A completion entry carries PHASE (R369). -/
def writeEntry (r : Nat) (b : Bytes) (s : State) : State :=
  let x := s.ring r
  let b := if 16 ≤ r ∧ r < 32 then b.take 6 ++ leBytes 1 (u8 b 6 / 2 * 2 + b2n x.phase) ++ b.drop 7 else b
  let x1 := { x with dev := x.next x.dev, phase := if x.next x.dev = 0 then !x.phase else x.phase }
  (post (x.base + entrySize r * x.dev) b s).setRing r x1

/-- A batch of entries, then its shadow and notification. -/
def writeBatch (r : Nat) (l : List Bytes) (s : State) : State :=
  if l = [] then s else ringNotify r (writeShadow r (l.foldl (fun a b => writeEntry r b a) s))

/-! Records of device-producer rings with a spill (01 R36, 13 R382, Table 13-9). -/

def noSpill : Spill := { recs := [], dropped := 0, dropStamp := 0, dropSeq := 0 }
def State.spill (s : State) (r : Nat) : Spill := (lookupKey r s.hif.spills).getD noSpill
def State.setSpill (s : State) (r : Nat) (x : Spill) : State := { s with hif := { s.hif with spills := insertKey r x s.hif.spills } }
def spillLimit (r : Nat) : Nat := if r < 36 then 131072 else if r = 36 then 16384 else 4096

/-- The gap record of a ring (R382). -/
def gapRec (r : Nat) (x : Spill) : Bytes :=
  if r < 36 then leBytes 8 x.dropStamp ++ leBytes 2 0xFFFF ++ leBytes 2 0 ++ leBytes 4 (min x.dropped 0x7FFFFFFF)
  else if r = 36 then
    zeros 8 ++ leBytes 4 x.dropSeq ++ leBytes 2 0x00FF ++ zeros 2 ++ leBytes 4 (min x.dropped 0xFFFFFFFF) ++ leBytes 8 x.dropStamp ++ zeros 4
  else leBytes 8 x.dropStamp ++ zeros 7 ++ leBytes 1 0xF0 ++ leBytes 4 (min x.dropped 0xFFFFFFFF) ++ zeros 12

/-- Waiting records move to their ring as far as they fit. -/
def drain (r : Nat) (s : State) : State :=
  let x := s.spill r
  let k := min x.recs.length (s.ring r).room
  if k = 0 then s else writeBatch r (x.recs.take k) (s.setSpill r { x with recs := x.recs.drop k })

/-- A record enters its spill, or is dropped and counted; the first record after drops is preceded by the gap record. -/
def spillPut (r stamp seq : Nat) (b : List Bytes) (s : State) : State :=
  let x := s.spill r
  if spillLimit r < x.recs.length + b.length then
    s.setSpill r (if x.dropped = 0 then { x with dropped := b.length, dropStamp := stamp, dropSeq := seq } else { x with dropped := x.dropped + b.length })
  else s.setSpill r { noSpill with recs := x.recs ++ (if x.dropped = 0 then [] else [gapRec r x]) ++ b }

/-- Records for a device-producer ring: at once when it has room and nothing waits; a disabled sample stream discards them
(R380). -/
def devPut (r stamp seq : Nat) (b : List Bytes) (s : State) : State :=
  if r < 36 ∧ (s.ring r).enable = false then s
  else if b = [] then s
  else drain r (spillPut r stamp seq b s)

/-! Events (13 R381, 20 R514). -/

/-- The device ran from the RC oscillator at an instant (01 Table 1-13). -/
def onRcAt (t : Nat) (c : Clocks) : Bool :=
  (c.onRc && decide (c.rcFrom ≤ t)) || c.rcSpans.any fun p => decide (p.1 ≤ t) && decide (t < p.2)

def eventRec (s : State) (stamp code : Nat) (params : Bytes) : Bytes :=
  leBytes 8 stamp ++ leBytes 4 s.hif.evSeq ++ leBytes 2 code ++ leBytes 2 (b2n (onRcAt stamp s.clk)) ++ padTo 16 params

/-- An event with a given stamp. -/
def raiseAt (stamp code : Nat) (params : Bytes) (s : State) : State :=
  let rec' := eventRec s stamp code params
  let seq := s.hif.evSeq
  devPut 36 stamp seq [rec'] { s with hif := { s.hif with evSeq := (seq + 1) % 2 ^ 32 } }

/-- An event detected now. -/
def raise (code : Nat) (params : Bytes) (s : State) : State := raiseAt s.now code params s

def raises (l : List (Nat × Bytes)) (s : State) : State := l.foldl (fun a e => raise e.1 e.2 a) s

/-! Samples (01 R34, R35; 02 R53-R56; 13 R380). -/

def sampleRec (x : Sample) : Bytes :=
  leBytes 8 x.stamp ++ leBytes 2 x.src ++ leBytes 2 x.status ++ leBytes 4 (ofS 32 x.value)

/-- A sample goes to its host stream. -/
def streamSample (x : Sample) (s : State) : State := devPut (32 + x.src / 16384) x.stamp 0 [sampleRec x] s

/-- Capture SAMPLE record (02 Table 2-5): byte 1 bit 0 LATE, 1 DUPLICATE, 2 FUTURE, 3 CLK_RC. -/
def capSample (future : Bool) (x : Sample) : Bytes :=
  leBytes 1 3 ++ leBytes 1 (b2n (bit x.status 15) + 2 * b2n (bit x.status 14) + 4 * b2n future + 8 * b2n (bit x.status 13)) ++
  leBytes 2 x.src ++ leBytes 2 x.status ++ zeros 2 ++ leBytes 8 x.stamp ++ leBytes 8 x.arrival ++ leBytes 4 (ofS 32 x.value) ++ zeros 4

/-- A LATE, DUPLICATE or FUTURE sample is captured in the open group (02 R73). -/
def capOdd (b : Bytes) (s : State) : State :=
  if s.cap.active then { s with cap := { s.cap with odd := s.cap.odd ++ [b] } } else s

/-- The frame collector's intake of a sample with its arrival instant: late, duplicate, or taken (02 R53, R54, R56). The late
check comes first. In REPLAY live samples are dropped (02 R74). -/
def intakeAt (x : Sample) (s : State) : State :=
  if s.rpl.active then s
  else if s.closing (frameOf x.stamp) ≤ x.arrival ∨ frameOf x.stamp < s.frm.next then
    let y := { x with status := x.status + stLate }
    streamSample y (capOdd (capSample false y)
      { s with time := { s.time with late := sat 65535 (s.time.late + 1) }, frm := { s.frm with lateIn := sat 65535 (s.frm.lateIn + 1) } })
  else if s.frm.collector.any fun c => c.src == x.src && c.stamp == x.stamp then
    let y := { x with status := x.status + stDuplicate }
    streamSample y (capOdd (capSample false y) { s with time := { s.time with dups := s.time.dups + 1 } })
  else streamSample x { s with frm := { s.frm with collector := s.frm.collector ++ [x] } }

/-- The intake of a sample that arrives now. -/
def intake (x : Sample) (s : State) : State := intakeAt { x with arrival := s.now } s

/-- A sample whose stamp was taken at an instant, with CLK_RC when the Meridian ran on the RC oscillator then (02 R50). -/
def rcMark (took : Nat) (x : Sample) (s : State) : Sample := { x with status := x.status + (if onRcAt took s.clk then stClkRc else 0) }

/-- Samples from the far dies enter the front-end queue, which drains into the collector unless the core block is held; a
sample that finds it full is dropped and its frame OVERRUN (01 R35, Table 1-11). -/
def frontEndAt (arrival took : Nat) (x0 : Sample) (s : State) : State :=
  let x := rcMark took { x0 with arrival := arrival } s
  if !s.clk.held.contains 0 then intakeAt x s
  else if s.frm.queue.length < 2048 then { s with frm := { s.frm with queue := s.frm.queue ++ [x] } }
  else { s with frm := { s.frm with drops := s.frm.drops + 1, marks := s.frm.marks ++ [frameOf x.stamp] } }

/-- One that arrives now. -/
def frontEnd (took : Nat) (x : Sample) (s : State) : State := frontEndAt s.now took x s

/-- A sample with a code, source, stamp and value. -/
def mkSample (stamp src status : Nat) (v : Int) : Sample := { stamp, src, status, value := v, arrival := 0 }

/-! The Exchange (01 R27, R544). -/

/-- The writer of a slot adds 1 to its version twice. The 16-bit version wraps to 0 after 32,768 writes, and the slot then counts as
never written (R27, R544; notes/assumptions/70.md). -/
def publish (slot src : Nat) (v : Int) (stamp : Nat) (s : State) : State :=
  let old := match lookupKey slot s.exch with | some x => x.version | none => 0
  { s with exch := insertKey slot { version := (old + 2) % 65536, src, value := v, stamp } s.exch }

/-- An Exchange slot's 16 bytes (Table 1-7). -/
def slotBytes (s : State) (slot : Nat) : Bytes :=
  match lookupKey slot s.exch with
  | some x => leBytes 2 x.version ++ leBytes 2 x.src ++ leBytes 4 (ofS 32 x.value) ++ leBytes 8 x.stamp
  | none => zeros 16

/-! The configuration hash (02 R69). -/

/-- The Legend in force by slot at the store, as the hash counts it: those that govern. -/
def configHash (s : State) : Bytes :=
  sha256 ((match s.store.datum with | some d => d.image | none => []) ++
    ((List.range 15).map fun g => match s.store.legGov.getD g [] with | [] => [] | im => leBytes 1 g ++ im).flatten)

/-! Completions (13 Table 13-4, R370, R376). -/

def srcCode : Src → Nat
  | .ring n => n
  | .can _ => 0xFFFF
  | .spi => 0xFFFE

def entryBytes (tag status : Nat) (led : Bool) (onRc : Bool) (prog result stamp sq head : Nat) : Bytes :=
  leBytes 4 tag ++ leBytes 2 status ++ leBytes 2 (2 * b2n led + 4 * b2n onRc) ++ leBytes 4 prog ++ leBytes 8 result ++
  leBytes 8 stamp ++ leBytes 2 sq ++ leBytes 2 head

/-- A completion entry reaches its completion ring, waits for room, or is discarded (R365, R370). -/
def cqPut (cq : Nat) (e : Bytes) (s : State) : State :=
  let x := s.ring (16 + cq)
  if !x.enable then s
  else if x.room = 0 ∨ s.hif.held.any (fun p => p.1 == cq) then { s with hif := { s.hif with held := s.hif.held ++ [(cq, e)] } }
  else writeBatch (16 + cq) [e] s

def setCan (c : CanCh) (s : State) : State := { s with can := setAt c.ch c s.can }
def State.canCh (s : State) (ch : Nat) : CanCh := s.can.getD ch (newCan ch 3)

/-- The response of a CAN request: one FD firmware frame on RSP_ID (12 R356). -/
def canRespond (ch : Nat) (e : Bytes) (s : State) : State :=
  match s.datum.canCmd ch, s.datum.canRec ch with
  | some cc, some r =>
    setCan (pushFw (fwFrame r s.now { id := ccRsp cc, dlc := 13 + 16 + 32 * b2n (cnMode r == 2), data := e } none ch) (s.canCh ch)) s
  | _, _ => s

/-- A completion leaves for the source of its command. -/
def sendCompletion (src : Src) (tag status : Nat) (led : Bool) (prog result : Nat) (s : State) : State :=
  let head := match src with | .ring n => (s.ring n).dev | _ => 0
  let e := entryBytes tag status led s.clk.onRc prog (result % 2 ^ 64) s.now (srcCode src) head
  match src with
  | .ring n => cqPut (s.ring n).cq e s
  | .can ch => canRespond ch e s
  | .spi => { s with spi := { s.spi with last := e, mailbox := none, mbDone := true } }

/-! The safe-state line (01 R29, 20 R507, R508). -/

/-- Field outputs are armed; SAFE_OUT is high exactly then (19 R493, 20 R506). -/
def State.armed (s : State) : Bool := !s.safe.set

/-- An internal command accepted at an instant enters the decisions of its frame (05 R155). -/
def internalCmdAt (acc op : Nat) (params : Bytes) (eff : Nat) (s : State) : State :=
  let d : Desc := { src := .spi, flags := 0, tag := 0, frame := 0, payload := 0, plen := 0, keySlot := 0, rsv1 := 0, counter := 0
                    rsv2 := 0, check := zeros 8, params := padTo 16 params, data := [], readError := false }
  { s with cmds := s.cmds ++ [{ op, d, acc, eff, tied := true, internal := true, led := none, prog := 0, aux := 0 }] }
/-- One accepted now. -/
def internalCmd (op : Nat) (params : Bytes) (eff : Nat) (s : State) : State := internalCmdAt s.now op params eff s

/-- A cause of Table 20-2 sets the line, or updates it (R507, R508). Link frames carry SAFE = 1 until the apply instant of a
release (R511). -/
def setLine (cause : Nat) (s : State) : State :=
  let f := s.safe
  if f.set then raise 0x0109 (leBytes 1 cause) { s with safe := { f with count := sat 255 (f.count + 1), last := cause, at' := s.now } }
  else
    internalCmd 0x04F2 [] (s.n0 s.now) (raise 0x0109 (leBytes 1 cause) (irq 34
      { s with safe := { f with set := true, count := 1, first := cause, last := cause, at' := s.now }
               field := { s.field with cmd := { s.field.cmd with safe := true } } }))

end Sys2Proof.Machine
end

