-- ==== Sys2Proof/Machine/Nvs.lean ====
section
/-!
DEFINITION. The non-volatile store: two-copy structures, verify failures, uncorrectable words, settings areas, the ledger
(16). A store is one atomic operation of the model (notes/assumptions/15.md).
-/
namespace Sys2Proof.Machine

/-! Two-copy structures (R433-R435). -/

/-- The copy in force (R434). -/
def Two.inForce {α : Type} (t : Two α) : Option (Copy α) :=
  match t.c0, t.c1 with
  | none, none => none
  | some a, none => some a
  | none, some b => some b
  | some a, some b => if later 16 b.gen a.gen then some b else some a

/-- The body in force. -/
def Two.body {α : Type} (t : Two α) : Option α := t.inForce.map Copy.body
/-- GEN in force; 0 for an empty structure. -/
def Two.gen {α : Type} (t : Two α) : Nat := match t.inForce with | some c => c.gen | none => 0

/-- The copy that a store writes: true for copy 1 (R435). -/
def Two.target {α : Type} (t : Two α) : Bool :=
  match t.c0, t.c1 with
  | none, _ => false
  | some _, none => true
  | some a, some b => !later 16 b.gen a.gen

/-- Generation that the next store writes (R435). -/
def Two.nextGen {α : Type} (t : Two α) : Nat := match t.inForce with | some c => (c.gen + 1) % 65536 | none => 1

/-- The structure after a completed store (R435). -/
def Two.put {α : Type} (t : Two α) (x : α) : Two α :=
  let c : Copy α := { gen := t.nextGen, body := x }
  if t.target then { t with c1 := some c } else { t with c0 := some c }

/-- The structure after a store that a verify failure ends: the target copy has no commit word (R435). -/
def Two.spoil {α : Type} (t : Two α) : Two α := if t.target then { t with c1 := none } else { t with c0 := none }

/-- The structure with a copy that has become unreadable (R433). -/
def Two.lose {α : Type} (one : Bool) (t : Two α) : Two α := if one then { t with c1 := none } else { t with c0 := none }

/-! Places (Tables 16-1, 16-2). -/

/-- Where a two-copy structure lies: region code, addresses of the copies, bytes of a copy, words a store writes. -/
structure Place where
  region : Nat
  a0 : Nat
  a1 : Nat
  size : Nat
  words : Nat
deriving DecidableEq, Repr

/-- Region code of an address (Table 16-1). -/
def regionOf (a : Nat) : Nat :=
  if a < 0x280000 then 1 else if a < 0x500000 then 2 else if a < 0x540000 then 3 else if a < 0x580000 then 4
  else if a < 0x5A0000 then 5 else if a < 0x6A0000 then 6 else if a < 0x720000 then 7 else if a < 0x762000 then 8
  else if a < 0x7C0000 then 9 else 10

/-- Bank 1 holds the system region (R432). -/
def isBank1 (region : Nat) : Bool := region == 10

/-- Datum of area `k` (0 S0, 1 S1) with an image of `len` bytes (R438). -/
def placeDatum (k len : Nat) : Place :=
  { region := 3 + k, a0 := 0x500000 + 0x40000 * k, a1 := 0x720000 + 0x21000 * k, size := 0x21000, words := len / 8 }
/-- Item i of area k (R439). -/
def placeItem (k i : Nat) : Place :=
  let a := 0x521000 + 0x40000 * k + 0x4000 * (i - 1)
  { region := 3 + k, a0 := a, a1 := a + 0x2000, size := 0x2000, words := 1023 }
/-- Ledger entry n (Table 16-2). -/
def placeLedger (n : Nat) : Place := { region := 10, a0 := 0x7C7000 + 128 * n, a1 := 0x7C7040 + 128 * n, size := 64, words := 7 }
/-- Key record and counter record of slot k: 128 bytes a copy, counter records 64 bytes a copy (DESIGN CHOICE,
notes/assumptions/17.md). -/
def placeKey (k : Nat) : Place := { region := 10, a0 := 0x7C5000 + 256 * k, a1 := 0x7C5080 + 256 * k, size := 128, words := 15 }
def placeCtr (k : Nat) : Place := { region := 10, a0 := 0x7C6000 + 128 * k, a1 := 0x7C6040 + 128 * k, size := 64, words := 7 }
def placeCosign : Place := { region := 10, a0 := 0x7C5800, a1 := 0x7C5880, size := 128, words := 15 }
/-- Boot, floor and session records (17 Table 17-3). -/
def placeBoot : Place := { region := 10, a0 := 0x7C0000, a1 := 0x7C1000, size := 128, words := 15 }
def placeFloor : Place := { region := 10, a0 := 0x7C2000, a1 := 0x7C2040, size := 64, words := 7 }
def placeSession : Place := { region := 10, a0 := 0x7C2080, a1 := 0x7C2100, size := 128, words := 15 }
/-- Meridian floor (Table 16-2). -/
def placeMerFloor : Place := { region := 10, a0 := 0x7C3000, a1 := 0x7C3800, size := 64, words := 7 }
/-- Lifetime group g (18 R483). -/
def placeLife (g : Nat) : Place :=
  { region := 10, a0 := 0x7CA000 + 0x1000 * g, a1 := 0x7CA800 + 0x1000 * g, size := 0x800, words := 255 }

/-! Verify failures and uncorrectable words. -/

def addWrites (region n : Nat) (s : State) : State :=
  { s with gaz := { s.gaz with life := { s.gaz.life with
      writes := modifyAt (fun w => sat (2 ^ 48 - 1) (w + n)) (region - 1) s.gaz.life.writes } } }

/-- A verify failure (R430). -/
def verifyFail (region addr : Nat) (s : State) : State :=
  raise 0x0C02 (leBytes 1 region ++ zeros 3 ++ leBytes 4 addr) (irq 45 (hit 0x1C00 0 (hitIf (isBank1 region) 0x1C00 2
    { s with nvs := { s.nvs with verifyFail := true, lastRegion := region, bank1Fail := s.nvs.bank1Fail || isBank1 region } })))

/-- An uncorrectable word is found (R428). -/
def ueFound (region addr : Nat) (s : State) : State :=
  raise 0x0C01 (leBytes 1 region ++ zeros 3 ++ leBytes 4 addr) (irq 45 (hit 0x1C00 1 (hitIf (isBank1 region) 0x1C00 2
    { s with nvs := { s.nvs with ue := true, lastRegion := region, bank1Fail := s.nvs.bank1Fail || isBank1 region
                                 ueCnt := sat 65535 (s.nvs.ueCnt + 1) } })))

/-- The first word of a range whose writes do not read back. -/
def deadIn (s : State) (a n : Nat) : Option Nat := s.nvs.deadWords.find? fun w => decide (a ≤ w) && decide (w < a + n)

/-- A write of a range clears the uncorrectable words in it. -/
def freshen (a n : Nat) (s : State) : State :=
  { s with nvs := { s.nvs with ueWords := s.nvs.ueWords.filter fun w => !(decide (a ≤ w) && decide (w < a + n)) } }

/-- A plain write of a range: false when it does not verify (R430). -/
def writeRange (a n : Nat) (s : State) : State × Bool :=
  let r := regionOf a
  match deadIn s a n with
  | some w => (verifyFail r w (addWrites r (n / 8) s), false)
  | none => (freshen a n (addWrites r (n / 8) s), true)

/-- The first word of a copy that a store writes, its body and its commit word, and that does not read back. -/
def copyDead (pl : Place) (a : Nat) (s : State) : Option Nat :=
  match deadIn s a (8 * pl.words) with
  | some w => some w
  | none => deadIn s (a + pl.size - 8) 8

/-- A store into a two-copy structure (R435): the state, the structure, and whether it completed. -/
def storeTwo {α : Type} (pl : Place) (t : Two α) (x : α) (s : State) : State × Two α × Bool :=
  let a := if t.target then pl.a1 else pl.a0
  let s := addWrites pl.region (pl.words + 2) s
  match copyDead pl a s with
  | some w => (verifyFail pl.region w s, t.spoil, false)
  | none => (freshen (a + pl.size - 8) 8 (freshen a (8 * pl.words) s), t.put x, true)

/-- Status of a store: OK or NVS_WRITE (Table 16-10). -/
def stNvsWrite : Nat := 0x0C02
def storeStatus (ok : Bool) : Nat := if ok then stOk else stNvsWrite

/-! The settings area in use (R437). -/

/-- Boot record in force, and the record of the running image. -/
def State.bootRec (s : State) : BootRec := (s.upd.boot.body).getD bootReset
def State.boot (s : State) : BootRec := s.upd.run
/-- An image on trial (17 Table 17-6). -/
def onTrial (b : BootRec) : Bool := b.state == 2
/-- Slot of the running image and its settings format. -/
def State.slot (s : State) : Nat := s.boot.slot
def areaIs (a : Area) (fmt slot : Nat) : Bool := a.area.body == some (fmt, slot)
/-- The area whose AREA item names the running image's slot and format: 0 S0, 1 S1. -/
def State.areaNo (s : State) : Option Nat :=
  if areaIs s.store.s0 s.boot.fmt s.boot.slot then some 0
  else if areaIs s.store.s1 s.boot.fmt s.boot.slot then some 1 else none
def State.areaAt (s : State) (k : Nat) : Area := if k = 0 then s.store.s0 else s.store.s1
/-- The area in use; an absent one reads as empty. -/
def State.area (s : State) : Area := match s.areaNo with | some k => s.areaAt k | none => areaReset
def State.setArea (s : State) (k : Nat) (a : Area) : State :=
  { s with store := if k = 0 then { s.store with s0 := a } else { s.store with s1 := a } }

/-- Stores of the area's items into area k, each by R435; the answer says whether the store completed. -/
def storeLearn (k : Nat) (x : Learn) (s : State) : State × Bool :=
  let q := storeTwo (placeItem k 2) (s.areaAt k).learn x s
  (q.1.setArea k { q.1.areaAt k with learn := q.2.1 }, q.2.2)
def storeStore (k : Nat) (x : List StoreRec) (s : State) : State × Bool :=
  let q := storeTwo (placeItem k 3) (s.areaAt k).store x s
  (q.1.setArea k { q.1.areaAt k with store := q.2.1 }, q.2.2)
def storeFans (k : Nat) (x : List (Nat × List FanBin)) (s : State) : State × Bool :=
  let q := storeTwo (placeItem k 4) (s.areaAt k).fans x s
  (q.1.setArea k { q.1.areaAt k with fans := q.2.1 }, q.2.2)
def storeBase (k : Nat) (x : List (Nat × Nat)) (s : State) : State × Bool :=
  let q := storeTwo (placeItem k 5) (s.areaAt k).base x s
  (q.1.setArea k { q.1.areaAt k with base := q.2.1 }, q.2.2)
def storePlan (k : Nat) (x : Plan) (s : State) : State × Bool :=
  let q := storeTwo (placeItem k 6) (s.areaAt k).plan x s
  (q.1.setArea k { q.1.areaAt k with plan := q.2.1 }, q.2.2)
def storeArea (k : Nat) (x : Nat × Nat) (s : State) : State × Bool :=
  let q := storeTwo (placeItem k 1) (s.areaAt k).area x s
  (q.1.setArea k { q.1.areaAt k with area := q.2.1 }, q.2.2)
def storeDatum (k : Nat) (img : Bytes) (s : State) : State × Bool :=
  let q := storeTwo (placeDatum k img.length) (s.areaAt k).datum img s
  (q.1.setArea k { q.1.areaAt k with datum := q.2.1 }, q.2.2)

/-! The ledger (R441-R446). -/

/-- Entry n in force. -/
def State.led (s : State) (n : Nat) : Option LedEntry := (s.nvs.ledger.getD n noTwo).body
def ledUsed (e : Option LedEntry) : Bool := match e with | some x => x.state != 0 | none => false
def ledLive (e : Option LedEntry) : Bool := match e with | some x => x.state == 1 || x.state == 2 | none => false

/-- Entries not unused (Table 16-11). -/
def State.ledInUse (s : State) : Nat := (s.nvs.ledger.filter fun t => ledUsed t.body).length

/-- The entry that core M takes (R442): the lowest unused, otherwise the ended one with the lowest LSEQ. -/
def ledgerPick (s : State) : Option Nat :=
  let l := (List.range s.nvs.ledger.length).map fun n => (n, s.led n)
  match l.find? fun p => !ledUsed p.2 with
  | some p => some p.1
  | none =>
    ((l.filter fun p => !ledLive p.2).foldl (fun (b : Option (Nat × Nat)) p =>
      let q := match p.2 with | some e => e.lseq | none => 0
      match b with
      | none => some (p.1, q)
      | some x => if later 32 x.2 q then some (p.1, q) else some x) none).map Prod.fst

/-- A change of an entry is a store (R441). -/
def ledgerPut (n : Nat) (e : LedEntry) (s : State) : State :=
  let q := storeTwo (placeLedger n) (s.nvs.ledger.getD n noTwo) e s
  { q.1 with nvs := { q.1.nvs with ledger := setAt n q.2.1 q.1.nvs.ledger } }

def ledgerMap (n : Option Nat) (f : LedEntry → LedEntry) (s : State) : State :=
  match n with
  | none => s
  | some k => match s.led k with | some e => ledgerPut k (f e) s | none => s

/-- The bytes 0-55 of an entry in force (Table 16-6). -/
def ledBytes (e : LedEntry) : Bytes :=
  let b := leBytes 4 e.lseq ++ leBytes 4 e.tag ++ leBytes 2 e.op ++ leBytes 1 e.state ++ leBytes 1 e.keySlot ++ leBytes 2 e.sq ++
    leBytes 2 e.target ++ leBytes 4 e.counter ++ leBytes 2 e.tgtGen ++ leBytes 2 e.status ++ leBytes 8 e.accAt ++
    leBytes 8 e.frame ++ leBytes 4 e.prog ++ leBytes 4 e.total
  b ++ leBytes 4 (crc32 b) ++ zeros 4

end Sys2Proof.Machine
end

