-- ==== Sys2Proof/Machine/Auth.lean ====
section
/-!
DEFINITION. Command authentication: key slots, the check, the judgement of a CRIT descriptor, lockout, keys (15).
-/
namespace Sys2Proof.Machine

/-! Key slots (R412, R413). -/

def keyRec0 : KeyRec := { key := none, mask := 0, installs := 0 }
def ctrRec0 : CtrRec := { last := 0, fails := 0, level := 0, lockEnd := 0 }

def State.kslot (s : State) (n : Nat) : KeySlot := s.auth.slots.getD n keySlotReset
def State.keyRec (s : State) (n : Nat) : KeyRec := ((s.kslot n).key.body).getD keyRec0
def State.ctrRec (s : State) (n : Nat) : CtrRec := ((s.kslot n).ctr.body).getD ctrRec0
def State.cosign (s : State) : Cosign := (s.auth.cosign.body).getD { key := none, require := false }

def State.setSlot (s : State) (n : Nat) (k : KeySlot) : State := { s with auth := { s.auth with slots := setAt n k s.auth.slots } }

/-- A slot is locked until its recorded end (R420). -/
def State.locked (s : State) (n : Nat) : Bool := decide (s.now < (s.ctrRec n).lockEnd)
/-- Consecutive failures: 0 again when a lock has ended (R420). -/
def State.fails (s : State) (n : Nat) : Nat :=
  let c := s.ctrRec n
  if c.lockEnd ≠ 0 ∧ c.lockEnd ≤ s.now then 0 else c.fails

/-- A slot is reported exhausted (R419). -/
def State.exhausted (s : State) (n : Nat) : Bool :=
  let c := (s.ctrRec n).last
  c == 0xFFFFFFFF || (n == 0 && c == 0xFFFFFFFE)

/-- A command whose block the slot's mask allows (R412): KS0 the Authentication block only, KS1-KS7 never it. -/
def maskAllows (n mask block : Nat) : Bool :=
  if n = 0 then block == 11 else block != 11 && decide (1 ≤ block) && decide (block ≤ 14) && bit mask block

/-- Stores of a slot's records (R413). -/
def storeCtr (n : Nat) (c : CtrRec) (s : State) : State × Bool :=
  let q := storeTwo (placeCtr n) (s.kslot n).ctr c s
  (q.1.setSlot n { q.1.kslot n with ctr := q.2.1 }, q.2.2)
/-- A key record and, in the same commit, the counter record at zero (R422). -/
def storeKey (n : Nat) (k : KeyRec) (s : State) : State × Bool :=
  let q := storeTwo (placeKey n) (s.kslot n).key k s
  if q.2.2 then (q.1.setSlot n { key := q.2.1, ctr := (q.1.kslot n).ctr.put ctrRec0 }, true)
  else (q.1.setSlot n { q.1.kslot n with key := q.2.1 }, false)
/-- The owner key record (R426). -/
def storeCosign (k : Cosign) (s : State) : State × Bool :=
  let q := storeTwo placeCosign s.auth.cosign k s
  ({ q.1 with auth := { q.1.auth with cosign := q.2.1 } }, q.2.2)

/-! The check (R414). -/

/-- Descriptor bytes 0-39. -/
def descHead (op : Nat) (d : Desc) : Bytes :=
  leBytes 2 op ++ leBytes 2 d.flags ++ leBytes 4 d.tag ++ leBytes 8 d.frame ++ leBytes 8 d.payload ++ leBytes 4 d.plen ++
  leBytes 1 d.keySlot ++ leBytes 3 d.rsv1 ++ leBytes 4 d.counter ++ leBytes 4 d.rsv2
/-- The 64 bytes of a descriptor (13 Table 13-2). -/
def descBytes (op : Nat) (d : Desc) : Bytes := descHead op d ++ padTo 8 d.check ++ padTo 16 d.params
/-- The message of the check (R414); `data` are the PLEN payload bytes. -/
def checkMessage (op : Nat) (d : Desc) (data : Bytes) : Bytes := descHead op d ++ padTo 16 d.params ++ data
/-- CHECK equals the first eight octets of the CMAC. -/
def checkOk (key : Bytes) (op : Nat) (d : Desc) (data : Bytes) : Bool :=
  (cmac key (checkMessage op d data)).take 8 == padTo 8 d.check

/-! Judgement (R416, Table 15-1). -/

def stKeyTarget : Nat := 0x0B01
def stKeyEmpty : Nat := 0x0B02
def stKeyRole : Nat := 0x0B03
def stKeyExhausted : Nat := 0x0B04
def stKeyWrap : Nat := 0x0B05
def stCosignFormat : Nat := 0x0B06
def opKeyChange : Nat := 0x0B02

/-- Lock time of a level in seconds (R420). -/
def lockSeconds (l : Nat) : Nat := min 3600 (60 * 2 ^ (l - 1))

/-- The slot refuses the opcode as exhausted (R419). -/
def exhaustedFor (last n op target : Nat) : Bool :=
  last == 0xFFFFFFFF || (n == 0 && last == 0xFFFFFFFE && !(op == opKeyChange && target == 0))

/-- A failure of step 4 is counted and committed; the sixteenth locks the slot (R420). -/
def countFailure (n : Nat) (s : State) : State :=
  let c := s.ctrRec n
  let f := s.fails n + 1
  let c := if f < 16 then { c with fails := f, lockEnd := 0 }
           else { c with fails := 16, level := min 7 (c.level + 1), lockEnd := s.now + lockSeconds (min 7 (c.level + 1)) * 2 ^ 24 }
  (storeCtr n c s).1

/-- The judgement of a CRIT descriptor: the state after it and the status of a failing step. -/
def judgeCrit (op : Nat) (d : Desc) (data : Bytes) (s : State) : State × Option Nat :=
  let n := d.keySlot
  if 7 < n then (s, some stKeyTarget)
  else if s.locked n then (s, some stSlotLocked)
  else
    match (s.keyRec n).key with
    | none => (s, some stKeyEmpty)
    | some key =>
      if checkOk key op d data = false then (countFailure n s, some stAuthFail)
      else if exhaustedFor (s.ctrRec n).last n op (u8 d.params 0) then (s, some stKeyExhausted)
      else if d.counter ≤ (s.ctrRec n).last then (s, some stCounterStale)
      else if maskAllows n (s.keyRec n).mask (op / 256) = false then (s, some stKeyRole)
      else
        let q := storeCtr n { last := d.counter, fails := 0, level := 0, lockEnd := 0 } s
        (q.1, if q.2 then none else some stNvsWrite)

/-- A lock reaches its end: the failure count returns to 0 (R420). -/
def lockEnds (n : Nat) (s : State) : State :=
  let c := s.ctrRec n
  if c.lockEnd ≠ 0 ∧ c.lockEnd ≤ s.now then (storeCtr n { c with fails := 0, lockEnd := 0 } s).1 else s

/-- After a power-on that follows loss of the always-on domain, a slot with a level is locked again for its full time,
counted from READY (R421). -/
def relock (s : State) : State :=
  (List.range 8).foldl (fun a n =>
    let c := a.ctrRec n
    if c.level = 0 then a
    else (storeCtr n { c with fails := 16, lockEnd := a.now + lockSeconds c.level * 2 ^ 24 } a).1) s

/-! Key commands (Table 15-5). -/

/-- KEY_STATUS of slot n. -/
def keyStatusWord (s : State) (n : Nat) : Nat :=
  let k := s.keyRec n
  let c := s.ctrRec n
  b2n k.key.isSome + 2 * b2n (s.locked n) + 4 * b2n (s.exhausted n) + 16 * c.level + 256 * s.fails n + 65536 * k.mask + 2 ^ 32 * c.last

/-- The mask that an installed key takes (R412): fixed for KS0; bits 1 to 14 without 11 otherwise. -/
def installMask (n v : Nat) : Nat := if n = 0 then 0x0800 else maskOf 15 fun b => bit v b && decide (1 ≤ b) && b != 11

/-- A key goes into slot n: the state, the status and the install count (R422, R424). -/
def installKey (n mask : Nat) (key : Bytes) (s : State) : State × Nat × Nat :=
  let k := s.keyRec n
  let q := storeKey n { key := some key, mask := installMask n mask, installs := k.installs + 1 } s
  (q.1, storeStatus q.2, if q.2 then k.installs + 1 else 0)

end Sys2Proof.Machine
end

