-- ==== Sys2Proof/Machine/Mem.lean ====
section
/-!
DEFINITION. Addressed storage of the block: the SPI buffer (13 R390) and the two image slots (17 Table 17-3), as cells of
bytes that are not 0, addresses strictly rising; an address that is not listed reads 0 (notes/assumptions/7.md).
-/
namespace Sys2Proof.Machine

/-- The byte at an address. -/
def memByte (a : Nat) : List Host.Cell → Byte
  | [] => 0
  | (b, v) :: r => if b = a then v else memByte a r

/-- `n` bytes from an address on. -/
def memRead (m : List Host.Cell) (a n : Nat) : Bytes := (List.range n).map fun i => memByte (a + i) m

/-- The cells of a byte string laid down from an address on. -/
def cellsFrom (a : Nat) : Bytes → List Host.Cell
  | [] => []
  | v :: r => if v = 0 then cellsFrom (a + 1) r else (a, v) :: cellsFrom (a + 1) r

/-- A byte string is written from an address on. -/
def memWrite (m : List Host.Cell) (a : Nat) (b : Bytes) : List Host.Cell :=
  (m.filter fun c => decide (c.1 < a)) ++ cellsFrom a b ++ m.filter fun c => decide (a + b.length ≤ c.1)

/-- Addresses strictly rise, all at or above `lo`, and no listed byte is 0. -/
def cellsOk (lo : Nat) : List Host.Cell → Bool
  | [] => true
  | (a, v) :: r => decide (lo ≤ a) && v != 0 && cellsOk (a + 1) r

/-- The canonical form. -/
def Memory.wf (m : List Host.Cell) : Bool := cellsOk 0 m

end Sys2Proof.Machine
end

