-- ==== Sys2Proof/Machine/Cmd.lean ====
section
/-!
DEFINITION. The flow of a host command: taking, the checks of its descriptor, judgement, the ledger, acceptance, effective
frame, completion (13 R372-R377, R540; 15 R415, R416; 16 R442, R443; 02 R57, R60, R74).
-/
namespace Sys2Proof.Machine

/-- What the tables say of an opcode. -/
structure Spec where
  op : Nat
  /-- marked critical -/
  crit : Bool
  /-- FRAME and AT_FRAME: 0 neither, 1 frame-tied, 2 FRAME without AT_FRAME (R372) -/
  frame : Nat
  /-- least PLEN, and whether it is the only one -/
  need : Nat
  exact : Bool
  /-- taken in REPLAY (02 R74) -/
  query : Bool
  /-- long-running: it has a ledger entry in every case (R385) -/
  long : Bool
deriving DecidableEq, Repr

/-- A query. -/
def specQuery (op : Nat) : Spec := { op, crit := false, frame := 0, need := 0, exact := false, query := true, long := false }
/-- A plain command that is no query. -/
def specPlain (op : Nat) : Spec := { op, crit := false, frame := 0, need := 0, exact := false, query := false, long := false }
/-- A critical command that is not frame-tied. -/
def specCrit (op : Nat) : Spec := { op, crit := true, frame := 0, need := 0, exact := false, query := false, long := false }
/-- A frame-tied command. -/
def specTied (op : Nat) (crit : Bool) : Spec := { op, crit, frame := 1, need := 0, exact := false, query := false, long := false }

/-! Descriptor fields. -/
def flCrit (d : Desc) : Bool := bit d.flags 15
def flFence (d : Desc) : Bool := bit d.flags 14
def flAtFrame (d : Desc) : Bool := bit d.flags 13
/-- Inline parameters. -/
def p8 (d : Desc) (o : Nat) : Nat := u8 d.params o
def p16 (d : Desc) (o : Nat) : Nat := u16 d.params o
def p32 (d : Desc) (o : Nat) : Nat := u32 d.params o
def p64 (d : Desc) (o : Nat) : Nat := u64 d.params o

/-- Opcode block (Table 13-5). -/
def opBlock (op : Nat) : Nat := op / 256

/-- What R391 lets through the SPI mailbox. -/
def spiOp (op : Nat) : Bool := op == 0x0101 || opBlock op == 0x0D || opBlock op == 0x0E
/-- The staged path (17 R466). -/
def stagedOp (op : Nat) : Bool := decide (0x0D10 ≤ op) && decide (op ≤ 0x0D13)

/-! Taking (R373, R374, R370). -/

/-- The trial window is over: the deciding instant has come (17 R464). -/
def trialOver (s : State) : Bool := match s.upd.trialEnd with | some e => decide (e ≤ s.now) && onTrial s.boot | none => false

/-- Core M takes commands from a source now: it runs, no fallback or ordered reset has come; in a WATCH cycle and in ROM recovery
the SPI mailbox only (02 R60; 17 R459, R464). -/
def sourceOpen (src : Src) (s : State) : Bool :=
  s.awake && !s.resetNow && !trialOver s && !s.clk.held.contains 0 && decide (s.pwr.cycle ≠ some none) &&
    ((s.pwr.cycle.isNone && !s.upd.recovery) || src == .spi)

/-- The descriptor is the one that its source offers next, and its ring's fences and held completions let it go. -/
def offered (op : Nat) (d : Desc) (s : State) : Bool :=
  match d.src with
  | .ring n =>
    let x := s.ring n
    let mine := s.cmds.filter fun c => c.d.src == .ring n && !c.internal
    decide (n < 16) && x.enable && decide (0 < x.waiting) && !(s.hif.held.any fun p => p.1 == x.cq) &&
      !(mine.any fun c => flFence c.d) && (!flFence d || mine.isEmpty)
  | .can ch => (s.canCh ch).reqs.head? == some (descBytes op d)
  | .spi => s.spi.mailbox == some (descBytes op d) && !(s.cmds.any fun c => c.d.src == .spi && !c.internal)

/-- The descriptor leaves its source; the mailbox keeps its own until it completes (R391). -/
def takeOut (d : Desc) (s : State) : State :=
  match d.src with
  | .ring n => writeShadow n (s.setRing n { s.ring n with dev := (s.ring n).next (s.ring n).dev })
  | .can ch => setCan { s.canCh ch with reqs := (s.canCh ch).reqs.drop 1 } s
  | .spi => s

/-- The payload bytes, when the read succeeds: over SPI they come from the buffer (R375, R391). -/
def payloadOf (d : Desc) (s : State) : Option Bytes :=
  match d.src with
  | .spi => if d.payload + d.plen ≤ 65536 then some (memRead s.spi.buffer d.payload d.plen) else none
  | _ => if d.readError then none else some (padTo d.plen d.data)

/-! Checks at taking. -/

/-- R372: reserved fields, check fields without CRIT, FRAME and AT_FRAME where the opcode takes neither. -/
def badDescriptor (k : Spec) (d : Desc) : Bool :=
  decide (d.rsv1 ≠ 0) || decide (d.rsv2 ≠ 0) || decide (d.flags % 8192 ≠ 0) ||
  (!flCrit d && (decide (d.keySlot ≠ 0) || decide (d.counter ≠ 0) || decide (padTo 8 d.check ≠ zeros 8))) ||
  (k.frame == 0 && (decide (d.frame ≠ 0) || flAtFrame d))

/-- TAG_IN_USE (R375). -/
def tagInUse (d : Desc) (s : State) : Bool := s.cmds.any fun c => c.d.src == d.src && c.d.tag == d.tag && !c.internal

/-- A command that READY gates (19 R492); the recovery ROM takes SYS_INFO and the staged path (17 R459). -/
def notReady (op : Nat) (s : State) : Bool := !s.hif.ready && op != 0x0101 && !(s.upd.recovery && stagedOp op)

/-- AT_FRAME_REFUSED of the block (R372; 03 R116, R117, 13 R387). -/
def atFrameRefused (op : Nat) : Nat := if opBlock op = 1 then 0x0107 else 0x0308

/-- The first check of taking that fails (the order among them: notes/assumptions/18.md). -/
def refuseAtTaking (k : Spec) (d : Desc) (pay : Option Bytes) (s : State) : Option Nat :=
  if notReady k.op s then some stNotReady
  else if badDescriptor k d then some stBadDescriptor
  else if tagInUse d s then some stTagInUse
  else if d.src = .spi ∧ spiOp k.op = false then some stSpiRefused
  else if canRefused ≠ none then canRefused
  else if (d.payload = 0 ∧ d.plen ≠ 0) ∨ d.plen < k.need ∨ (k.exact = true ∧ d.plen ≠ k.need) ∨ pay = none then some stPayloadError
  else if k.crit ∧ flCrit d = false then some stAuthFail
  else none
where
  /-- CAN_PAYLOAD and CAN_BLOCK (12 R356). -/
  canRefused : Option Nat :=
    match d.src with
    | .can ch =>
      if d.payload ≠ 0 ∨ d.plen ≠ 0 then some 0x0A05
      else if (match s.datum.canCmd ch with | some r => bit (ccAllow r) (opBlock k.op) | none => false) then none
      else some 0x0A06
    | _ => none

/-! The ledger entry of a command (16 R442, R443). -/

/-- The command has a ledger entry (R385, 15 R416). -/
def ledgered (k : Spec) (d : Desc) : Bool := k.crit || k.long || flCrit d

def newEntry (s : State) (k : Spec) (d : Desc) (a e total : Nat) : LedEntry :=
  { lseq := (s.nvs.lseq + 1) % 2 ^ 32, tag := d.tag, op := k.op, state := 1, keySlot := if flCrit d then d.keySlot else 0xFF
    sq := srcCode d.src, target := 0, counter := if flCrit d then d.counter else 0, tgtGen := 0, status := 0, accAt := a
    frame := e, prog := 0, total }

/-- TOTAL, where the progress at completion is known at acceptance (16 Table 16-6): the items of SETTINGS_COMMIT, the bytes that
MAP_RESTORE stages and that ENTER_REPLAY loads. -/
def totalOf (op : Nat) (d : Desc) : Nat := if op = 0x0C02 then 3 else if op = 0x0327 ∨ op = 0x0208 then d.plen else 0

/-- The entry in state ACCEPTED. -/
def openEntry (n : Option Nat) (k : Spec) (d : Desc) (a e : Nat) (s : State) : State :=
  match n with
  | none => s
  | some i => ledgerPut i (newEntry s k d a e (totalOf k.op d)) { s with nvs := { s.nvs with lseq := (s.nvs.lseq + 1) % 2 ^ 32 } }

/-- Work begins (R443). -/
def ledRun (n : Option Nat) (s : State) : State := ledgerMap n (fun e => { e with state := 2 }) s
/-- TARGET and TARGET_GEN, before the first write of the target's body (R441). -/
def ledTarget (n : Option Nat) (target gen : Nat) (s : State) : State :=
  ledgerMap n (fun e => { e with target := target, tgtGen := gen }) s
/-- The same, with the bytes that the checked body has: TOTAL. -/
def ledStart (n : Option Nat) (target gen total : Nat) (s : State) : State :=
  ledgerMap n (fun e => { e with target := target, tgtGen := gen, total := total }) s
/-- The end of a command in the ledger (R443). -/
def ledEnd (n : Option Nat) (status prog : Nat) (s : State) : State :=
  ledgerMap n (fun e => { e with state := if status = stOk ∨ status = stPartial then 3 else 4, status := status, prog := prog }) s

/-! Completion (R376). -/

/-- The command ends with a status, work done and a result; its entry leaves the list of incomplete commands. -/
def finish (c : Cmd) (status prog result : Nat) (s : State) : State :=
  let s := ledEnd c.led status prog s
  let s := { s with cmds := s.cmds.erase c }
  if c.internal then s else sendCompletion c.d.src c.d.tag status c.led.isSome prog result s

/-- How a command goes on when it has been accepted. -/
inductive Next where
  /-- it completes now -/
  | done (s : State) (status prog result : Nat)
  /-- it stays incomplete -/
  | wait (s : State) (c : Cmd)

/-- A refusal after acceptance. -/
def refuse (status : Nat) (s : State) : Next := .done s status 0 0
/-- Completion with OK and a result. -/
def okResult (r : Nat) (s : State) : Next := .done s stOk 0 r

/-- Data goes to the payload address (R368, R391). -/
def putData (d : Desc) (b : Bytes) (s : State) : State :=
  if b = [] then s
  else match d.src with
    | .ring _ => post d.payload b s
    | .can _ => s
    | .spi => { s with spi := { s.spi with buffer := memWrite s.spi.buffer d.payload b } }

/-- The data fits at the payload address (R540). -/
def fits (d : Desc) (b : Bytes) : Bool := decide (b.length ≤ d.plen)

/-- A query that writes data: PAYLOAD_ERROR and nothing written where it does not fit (R540). -/
def answer (c : Cmd) (b : Bytes) (result : Nat) (s : State) : Next :=
  if fits c.d b then .done (putData c.d b s) stOk 0 result else refuse stPayloadError s

/-! Acceptance. -/

/-- Effective frame (02 R57): the frame, or the status that refuses it. An AT_FRAME with FRAME 0 gives N0
(notes/assumptions/13.md). -/
def effFrame (s : State) (d : Desc) (a : Nat) : Nat × Option Nat :=
  let n0 := s.n0 a
  let e := if d.frame = 0 then n0 else if flAtFrame d then d.frame else max d.frame n0
  if flAtFrame d = true ∧ d.frame ≠ 0 ∧ s.closing d.frame ≤ a then (e, some 0x0202)
  else if n0 + 2 ^ 20 < e then (e, some 0x0203)
  else (e, none)

/-- What every accepted command meets before its chapter's own checks (02 R57, R60, R74; AT_FRAME_REFUSED is a status of the opcode's
block, so it comes after the judgement). -/
def refuseAccepted (k : Spec) (d : Desc) (s : State) : Nat × Option Nat :=
  if s.rpl.active = true ∧ k.query = false then (0, some 0x0208)
  else if k.frame = 2 ∧ flAtFrame d = true then (0, some (atFrameRefused k.op))
  else if k.frame = 1 then
    let q := effFrame s d s.now
    if q.2 ≠ none then q
    else match s.pwr.move with
      | some m => if m.2 < q.1 then (q.1, some stSleepPending) else q
      | none => q
  else (0, none)

/-- A command is accepted at the present instant and goes on. -/
def accept (k : Spec) (go : Cmd → State → Next) (d : Desc) (led : Option Nat) (s : State) : State :=
  let q := refuseAccepted k d s
  let s1 := openEntry led k d s.now q.1 s
  let c : Cmd := { op := k.op, d, acc := s.now, eff := q.1, tied := k.frame == 1, internal := false, led, prog := 0, aux := 0 }
  match q.2 with
  | some st => finish c st 0 0 s1
  | none =>
    match go c (if k.frame = 1 then s1 else ledRun led s1) with
    | .done s2 st prog r => finish c st prog r s2
    | .wait s2 c' => { s2 with cmds := s2.cmds ++ [c'] }

/-- A command that has been taken out of its source: its checks, its ledger entry, its judgement, its acceptance. -/
def take (k : Spec) (go : Cmd → State → Next) (d0 : Desc) (s : State) : State :=
  let pay := payloadOf d0 s
  let d := { d0 with data := pay.getD [] }
  match refuseAtTaking k d pay s with
  | some st => sendCompletion d.src d.tag st false 0 0 s
  | none =>
    let pick := if ledgered k d then ledgerPick s else none
    if ledgered k d = true ∧ pick = none then sendCompletion d.src d.tag 0x0C01 false 0 0 s
    else if flCrit d then
      match judgeCrit k.op d d.data s with
      | (s1, some st) => sendCompletion d.src d.tag st false 0 0 s1
      | (s1, none) => accept k go d pick s1
    else accept k go d pick s

/-- A host command comes: core M takes it when its source offers it, and then works on it. -/
def command (k : Spec) (go : Cmd → State → Next) (d : Desc) (s : State) : State :=
  if sourceOpen d.src s && offered k.op d s then take k go d (takeOut d s) else s

/-! Opcodes that no command has (R377; 05 R190). -/

/-- The opcodes of the command tables, as ranges. -/
def opRanges : List (Nat × Nat) :=
  [(0x0101, 0x0106), (0x0120, 0x0123), (0x0130, 0x0132), (0x0201, 0x020A), (0x0301, 0x0305), (0x0320, 0x0327), (0x0401, 0x040E),
   (0x0501, 0x0507), (0x0601, 0x0605), (0x0620, 0x0625), (0x0701, 0x0704), (0x0801, 0x0806), (0x0901, 0x0905), (0x0A01, 0x0A06),
   (0x0B01, 0x0B05), (0x0C01, 0x0C03), (0x0D01, 0x0D09), (0x0D10, 0x0D13), (0x0E01, 0x0E07)]
def opDefined (op : Nat) : Bool := opRanges.any fun r => decide (r.1 ≤ op) && decide (op ≤ r.2)
/-- The internal commands (05 Table 5-16, 19 R496). -/
def opInternal (op : Nat) : Bool := op == 0x01F0 || (decide (0x04F0 ≤ op) && decide (op ≤ 0x04F3))
/-- The status of an opcode that no row takes: ABORTED for an internal one, BAD_OPCODE for any other (its order among the checks:
notes/assumptions/18.md). -/
def strayStatus (op : Nat) (s : State) : Nat :=
  if notReady op s then stNotReady else if opInternal op then stAborted else stBadOpcode
/-- Core M answers a descriptor with such an opcode. -/
def answerStray (src : Src) (b : Bytes) (s : State) : State := sendCompletion src (u32 b 4) (strayStatus (u16 b 0) s) false 0 0 s
def strayDesc (b : Bytes) : Bool := !opDefined (u16 b 0)

/-- The mailbox's descriptor, where no row takes it. -/
def strayMailbox (s : State) : State :=
  match s.spi.mailbox with
  | some b => if strayDesc b && sourceOpen .spi s then answerStray .spi b s else s
  | none => s
/-- A CAN channel's requests that no row takes. -/
def strayRequests (ch : Nat) (s : State) : State :=
  let c := s.canCh ch
  if sourceOpen (.can ch) s then
    (c.reqs.filter strayDesc).foldl (fun a b => answerStray (.can ch) b a) (setCan { c with reqs := c.reqs.filter fun b => !strayDesc b } s)
  else s

/-- A frame-tied command that passes the checks that depend on it and the Datum waits for its frame E. -/
def waitFrame (c : Cmd) (s : State) : Next := .wait s c

end Sys2Proof.Machine
end

