-- ==== Sys2Proof/Machine/DatumField.lean ====
section
/-!
DEFINITION. Fields of the valve, fan, universal channel and domain F records (09 Table 9-2, 10 Table 10-2, 11 Tables
11-1, 11-2).
-/
namespace Sys2Proof.Machine

/-! Valve channel record (09 Table 9-2). -/
def vaCh (r : Bytes) : Nat := u8 r 0
def vaEnabled (r : Bytes) : Bool := bit (u8 r 1) 0
def vaLatched (r : Bytes) : Bool := bit (u8 r 1) 1
def vaMoveEn (r : Bytes) : Bool := bit (u8 r 1) 2
def vaSafe (r : Bytes) : Nat := bits (u8 r 1) 4 3
def vaClamp (r : Bytes) : Nat := bits (u8 r 2) 1 0
def vaChop (r : Bytes) : Nat := u8 r 3
def vaShunt (r : Bytes) : Nat := u32 r 4
def vaIPeak (r : Bytes) : Nat := u16 r 8
def vaIHold (r : Bytes) : Nat := u16 r 10
def vaIHoldMin (r : Bytes) : Nat := u16 r 12
/-- Full-scale current, mA: 102.4 mV / SHUNT (R270). -/
def vaFull (r : Bytes) : Nat := 102400000 / vaShunt r
def vaOcLimit (r : Bytes) : Nat := dflt (u16 r 14) (min (3 * vaIPeak r / 2) (vaFull r))
def vaTPeakMax (r : Bytes) : Nat := u16 r 16
def vaDwell (r : Bytes) : Nat := u16 r 18
def vaDefer (r : Bytes) : Nat := u16 r 20
def vaTDet (r : Bytes) : Nat := dflt (u16 r 22) 20
def vaIDet (r : Bytes) : Nat := dflt (u16 r 24) (vaIHold r / 8)
def vaMoveMin (r : Bytes) : Nat := u16 r 26
def vaR20 (r : Bytes) : Nat := u32 r 28
def vaRthWh (r : Bytes) : Nat := u16 r 32
def vaRthHa (r : Bytes) : Nat := u16 r 34
def vaCthW (r : Bytes) : Nat := u16 r 36
def vaCthH (r : Bytes) : Nat := u16 r 38
def vaTWarn (r : Bytes) : Int := s16 r 40
def vaTReduce (r : Bytes) : Int := s16 r 42
def vaTCut (r : Bytes) : Int := s16 r 44
def vaAmb (r : Bytes) : Nat := u16 r 46
def vaCorr (r : Bytes) : Nat := u16 r 48
def vaMoveSrc (r : Bytes) : Nat := u16 r 50
/-- Clamp voltage, mV. -/
def vaClampMv (r : Bytes) : Nat := 24000 + 12000 * vaClamp r

/-! Fan channel record (10 Table 10-2). -/
def fnEnabled (r : Bytes) : Bool := bit (u8 r 1) 0
def fnRef (r : Bytes) : Bool := bit (u8 r 1) 1
def fnHostTable (r : Bytes) : Bool := bit (u8 r 1) 2
def fnLatched (r : Bytes) : Bool := bit (u8 r 1) 3
def fnReverse (r : Bytes) : Bool := bit (u8 r 1) 4
def fnSource (r : Bytes) : Nat := u8 r 2
def fnPpr (r : Bytes) : Nat := u8 r 3
def fnSafe (r : Bytes) : Nat := u8 r 4
def fnBand (r : Bytes) : Nat := dflt (u8 r 5) 30
def fnFsw (r : Bytes) : Nat := u16 r 6
def fnShunt (r : Bytes) : Nat := u32 r 8
def fnVMax (r : Bytes) : Nat := u16 r 12
def fnVStart (r : Bytes) : Nat := u16 r 14
def fnILimit (r : Bytes) : Nat := u16 r 16
/-- I_STALL; 0 gives divr(3 × I_LIMIT, 4). -/
def fnIStall (r : Bytes) : Nat := dflt (u16 r 18) ((6 * fnILimit r + 4) / 8)
def fnIOpen (r : Bytes) : Nat := dflt (u16 r 20) 50
def fnSlew (r : Bytes) : Nat := u16 r 22
def fnSlewMax (r : Bytes) : Nat := u16 r 24
/-- T_START, 0.1 s. -/
def fnTStart (r : Bytes) : Nat := dflt (u16 r 26) 20
/-- T_RETRY, s. -/
def fnTRetry (r : Bytes) : Nat := dflt (u16 r 28) 30
def fnXslot (r : Bytes) : Nat := u16 r 30
def fnTSet (r : Bytes) : Int := s16 r 32
def fnTOff (r : Bytes) : Nat := u16 r 34
def fnKp (r : Bytes) : Nat := u16 r 36
def fnKi (r : Bytes) : Nat := u16 r 38
def fnRMin (r : Bytes) : Nat := u16 r 40
def fnRMax (r : Bytes) : Nat := u16 r 42
def fnSafeLevel (r : Bytes) : Nat := u16 r 44
/-- Skip bands in use: LO, HI. -/
def fnSkips (r : Bytes) : List (Nat × Nat) :=
  ((List.range 4).map fun k => (u16 r (48 + 4 * k), u16 r (50 + 4 * k))).filter fun p => p != (0, 0)
def fnTblN (r : Bytes) : Nat := u8 r 64
/-- Table points: temperature, reference. -/
def fnTable (r : Bytes) : List (Int × Nat) := (List.range (fnTblN r)).map fun k => (s16 r (68 + 4 * k), u16 r (70 + 4 * k))
/-- r_start (10, after Table 10-2). -/
def fnRStart (r : Bytes) : Nat := if fnRef r then 0 else (fnVStart r * 65536 + fnVMax r - 1) / fnVMax r

/-! Universal channel record (11 Table 11-1) and domain F record (Table 11-2). -/
def ucRole (r : Bytes) : Nat := u8 r 1
def ucType3 (r : Bytes) : Bool := bit (u8 r 2) 0
def ucWbEn (r : Bytes) : Bool := bit (u8 r 2) 1
def ucEdge (r : Bytes) : Bool := bit (u8 r 2) 2
def ucLatched (r : Bytes) : Bool := bit (u8 r 2) 3
def ucOffDiag (r : Bytes) : Bool := bit (u8 r 2) 4
def ucSafe (r : Bytes) : Nat := bits (u8 r 2) 6 5
def ucPar (r : Bytes) : Nat := dflt (u8 r 3) 1
def ucSperiod (r : Bytes) : Nat := u8 r 4
def ucCeil (r : Bytes) : Nat := u8 r 5
def ucSource (r : Bytes) : Nat := u8 r 6
def ucRated (r : Bytes) : Nat := u16 r 8
def ucOlTime (r : Bytes) : Nat := dflt (u16 r 10) 10
def ucIsIn (r : Bytes) : Bool := ucRole r == 1
def ucIsOut (r : Bytes) : Bool := ucRole r == 2 || ucRole r == 3
def ucIsPwm (r : Bytes) : Bool := ucRole r == 3

/-- UV_WARN and UV_OFF in force, mV; the defaults until the first load. -/
def Datum.uvWarn (d : Datum) : Nat := dflt (u16 ((d.recs tyDomF).headD []) 0) 19000
def Datum.uvOff (d : Datum) : Nat := dflt (u16 ((d.recs tyDomF).headD []) 2) 15000

/-- The enabled valve record of a channel. -/
def Datum.valveRec (d : Datum) (ch : Nat) : Option Bytes := (d.recs tyValve).find? fun r => vaCh r == ch && vaEnabled r
/-- The enabled fan record of a channel. -/
def Datum.fanRec (d : Datum) (ch : Nat) : Option Bytes := (d.recs tyFan).find? fun r => fnCh r == ch && fnEnabled r
/-- The record of a channel that has one and is no FOLLOWER. -/
def Datum.uioLead (d : Datum) (ch : Nat) : Option Bytes := (d.recs tyUio).find? fun r => ucCh r == ch && ucRole r != 4

end Sys2Proof.Machine
end

