-- ==== Sys2Proof/Machine/Probes.lean ====
section
/-!
DEFINITION. The tone chain, moisture cells, linearisation and the impedance check's arithmetic (08).
-/
namespace Sys2Proof.Machine

/-! Tables of round(16384 × cos) and round(16384 × sin), half up (R251), by an exact series in units of 2^-100. -/

/-- 2π in units of 2^-100. -/
def twoPi : Int := 7964883625991394727376702227904

/-- Sum of the alternating power series of cos (first = 0) or sin (first = 1) at x, both in units of 2^-100. -/
def trigSeries (x2 : Int) : Nat → Nat → Int → Int → Int
  | 0, _, _, acc => acc
  | n + 1, j, term, acc =>
    trigSeries x2 n (j + 2) (-(term * x2 / 2 ^ 100) / ((j + 1 : Nat) * (j + 2 : Nat) : Int)) (acc + term)

/-- cos and sin of 2π × n / N, units of 2^-100. -/
def cosRaw (N n : Nat) : Int :=
  let x := twoPi * (n : Int) / (N : Int)
  trigSeries (x * x / 2 ^ 100) 40 0 (2 ^ 100) 0
def sinRaw (N n : Nat) : Int :=
  let x := twoPi * (n : Int) / (N : Int)
  trigSeries (x * x / 2 ^ 100) 40 1 x 0

/-- round(16384 × v), half up; the exact values 0, 1 and -1 come out exact. -/
def trig14 (v : Int) : Int := (v + 2 ^ 85) / 2 ^ 86

def cosTab (N : Nat) : List Int := (List.range N).map fun n => trig14 (cosRaw N n)
def sinTab (N : Nat) : List Int := (List.range N).map fun n => trig14 (sinRaw N n)

/-- sum over n of d[n] × tab[n mod N] (R251): `fuel` whole cycles. -/
def correlate (tab : List Int) : Nat → List Int → Int
  | 0, _ => 0
  | f + 1, d => ((d.zip tab).foldl (fun a p => a + p.1 * p.2) 0) + correlate tab f (d.drop tab.length)

/-- Transimpedance of a TIA code, Ω (Table 8-1). -/
def tiaOhm (c : Nat) : Nat := 250 * 4 ^ c

def trimTg (k tia : Nat) : Int := (Config.trimG k tia % 65536 : Nat)
def trimTc (k tia : Nat) : Int := toS 16 (Config.trimC k tia)
def trimTs (k tia : Nat) : Int := toS 16 (Config.trimS k tia)

/-- A sample at a rail (R252). -/
def railed (d : List Int) : Bool := d.any fun v => decide (v ≤ -2048) || decide (2047 ≤ v)

/-- The M samples of an integration as the 12-bit converter gives them (R249, R250). -/
def toneCodes (m : Nat) (d : List Int) : List Int := (d.take m).map (clampI (-2048) 2047)

/-- gk and bk of one frequency over M samples (R251): amp in units of 0.25 mV. -/
def toneAdm (k tia amp m : Nat) (d0 : List Int) : ToneRow :=
  let d := toneCodes m d0
  let n := toneN k
  let i := correlate (cosTab n) (m / n + 1) d
  let q := correlate (sinTab n) (m / n + 1) d
  let den : Int := (m * 64 * tiaOhm tia * amp : Nat)
  let g := divr (-i * 1000000000000) den
  let b := divr (q * 1000000000000) den
  { k, overrange := railed d
    g := rnd (trimTg k tia * rnd (g * trimTc k tia - b * trimTs k tia) 14) 15
    b := rnd (trimTg k tia * rnd (g * trimTs k tia + b * trimTc k tia) 14) 15 }

/-- The rows of a tone conversion: one list of samples for each enabled frequency, ascending. -/
def toneRows (r : Bytes) (samples : List (List Int)) : List ToneRow :=
  ((toneKs (chFmask r)).zip samples).map fun p => toneAdm p.1 (chTia r) (125 * 2 ^ (chLvl r - 1)) (toneM (chTint r) p.1) p.2

def rowAt (rows : List ToneRow) (k : Nat) : ToneRow :=
  (rows.find? fun x => x.k == k).getD { k, g := 0, b := 0, overrange := false }

/-- What a tone conversion yields: code, value or s, r, and the mark of an empty cell. -/
structure ToneVal where
  code : Nat
  raw : Int
  r : Int
  empty : Bool
deriving DecidableEq, Repr

/-- MODE 0 (R254): `blk` is the moisture block in force (R259). -/
def moistVal (cell blk : Bytes) (ks : List Nat) (rows : List ToneRow) (lin : Bool) : ToneVal :=
  let h := ks.getLast?.getD 0
  let l := ks.headD 0
  let bh := (rowAt rows h).b
  let e1 := divr (bh * 2 ^ 24) (clB0 cell h * 2 ^ 8)
  let el := divr ((rowAt rows l).b * 2 ^ 24) (clB0 cell l * 2 ^ 8)
  let e2 := divr (((rowAt rows l).g - clG0 cell l * 2 ^ 8) * 2 ^ 24) (clB0 cell l * 2 ^ 8)
  let s := e1 - rnd (lnKc blk * e2) 15
  let r := divr (e1 * 2 ^ 24) el
  let over' := rows.any ToneRow.overrange || (!lin && decide (satS 32 s ≠ s))
  { code := if bh < rnd (clB0 cell h * 2 ^ 8) 1 then 3 else if over' then 2 else 0
    raw := s, r
    empty := decide (el ≤ 0) || decide (e1 < (lnEmptyE1 blk : Int) * 2 ^ 16) || decide (lnFormat blk = 0) }

/-- MODE 1 and 2 (R253). -/
def admVal (mode : Nat) (ks : List Nat) (rows : List ToneRow) : ToneVal :=
  let v := if mode = 1 then rnd (rowAt rows (ks.getLast?.getD 0)).b 8 else rnd (rowAt rows (ks.headD 0)).g 8
  { code := if rows.any ToneRow.overrange || decide (satS 32 v ≠ v) then 2 else 0, raw := satS 32 v, r := 0, empty := false }

/-! Linearisation (R255, R256). -/

/-- A sum that must stay in ±2^47. -/
def sum47 (a b : Int) : Option Int := if a + b < -140737488355328 ∨ 140737488355328 < a + b then none else some (a + b)

/-- p = a[dx][j], then rnd(p × x, 30) + a[i][j] for i down to 0. -/
def polyX (blk : Bytes) (x : Int) (j : Nat) : Nat → Int → Option Int
  | 0, p => some p
  | i + 1, p => (sum47 (rnd (p * x) 30) (lnA blk i j)).bind (polyX blk x j i)

/-- The outer loop over j, from j down to 0. -/
def polyU (blk : Bytes) (x u : Int) : Nat → Int → Option Int
  | 0, acc => some acc
  | j + 1, acc =>
    (polyX blk x j (lnDx blk) (lnA blk (lnDx blk) j)).bind fun p => (sum47 (rnd (acc * u) 30) p).bind (polyU blk x u j)

/-- The value of R256: none is LIN_RANGE, that of a block with FORMAT 0 included (R259). `t`: companion value; `r`: density term of
a Legend moisture block. -/
def linEval (blk : Bytes) (xIn0 : Int) (t : Option Int) (r : Option Int) : Option Int :=
  if lnFormat blk = 0 ∨ lnXform blk = 1 ∧ xIn0 ≤ 0 then none
  else
    let xIn := if lnXform blk = 1 then log2q xIn0 30 * 2 ^ 10 else xIn0
    let x0 := xIn - lnXoff blk
    let x := if lnXsh blk = 0 then x0 else if 0 < lnXsh blk then rnd x0 (lnXsh blk).toNat else x0 * 2 ^ (-(lnXsh blk)).toNat
    let u := match t with | some v => (v - lnT0 blk) * 2 ^ 16 | none => 0
    (polyU blk x u (lnDt blk + 1) 0).bind fun acc =>
    (match r with
     | none => some acc
     | some rv =>
       (sum47 (lnD0 blk) (rnd (lnD1 blk * x) 30)).bind fun d => sum47 acc (rnd ((rv - lnRref blk) * 2 ^ 6 * d) 30)).bind fun acc =>
    let v := if lnCsh blk = 0 then acc else rnd acc (lnCsh blk)
    if v < lnMin blk ∨ lnMax blk < v then none else some v

/-- The copy a channel needs (R258, R259): record or block, with the moisture block's own fields behind it. `leg` gives
the image governing a Legend slot, `inlet` the inlet-state slot of a map. -/
def linCopy (d : Datum) (leg : Nat → Bytes) (inlet : Nat → Nat) (r : Bytes) : Bytes :=
  let blkOf := fun slot => padTo 128 (slice (leg slot) 0x180 128)
  let own := blkOf (match d.mapRec (chLinMap r) with | some m => mapLegend m | none => 0)
  if chLinSrc r = 1 then padTo 112 ((d.recs tyLin).getD (chLinRef r) []) ++ own.drop 112
  else if chLinSrc r = 2 then blkOf (if chLinRef r = 0xFF then inlet (chLinMap r) else chLinRef r)
  else own

/-- The copies for every channel that uses one. -/
def linCopies (d : Datum) (leg : Nat → Bytes) (inlet : Nat → Nat) : List (Nat × Bytes) :=
  ((d.recs tyChan).filter fun r => chLinSrc r != 0 || d.listOf (chEntry r) == some 4).map fun r =>
    (chEntry r, linCopy d leg inlet r)

/-! The impedance check (R263, R264, Table 8-10). -/

/-- A check's parameters: kind, grounded, LO, HI, LEAK_MIN, CONTACT_DELTA. The defaults of R262 without a record. -/
structure ChkPar where
  kind : Nat
  grounded : Bool
  lo : Nat
  hi : Nat
  leak : Nat
  delta : Nat
deriving DecidableEq, Repr

def chkParOf : Option Bytes → ChkPar
  | some r => { kind := ckKind r, grounded := ckGrounded r, lo := ckLo r, hi := ckHi r, leak := ckLeak r, delta := ckDelta r }
  | none => { kind := 1, grounded := false, lo := 256, hi := 256000000, leak := 1000, delta := 0 }

/-- Loop TIA range (R263): the highest code with 250 Ω × 4^TIA ≤ LO / 2; 4 for capacitive records. -/
def chkTia (p : ChkPar) : Nat :=
  if p.kind = 2 then 4
  else (((List.range 8).filter fun c => decide (tiaOhm c * 32 ≤ p.lo)).getLast?).getD 0

/-- What a check measures. -/
structure ChkMeas where
  rl : Nat
  ri : Nat
  g : Int
  b : Int
  loopSat : Bool
  gndSat : Bool
deriving DecidableEq, Repr

def satRes (v : Int) : Nat := if v < 0 then 0 else min v.toNat 0xFFFFFFFF

/-- The two integrations of a check: 3 cycles of 2 kHz each, M = 12,000 (R263, R264). -/
def chkMeasure (p : ChkPar) (loop ground : List Int) : ChkMeas :=
  let l := toneAdm 1 (chkTia p) 500 12000 loop
  let gr := toneAdm 1 3 500 12000 ground
  { g := l.g, b := l.b, loopSat := l.overrange, gndSat := gr.overrange
    rl := if l.g ≤ 0 then 0xFFFFFFFF else satRes (divr (l.g * 2 ^ 20 * 1000000000) (l.g * l.g + l.b * l.b))
    ri := if gr.g ≤ 0 then 0xFFFFFFFF else satRes (divr (2 ^ 16 * 1000000) gr.g) }

/-- The outcome: the first row of Table 8-10 that holds. -/
def chkOutcome (p : ChkPar) (base : Option Nat) (m : ChkMeas) : Nat :=
  if !p.grounded && (m.gndSat || decide (m.ri < 1)) then 3
  else if m.loopSat || (if p.kind = 2 then decide (m.b < m.g) else decide (m.rl * 8 < p.lo)) then 2
  else if (if p.kind = 2 then decide (2 * rnd m.b 8 < (p.lo : Int)) else decide (8 * p.hi < m.rl)) then 1
  else if !p.grounded && decide (m.ri < p.leak) then 4
  else if p.kind != 2 && p.delta != 0 && (match base with | some b => decide (b + p.delta < m.rl) | none => false) then 5
  else 0

end Sys2Proof.Machine
end

