-- ==== Sys2Proof/Machine/Sense.lean ====
section
/-!
DEFINITION. The SENSE die's sequence engine: passes, conversions, open wires, results, Contour switches and impedance
checks (07, 08). Instants are Meridian ticks; the die's own timing is R221, R227, R250.
-/
namespace Sys2Proof.Machine

/-- Ticks that `us` microseconds last, rounded up to the die's first tick at or after the instant. -/
def usTicks (us : Nat) : Nat := (us * 16777216 + 999999) / 1000000
/-- Ticks that `n` units of 1/3,072,000 s last, rounded up. -/
def modTicks (n : Nat) : Nat := (n * 16777216 + 3071999) / 3072000
def secTicks (s : Nat) : Nat := s * 16777216
/-- Short stamp of a count (02 R48). -/
def shortOf (now : Nat) : Nat := now / 1048576 % 16777216

def newEnt (r : Bytes) (gain : Option Nat) : EntSt :=
  { entry := chEntry r, gain := gain.getD (chGain r), prev := none, latest := none, before := none, rows := [], tia := chTia r }

def newCsw (r : Bytes) : CswSt := { csw := coCsw r, active := false, latched := false, count := 0, deact := false }
def newSeq (i : Nat) : SeqSt := { idx := i, due := false, lastStart := none, lastDue := none }

/-- The die without its supply: the faults of pins outlive it, since only a later check ends them (08 R266;
notes/assumptions/46.md). -/
def senseOff (pins : List PinSt) : SenseSt := { senseReset with powered := false, pins := pins }

/-- Until a configuration load completes no list runs and no result is produced (07 R224): the sources and guards go off. -/
def senseHold (s : SenseSt) : SenseSt :=
  { s with cfgValid := false, lists := [none, none, none, none, none], afe := [none, none, none, none, none], excs := []
           gds := List.replicate 8 none, pend := [] }

/-- A latched switch stays active over a load that keeps its record and latch, since CSW_CLEAR alone releases it (07 R245). -/
def loadCsw (old : List CswSt) (r : Bytes) : CswSt :=
  match old.find? fun c => c.csw == coCsw r && c.active && c.latched && coLatch r with
  | some c => { c with count := 0, deact := false }
  | none => newCsw r

/-- Configuration loaded by core M (07 R224, R225): gains as tracked or as the GAIN fields say. What a waiting command asked for
stays asked for: a request, a CHECK_RUN, a MOIST_EMPTY. -/
def senseLoad (now : Nat) (d : Datum) (gains : List (Nat × Nat)) (lin : List (Nat × Bytes)) (base : List (Nat × Nat))
    (s : SenseSt) : SenseSt :=
  { s with
    cfgValid := true, cfg := d, lin := lin, base := base
    ents := (d.recs tyChan).map fun r => newEnt r (lookupKey (chEntry r) gains)
    seqs := (List.range (d.recs tySeq).length).map fun i =>
      { newSeq i with due := s.seqs.any fun q => q.idx == i && q.due && (d.seqRec i).any fun r => sqTrig r == 3 }
    lists := [none, none, none, none, none], afe := [none, none, none, none, none], excs := [], gds := List.replicate 8 none, pend := []
    csws := (d.recs tyContour).map (loadCsw s.csws)
    pins := s.pins.map fun p => if p.faulted && p.recheck.isNone then { p with recheck := some now } else p
    chkQ := ((s.chk.map fun c => c.1).toList ++ s.chkQ).filterMap fun c => if c.origin = 2 then some { c with rec' := d.chkIdx c.pin } else none
    chk := none, ask := none, turn := false, lastRound := now
    empties := (s.empties.filter fun e => !e.done).map fun e => { e with active := false, n := 0, g := List.replicate 8 0, b := List.replicate 8 0 } }

def SenseSt.ent (s : SenseSt) (e : Nat) : Option EntSt := s.ents.find? fun x => x.entry == e
def SenseSt.setEnt (s : SenseSt) (x : EntSt) : SenseSt := { s with ents := s.ents.map fun y => if y.entry = x.entry then x else y }
def SenseSt.setSeq (s : SenseSt) (x : SeqSt) : SenseSt := { s with seqs := s.seqs.map fun y => if y.idx = x.idx then x else y }
def SenseSt.seq (s : SenseSt) (i : Nat) : SeqSt := (s.seqs.find? fun x => x.idx == i).getD (newSeq i)
def SenseSt.pass (s : SenseSt) (l : Nat) : Option Pass := (s.lists[l]?).join
def SenseSt.setPass (s : SenseSt) (l : Nat) (p : Option Pass) : SenseSt := { s with lists := setAt l p s.lists }
/-- Entry number at a position of a sequence. -/
def SenseSt.entryAt (s : SenseSt) (seq pos : Nat) : Nat := (match s.cfg.seqRec seq with | some r => sqFirst r | none => 0) + pos
def SenseSt.faulted (s : SenseSt) (pin : Nat) : Bool := s.pins.any fun p => p.pin == pin && p.faulted

/-- Pins reserved for impedance checks (07 R242, 08 R262): PIN and PARTNER of queued OPEN checks, from the OPEN result's conversion
end, and of the running check. -/
def SenseSt.reserved (s : SenseSt) : List Nat :=
  ((s.chkQ.filter fun c => c.origin == 0).flatMap fun c => [c.pin, c.partner]) ++ (match s.chk with | some c => [c.1.pin, c.1.partner] | none => [])

/-- An entry may not start now: it needs a reserved pin, or it is a tone entry while a check has its turn. -/
def SenseSt.blocked (s : SenseSt) (l : Nat) (r : Bytes) : Bool :=
  (entryPins r).any (fun p => s.reserved.contains p) || (l == 4 && (s.turn || s.chk.isSome))

/-! Crosspoint, excitation and guards (R217-R220). -/

/-- Current of a level code, µA (R217). -/
def excUa (c : Nat) : Nat := if c = 0 then 0 else 2 ^ (c - 1)

/-- The sources that an entry's record turns on: index, pin, level code. -/
def excOf (r : Bytes) : List (Nat × Nat × Nat) :=
  [(2 * chExc r, chExaPin r, chExaLvl r), (2 * chExc r + 1, chExbPin r, chExbLvl r)].filter fun x => x.2.2 != 0

/-- A source of an entry: it keeps running when the list's entry before had it on the same pin at the same level (R218). -/
def steerExc (now l : Nat) (old : List ExcSrc) (x : Nat × Nat × Nat) : ExcSrc :=
  (old.find? fun e => e.list == l && e.idx == x.1 && e.pin == x.2.1 && e.code == x.2.2).getD
    { idx := x.1, pin := x.2.1, code := x.2.2, list := l, since := now }

/-- A list's guard ball returns to AGNDS (R219). -/
def freeGuard (l : Nat) (s : SenseSt) : SenseSt :=
  match ((s.afe[l]?).join).bind fun a => s.cfg.chanRec a.entry with
  | some r => if chGuardEn r then { s with gds := setAt (chGuard r) none s.gds } else s
  | none => s

/-- The settings of an entry replace those of the entry before it in the list (R218). -/
def applyEntry (now l : Nat) (r : Bytes) (s0 : SenseSt) : SenseSt :=
  let s := freeGuard l s0
  { s with
    afe := setAt l (some { entry := chEntry r, pinP := chPinP r, pinN := chPinN r, ref := chRef r, buffer := chBuffer r, ow := chOwEn r }) s.afe
    excs := (s.excs.filter fun e => e.list != l) ++ (excOf r).map (steerExc now l s.excs)
    gds := if chGuardEn r then setAt (chGuard r) (some (chGuardPin r)) s.gds else s.gds }

/-- At the end of a list's pass every source of the list is off (R218). -/
def clearList (l : Nat) (s0 : SenseSt) : SenseSt :=
  let s := freeGuard l s0
  { s with afe := setAt l none s.afe, excs := s.excs.filter fun e => e.list != l }

/-- An entry that starts in the cycle in which a check has claimed one of its pins wins: the check goes back to the head of its
queue (R242). -/
def unclaim (now l : Nat) (r : Bytes) (s : SenseSt) : SenseSt :=
  match s.chk with
  | some (c, t0) =>
    if t0 = now ∧ l ≠ 4 ∧ c.origin ≠ 0 ∧ ((entryPins r).contains c.pin || (entryPins r).contains c.partner) = true then
      { s with chk := none, chkQ := c :: s.chkQ }
    else s
  | none => s

/-- Start the entry at the pass's position, or let it wait (R218, R242). -/
def startEntry (now l : Nat) (p : Pass) (s0 : SenseSt) : SenseSt :=
  match s0.cfg.chanRec (s0.entryAt p.seq p.pos) with
  | none => s0.setPass l none
  | some r =>
    let s := unclaim now l r s0
    if s.blocked l r then s.setPass l (some { p with waiting := true, delayed := true, modAt := none })
    else (applyEntry now l r s).setPass l
      (some { p with waiting := false, entAt := now, modAt := none, convAt := now, k := 0, settling := 0, openPins := [] })

/-- The sequences of a list that are due, ascending; then its FREE sequence (R228). -/
def nextSeq (s : SenseSt) (l : Nat) : Option Nat :=
  let idx := (List.range (s.cfg.recs tySeq).length).filter fun i => (s.cfg.seqRec i).any fun r => sqList r == l
  match idx.find? fun i => (s.seq i).due with
  | some i => some i
  | none => idx.find? fun i => (s.cfg.seqRec i).any fun r => sqTrig r == 1

/-- A list without a pass takes its next sequence (R228). -/
def takePass (now l : Nat) (s : SenseSt) : SenseSt :=
  if !s.powered || !s.cfgValid || (s.pass l).isSome then s
  else
    match nextSeq s l with
    | none => s
    | some i =>
      let onReq := (s.cfg.seqRec i).any fun r => sqTrig r == 3
      let first := s.entryAt i 0
      let cnt := match s.cfg.seqRec i with | some r => sqCount r | none => 0
      let s := s.setSeq { s.seq i with due := false, lastStart := some now }
      let s := { s with
        started := if onReq then s.started ++ [(i, now)] else s.started
        empties := s.empties.map fun e =>
          if first ≤ e.entry ∧ e.entry < first + cnt ∧ !e.done then { e with active := true, seq := i } else e }
      startEntry now l { seq := i, passAt := now, pos := 0, waiting := false, delayed := false, entAt := now, modAt := none
                         convAt := now, k := 0, settling := 0, openPins := [] } s

/-- Every list without a pass takes one. -/
def takePasses (now : Nat) (s : SenseSt) : SenseSt := (List.range 5).foldl (fun a l => takePass now l a) s

/-- A pass ends: its sources go off (R218), MOIST_EMPTY of one of its entries ends, the next due sequence starts. -/
def endPass (now l : Nat) (p : Pass) (s : SenseSt) : SenseSt :=
  let s := (clearList l s).setPass l none
  let s := { s with empties := s.empties.map fun e => if e.active && e.seq == p.seq then { e with active := false, done := true } else e }
  takePass now l s

/-- An entry ends, and with it its guard; the next one starts in that instant (R219, R227). -/
def endEntry (now l : Nat) (p : Pass) (s0 : SenseSt) : SenseSt :=
  let s := freeGuard l s0
  let s := if l = 4 ∧ s.chkQ ≠ [] then { s with turn := true } else s
  let cnt := match s.cfg.seqRec p.seq with | some r => sqCount r | none => 0
  if p.pos + 1 < cnt then startEntry now l { p with pos := p.pos + 1, delayed := false } s
  else endPass now l p s

/-- A check that is still queued is not queued twice (R262). -/
def queueChk (c : ChkReq) (s : SenseSt) : SenseSt :=
  if s.chkQ.any fun q => q.pin == c.pin && q.origin == c.origin && q.rec' == c.rec' then s else { s with chkQ := s.chkQ ++ [c] }
/-- A check of a pin by what queues it: its first check record, or the defaults with the partner that an entry gives. -/
def chkFor (s : SenseSt) (pin partner origin : Nat) : ChkReq := { pin, partner, origin, rec' := s.cfg.chkIdx pin }

/-- The partner a check of a pin uses (R262). -/
def partnerFor (s : SenseSt) (r : Bytes) (pin : Nat) : Nat :=
  match s.cfg.chkRec pin with
  | some c => ckPartner c
  | none => if pin = chPinP r then chPinN r else if pin = chPinN r then chPinP r else chPinP r

/-- Checks of the pins whose run marked an OPEN result (R242). -/
def openChecks (r : Bytes) (pins : List Nat) (s : SenseSt) : SenseSt :=
  pins.foldl (fun a p => queueChk (chkFor a p (partnerFor a r p) 0) a) s

/-- Autorange (R231): the next gain after a result of a code. An OVERRANGE result at gain code 0 changes nothing (R233). -/
def autoGain (r : Bytes) (g code : Nat) (raw : Int) : Nat :=
  if !chAuto r || (code != 0 && code != 2) then g
  else if code = 2 then g - 1
  else if decide (0x780000 ≤ raw.natAbs) && decide (0 < g) then g - 1
  else if decide (raw.natAbs < 0x380000) && decide (g < chGain r) then g + 1
  else g

/-- Book a result: the entry's run state, the queue of results awaiting release, the pass. `pins`: pins whose comparator
run marked it. -/
def bookResult (now l : Nat) (p : Pass) (r : Bytes) (x : PendRes) (pins : List Nat) (s : SenseSt) : SenseSt :=
  let e := chEntry r
  let old := (s.ent e).getD (newEnt r none)
  let g1 := autoGain r x.gain x.code x.raw
  let s := s.setEnt { old with gain := g1, prev := some x.gain }
  let s := { s with pend := s.pend ++ [x], opens := if x.code = 3 then sat 65535 (s.opens + 1) else s.opens }
  if x.code = 3 then endEntry now l p (openChecks r pins s)
  else if p.k + 1 = chNconv r + 1 then endEntry now l p s
  else
    let settling := if g1 = x.gain then p.settling - 1 else filterN (chFilter r)
    s.setPass l (some { p with k := p.k + 1, settling, openPins := [], convAt := now, modAt := if l = 4 then some now else p.modAt })

/-- The entry of a list's running pass, with its record and modulation start, when it converts. -/
def converting (s : SenseSt) (l : Nat) : Option (Pass × Bytes × Nat) :=
  match s.pass l with
  | none => none
  | some p =>
    match s.cfg.chanRec (s.entryAt p.seq p.pos), p.modAt with
    | some r, some m => if p.waiting then none else some (p, r, m)
    | _, _ => none

/-- Settling ends (R227 step 2, R250): modulation starts. -/
def modulationStart (now l : Nat) (s : SenseSt) : SenseSt :=
  match s.pass l with
  | none => s
  | some p =>
    match s.cfg.chanRec (s.entryAt p.seq p.pos) with
    | none => s
    | some r =>
      if p.waiting || p.modAt.isSome || decide (now < p.entAt + usTicks (max (chSettle r) 2)) then s
      else s.setPass l (some { p with modAt := some now, convAt := now })

/-- End of conversion k (counting from 1) after modulation start (R227). -/
def convDue (r : Bytes) (m k : Nat) : Nat := m + modTicks ((filterN (chFilter r) + k - 1) * rateD (chRate r))

/-- The converter's reference, nV: the internal 2.500 V, or SREFP - SREFN as it stands, in µV (R220). -/
def refNv (ref sref : Nat) : Nat := if ref = 0 then 2500000000 else sref * 1000

/-- The filter output as a code: +VREF / 2^g is 2^23, rounded half up (R222). Without a reference the spec gives no code: `o` is an
open value (notes/assumptions/45.md). -/
def rawCode (nv : Int) (ref sref g : Nat) (o : Int) : Int := if refNv ref sref = 0 then o else divr (nv * 2 ^ (23 + g)) (refNv ref sref)

/-- A delta-sigma conversion ends (R222, R223, R230-R232): `nv` is the filter output as differential input voltage, nV; `sref` is
SREFP - SREFN, µV; the modulator signalled `overload` in the filter window. -/
def conversionEnd (now l : Nat) (nv : Int) (sref : Nat) (overload : Bool) (o : Int) (s : SenseSt) : SenseSt :=
  match converting s l with
  | none => s
  | some (p, r, m) =>
    if l = 4 ∨ now < convDue r m (p.k + 1) then s
    else
      let ent := (s.ent (chEntry r)).getD (newEnt r none)
      let q := rawCode nv (chRef r) sref ent.gain o
      let raw := clampI (-0x800000) 0x7FFFFF q
      let flt := (entryPins r).any s.faulted
      let code := if flt || p.openPins != [] then 3 else if overload || raw != q then 2 else if 0 < p.settling then 1 else 0
      bookResult now l p r
        { list := l, seq := p.seq, pos := p.pos, entry := chEntry r, endAt := now, gain := ent.gain, delayed := p.delayed
          autoranged := (match ent.prev with | some g => g != ent.gain | none => false)
          code, raw, r := 0, rows := [], empty := false, gain0 := ent.gain }
        (if flt then [] else p.openPins) s

/-- A tone conversion ends (08 R250-R254). -/
def toneConversionEnd (now : Nat) (samples : List (List Int)) (s : SenseSt) : SenseSt :=
  match converting s 4 with
  | none => s
  | some (p, r, m) =>
    if now < m + usTicks ((toneEighths r + 7) / 8) then s
    else
      let ks := toneKs (chFmask r)
      let rows := toneRows r samples
      let blk := (lookupKey (chEntry r) s.lin).getD []
      let v := if chMode r = 0 then moistVal ((s.cfg.cellRec (chEntry r)).getD []) blk ks rows (chLinSrc r != 0)
               else admVal (chMode r) ks rows
      let flt := (entryPins r).any s.faulted
      let old := (s.ent (chEntry r)).getD (newEnt r none)
      let s := s.setEnt { old with rows := rows, tia := chTia r }
      let s := { s with empties := s.empties.map fun e =>
        if e.active && e.entry == chEntry r then
          { e with n := e.n + 1
                   g := (List.range 8).map fun k => e.g.getD k 0 + (rowAt rows k).g
                   b := (List.range 8).map fun k => e.b.getD k 0 + (rowAt rows k).b }
        else e }
      bookResult now 4 p r
        { list := 4, seq := p.seq, pos := p.pos, entry := chEntry r, endAt := now, gain := 0, delayed := p.delayed
          autoranged := false, code := if flt then 3 else v.code, raw := v.raw, r := v.r, rows, empty := v.empty, gain0 := 0 }
        (if flt || v.code != 3 then [] else (entryPins r).filter fun q => q == chPinP r || q == chPinN r) s

/-- A PIN run that started before a conversion's end marks its result OPEN although it completes after it (R240); the
result waits for its release. The entry's pass ends, later conversions of it are taken back, and so is the gain decision (R241). -/
def lateOpen (now l : Nat) (r : Bytes) (pins : List Nat) (x : PendRes) (s : SenseSt) : SenseSt :=
  let later := fun (y : PendRes) => y.list == l && y.entry == x.entry && y.seq == x.seq && decide (x.endAt < y.endAt)
  let s := { s with pend := (s.pend.filter fun y => !later y).map fun y => if y = x then { y with code := 3 } else y
                    opens := sat 65535 (s.opens + 1) }
  let s := match s.ent x.entry with | some e => s.setEnt { e with gain := x.gain0, prev := some x.gain } | none => s
  let s := openChecks r pins s
  match s.pass l with
  | some p => if p.seq = x.seq ∧ p.pos = x.pos ∧ p.entAt ≤ x.endAt then endEntry now l p s else s
  | none => s

/-- The last 16 samples of a rail comparator all trip: HIGH at or above VSA - 0.3 V, LOW at or below 0.05 V; pin voltages and VSA in
mV (R239, R240). -/
def railRun (vsa : Nat) (high : Bool) (mv : List Nat) : Bool :=
  decide (16 ≤ mv.length) && (lastN 16 mv).all fun v => if high then decide (vsa ≤ v + 300) else decide (v ≤ 50)

/-- The pins on which a run of a counted comparator has completed; those of excitation count while the entry's excitation is on. -/
def trippedPins (r : Bytes) (vsa : Nat) (runs : List (Nat × List Nat)) : List Nat :=
  ((countedComps r).filter fun c => runs.any fun x => x.1 == c.1 && railRun vsa c.2 x.2).map (fun c => c.1) |>.eraseDups

/-- Comparator samples of the last 16 µs at pins of a list's entry (R239-R241). -/
def openWireRun (now l vsa : Nat) (runs : List (Nat × List Nat)) (s : SenseSt) : SenseSt :=
  let late := s.pend.find? fun x => x.list == l && decide ((now - x.endAt) * 1000000 < 16 * 16777216) && x.code != 3
  match late with
  | some x =>
    match s.cfg.chanRec x.entry with
    | none => s
    | some r =>
      let hit := trippedPins r vsa runs
      if hit = [] then s else lateOpen now l r hit x s
  | none =>
    match converting s l with
    | none => s
    | some (p, r, _) =>
      let hit := (trippedPins r vsa runs).filter fun q => !p.openPins.contains q
      s.setPass l (some { p with openPins := p.openPins ++ hit })

/-- The value of a companion's latest result released in an earlier die clock cycle, when it is usable (R257). -/
def companion (now : Nat) (s : SenseSt) (r blk : Bytes) (endAt : Nat) : Option Int :=
  match s.ent (chComp r) with
  | none => none
  | some c =>
    let rel := match c.latest with | some x => if x.relAt < now then some x else c.before | none => none
    match rel with
    | none => none
    | some x => if x.code = 0 ∧ (endAt - x.endAt) * 1000 ≤ lnAge blk * 16777216 then some x.value else none

/-- A MOISTURE result under the block in force at its release (08 R258): a copy that came since its conversion's end counts. -/
def remoist (s : SenseSt) (r : Bytes) (x : PendRes) : PendRes :=
  if x.list = 4 ∧ chMode r = 0 ∧ x.code ≠ 3 then
    let v := moistVal ((s.cfg.cellRec x.entry).getD []) ((lookupKey x.entry s.lin).getD []) (toneKs (chFmask r)) x.rows (chLinSrc r != 0)
    { x with code := v.code, raw := v.raw, r := v.r, empty := v.empty }
  else x

/-- Code and value at release (R235, R236, R255-R257). -/
def linearise (now : Nat) (s : SenseSt) (r : Bytes) (x0 : PendRes) : Nat × Int :=
  let x := remoist s r x0
  let tone := x.list == 4
  let mode0 := tone && chMode r == 0
  let blk := (lookupKey x.entry s.lin).getD []
  if x.code = 2 then (2, satS 32 x.raw)
  else if x.code ≠ 0 then (x.code, 0)
  else if chLinSrc r = 0 then (if x.empty then (5, 0) else (0, satS 32 x.raw))
  else
    let comp := companion now s r blk x.endAt
    if chCompEn r && comp.isNone then (6, 0)
    else if x.empty then (5, 0)
    else
      let xIn := if mode0 then x.raw * 2 ^ 6 else if tone then x.raw * 2 ^ 22 else x.raw * 2 ^ (7 - x.gain)
      match linEval blk xIn (if chCompEn r then comp else none) (if chLinSrc r = 2 && mode0 then some x.r else none) with
      | some v => (0, v)
      | none => (5, 0)

/-- Status bits 12:0 (R235). -/
def statusOf (r : Bytes) (x : PendRes) (code : Nat) : Nat :=
  x.gain * 1024 + b2n x.delayed * 256 + b2n x.autoranged * 128 + b2n (chOwEn r) * 64 + code

/-- A switch goes to a state; a crossing record follows a change (R244). -/
def setActive (r : Bytes) (a : Bool) (c : CswSt) : CswSt :=
  if c.active = a then c else { c with active := a, count := 0, latched := a && coLatch r }

/-- A Contour switch evaluates a released result (R243, R245). -/
def contour (r : Bytes) (code : Nat) (v : Int) (c : CswSt) : CswSt :=
  if code = 1 then { c with deact := false }
  else if code ≠ 0 then
    let c := { c with count := 0, deact := false }
    if coFault r = 1 then setActive r true c else if coFault r = 2 && !c.latched then setActive r false c else c
  else
    let act := if coLow r then decide (v ≤ coThresh r) else decide (coThresh r ≤ v)
    let dea := if coLow r then decide (coThresh r + (coHyst r : Int) < v) else decide (v < coThresh r - (coHyst r : Int))
    let c := { c with deact := dea }
    let qual := if c.active then dea else act
    if !qual then { c with count := 0 }
    else if c.count + 1 < coDebounce r then { c with count := c.count + 1 }
    else if c.active && c.latched then { c with count := coDebounce r }
    else setActive r (!c.active) c

/-- All switches that watch an entry; the crossings in record order. -/
def contours (cfg : Datum) (entry code : Nat) (v : Int) (cs : List CswSt) : List CswSt × List (Nat × Bool) :=
  let new := cs.map fun c => match cfg.cswRec c.csw with
    | some r => if coEntry r = entry then contour r code v c else c
    | none => c
  (new, ((cs.zip new).filter fun p => p.1.active != p.2.active).map fun p => (p.2.csw, p.2.active))

/-- 20 µs after its conversion's end the oldest result is released (R234): linearised, seen by the switches, sent. -/
def resultRelease (now : Nat) (s : SenseSt) : SenseSt × List RecBody :=
  match s.pend with
  | [] => (s, [])
  | x :: rest =>
    if (now - x.endAt) * 1000000 < 20 * 16777216 then (s, [])
    else
      let s := { s with pend := rest }
      match s.cfg.chanRec x.entry, s.ent x.entry with
      | some r, some e =>
        let cv := linearise now s r x
        let s := s.setEnt { e with latest := some { code := cv.1, value := cv.2, endAt := x.endAt, relAt := now }, before := e.latest }
        let cs := contours s.cfg x.entry cv.1 cv.2 s.csws
        ({ s with csws := cs.1 }, (cs.2.map fun c => RecBody.crossing c.1 c.2) ++ [.result x.entry (statusOf r x cv.1) cv.2])
      | _, _ => (s, [])

/-- End of conversion of the result that RESULT_RELEASE releases: its stamp instant (R234). -/
def releaseStamp (s : SenseSt) : Nat := match s.pend with | x :: _ => x.endAt | [] => 0

/-- A PERIODIC sequence falls due, or skips its start (R228, R229). `loc`: the die's local Meridian copy. -/
def periodicDue (now loc i : Nat) (s : SenseSt) : SenseSt :=
  match s.cfg.seqRec i with
  | none => s
  | some r =>
    let q := s.seq i
    if !s.powered || !s.cfgValid || sqTrig r != 2 || sqPeriod r == 0 || loc % sqPeriod r != sqPhase r || q.lastDue == some loc then s
    else
      let running := (s.pass (sqList r)).any fun p => p.seq == i
      if running || q.due then
        { s with skipped := sat 65535 (s.skipped + 1) }.setSeq { q with lastDue := some loc }
      else takePass now (sqList r) (s.setSeq { q with due := true, lastDue := some loc })

/-- An ON_REQUEST sequence falls due (R228). -/
def requestDue (now i : Nat) (s : SenseSt) : SenseSt :=
  match s.cfg.seqRec i with
  | none => s
  | some r => if !s.powered || !s.cfgValid then s else takePass now (sqList r) (s.setSeq { s.seq i with due := true })

/-- CSW_CLEAR reaches the die (R245). -/
def cswClearDie (n : Nat) (s : SenseSt) : SenseSt × List RecBody :=
  match s.csws.find? fun c => c.csw == n with
  | none => (s, [])
  | some c =>
    if c.active && c.latched && c.deact then
      ({ s with csws := s.csws.map fun x => if x.csw = n then { x with active := false, latched := false, count := 0 } else x }, [.crossing n false])
    else (s, [])

/-- The check that is served next (R262): lowest origin, oldest first. -/
def nextChk (s : SenseSt) : Option ChkReq :=
  ([0, 1, 2, 3].map fun o => s.chkQ.find? fun c => c.origin == o).findSome? id

/-- A conversion that began no later than `a` still uses a pin (R242 item 5). -/
def pinInUse (s : SenseSt) (a pin : Nat) : Bool :=
  [0, 1, 2, 3].any fun l => match converting s l with | some (p, r, _) => decide (p.convAt ≤ a) && (entryPins r).contains pin | none => false

/-- The instant at which a check asks for its pins: now, or earlier if it waits for a conversion already. -/
def askedAt (s : SenseSt) (c : ChkReq) (now : Nat) : Nat := match s.ask with | some (q, a) => if q = c then a else now | none => now

/-- A queued check starts on the tone converter, or asks for its pins and waits for the conversions that use them (R242, R262, R263). -/
def impCheckStart (now : Nat) (s : SenseSt) : SenseSt :=
  match nextChk s with
  | none => s
  | some c =>
    let free := s.turn || (match s.pass 4 with | none => true | some p => p.waiting)
    let a := askedAt s c now
    if !s.powered || !s.cfgValid || s.chk.isSome || !free then s
    else if pinInUse s a c.pin || pinInUse s a c.partner then { s with ask := some (c, a) }
    else { s with chk := some (c, now), ask := none, turn := false, chkQ := s.chkQ.filter fun q => q != c }

/-- Entries that waited start once nothing blocks them (R242). -/
def wakeEntries (now : Nat) (s : SenseSt) : SenseSt :=
  (List.range 5).foldl (fun a l => match a.pass l with
    | some p => if p.waiting then startEntry now l p a else a
    | none => takePass now l a) s

/-- An impedance check ends (R263-R266). -/
def impCheckEnd (now : Nat) (loop ground : List Int) (s : SenseSt) : SenseSt × List RecBody :=
  match s.chk with
  | none => (s, [])
  | some (c, t0) =>
    if now < t0 + usTicks 3700 then (s, [])
    else
      let par := chkParOf (c.rec'.bind fun i => (s.cfg.recs tyChkRec)[i]?)
      let m := chkMeasure par loop ground
      let base := lookupKey c.pin s.base
      let o := chkOutcome par base m
      let flt := decide (o = 1) || decide (o = 2) || decide (o = 3)
      let prev := match s.pins.find? fun p => p.pin == c.pin with | some p => p.outcome | none => 0
      let newBase := if o = 0 && base.isNone then some m.rl else none
      let pin : PinSt := { pin := c.pin, outcome := o, faulted := flt, rl := m.rl, ri := m.ri
                           recheck := if flt then some (now + secTicks 2) else none }
      let s := { s with
        chk := none, checks := sat 65535 (s.checks + 1)
        pins := (s.pins.filter fun p => p.pin != c.pin) ++ [pin]
        base := match newBase with | some b => insertKey c.pin b s.base | none => s.base }
      (wakeEntries now s, [.check c.pin o m.rl m.ri c.origin prev newBase])

/-- A round queues each check record (R262). -/
def checkRound (now : Nat) (s : SenseSt) : SenseSt :=
  if !s.powered || !s.cfgValid || now < s.lastRound + secTicks s.cfg.chkPeriod then s
  else (s.cfg.recs tyChkRec).zipIdx.foldl (fun a x => queueChk { pin := ckPin x.1, partner := ckPartner x.1, origin := 3, rec' := some x.2 } a)
    { s with lastRound := now }

/-- A faulted pin's re-check falls due (R266). -/
def pinRecheck (now pin : Nat) (s : SenseSt) : SenseSt :=
  match s.pins.find? fun p => p.pin == pin with
  | none => s
  | some p =>
    match p.recheck with
    | none => s
    | some d =>
      if now < d then s
      else
        let s := { s with pins := s.pins.map fun q => if q.pin = pin then { q with recheck := none } else q }
        let ent := (s.cfg.recs tyChan).find? fun r => (entryPins r).contains pin
        queueChk (chkFor s pin (partnerFor s (ent.getD []) pin) 1) s

/-- Busy bits of the lists (Table 7-14). -/
def listBusy (s : SenseSt) : Nat := maskOf 5 fun l => (s.pass l).isSome

end Sys2Proof.Machine
end

