-- ==== Sys2Proof/Machine/Valve.lean ====
section
/-!
DEFINITION. Valve drive of the POWER die: current shaping, bank sharing, coil model, diagnostics, movement (09).
States: 0 OFF, 1 WAIT, 2 RISE, 3 DWELL, 4 DROP, 5 HOLD, 6 DECAY, 7 FAULT.
-/
namespace Sys2Proof.Machine

def newValve (ch : Nat) : ValveSt :=
  { ch, cmd := false, state := 0, fault := 0, warns := 0, riseAt := 0, dwellAt := 0, holdAt := 0, waitAt := 0, order := 0
    pendOn := false, toFault := false, setp := 0, denials := 0, moveDue := false, moved := 0, warm := false, tw := 0, th := 0, ta := 0, rm := 0
    stress := 0, armed := false }

def PowerSt.valve (p : PowerSt) (ch : Nat) : Option ValveSt := p.valves.find? fun v => v.ch == ch
def PowerSt.setValve (p : PowerSt) (v : ValveSt) : PowerSt := { p with valves := p.valves.map fun x => if x.ch = v.ch then v else x }
/-- The record behind a channel. -/
def PowerSt.vrec (p : PowerSt) (ch : Nat) : Bytes := (p.cfg.valveRec ch).getD []

def bankOf (ch : Nat) : Nat := ch / 4
def energised (v : ValveSt) : Bool := decide (2 ≤ v.state) && decide (v.state ≤ 6)
/-- A channel of the bank is in RISE, DWELL or DROP (R278). -/
def bankBusy (p : PowerSt) (k : Nat) : Bool := p.valves.any fun v => bankOf v.ch == k && decide (2 ≤ v.state) && decide (v.state ≤ 4)

/-- High side of a bank (R275, R276): 0 off, 1 chopping, 2 fully on. A DROP or DECAY under CLAMP_LOW turns it off (R277). -/
def bankHigh (p : PowerSt) (k : Nat) : Nat :=
  let l := p.valves.filter fun v => bankOf v.ch == k && energised v
  if (p.banks.getD k { short := false, stuck := false }).short then 0
  else if l.any fun v => bit v.warns 3 && (v.state == 4 || v.state == 6) then 0
  else match l with
    | [] => 0
    | [v] => if v.state = 3 ∨ v.state = 5 then 1 else if v.state = 4 ∨ v.state = 6 then 0 else 2
    | _ => 2

/-- A converter code as a current is at least / at most a current in mA: 25 µV per code over the shunt (R270). -/
def codeReaches (r : Bytes) (code ma : Nat) : Bool := decide (ma * vaShunt r ≤ code * 25000)
def codeWithin (r : Bytes) (code ma : Nat) : Bool := decide (code * 25000 ≤ ma * vaShunt r)

/-- What a channel's current is regulated to (Table 9-3): I_PEAK up to the end of DWELL, then I_HOLD, under thermal reduction
I_HOLD_MIN in HOLD (R283). -/
def setPoint (r : Bytes) (v : ValveSt) : Nat :=
  if v.state = 2 ∨ v.state = 3 then vaIPeak r
  else if v.state = 4 then vaIHold r
  else if v.state = 5 then (if bit v.warns 1 then vaIHoldMin r else vaIHold r)
  else 0
def PowerSt.setPoints (p : PowerSt) : PowerSt := { p with valves := p.valves.map fun v => { v with setp := setPoint (p.vrec v.ch) v } }

/-- Reports of the changes of channels' fault codes and warnings (R289): the new code; a warning that begins gives its own
code, one that ends the fault code in force. -/
def codeReports (ev ch f0 f1 w0 w1 n : Nat) (extra : Bytes) : List RecBody :=
  (if f0 = f1 then [] else [RecBody.report ev (leBytes 1 ch ++ leBytes 1 f1 ++ extra)])
    ++ ((List.range n).filter fun i => bit w0 i != bit w1 i).map fun i =>
        RecBody.report ev (leBytes 1 ch ++ leBytes 1 (if bit w1 i then 0x40 + i else f1) ++ extra)

/-- A denial in a row is a report of its own although the code stays (R279). -/
def valveReports (a b : PowerSt) : List RecBody :=
  (b.valves.map fun v => match a.valve v.ch with
    | some o => codeReports 0x0701 v.ch o.fault v.fault o.warns v.warns 4 []
        ++ (if o.fault = v.fault ∧ o.denials ≠ v.denials then [RecBody.report 0x0701 (leBytes 1 v.ch ++ leBytes 1 v.fault)] else [])
    | none => []).flatten

def startRise (now : Nat) (v : ValveSt) : ValveSt := { v with state := 2, riseAt := now, moveDue := false, pendOn := false }

/-- The first waiting channel of a free bank starts (R278). -/
def releaseWait (now k : Nat) (p : PowerSt) : PowerSt :=
  if bankBusy p k then p
  else
    match (sortBy (fun a b => decide (a.order < b.order)) (p.valves.filter fun v => bankOf v.ch == k && v.state == 1)).head? with
    | some v => p.setValve (startRise now v)
    | none => p

/-- A channel takes a state; its bank may release a waiting channel (R278). -/
def toState (now : Nat) (v : ValveSt) (p : PowerSt) : PowerSt := releaseWait now (bankOf v.ch) (p.setValve v)

/-- OVERLAP_DENIED: back to OFF, with a report (R279). -/
def overlapDenied (v : ValveSt) (p : PowerSt) : PowerSt :=
  { p.setValve { v with state := 0, fault := 0x06, pendOn := false, denials := v.denials + 1 } with denied := sat 65535 (p.denied + 1) }

/-- A turn-on by R272: RISE, WAIT, or OVERLAP_DENIED at once (R279). -/
def valveOn (now : Nat) (v : ValveSt) (p : PowerSt) : PowerSt :=
  if p.supplyOff then p.setValve { v with state := 0, fault := 0x0A, pendOn := false }
  else if !bankBusy p (bankOf v.ch) then p.setValve (startRise now v)
  else if vaDefer (p.vrec v.ch) = 0 then overlapDenied v p
  else { p.setValve { v with state := 1, waitAt := now, order := p.order, pendOn := false } with order := p.order + 1 }

/-- A turn-off (R272, R273, R280). -/
def valveOff (now : Nat) (v : ValveSt) (p : PowerSt) : PowerSt :=
  if v.state = 1 then p.setValve { v with state := 0 }
  else if 2 ≤ v.state ∧ v.state ≤ 5 then toState now { v with state := 6 } p
  else if v.state = 6 then p.setValve { v with pendOn := false }
  else p.setValve v

/-- A channel in FAULT for THERM_CUT leaves it (Table 9-4). -/
def thermEnd (r : Bytes) (v : ValveSt) : ValveSt :=
  if v.state = 7 ∧ v.fault = 0x07 ∧ v.cmd = false ∧ v.tw * 128 < (vaTWarn r : Rat) then { v with state := 0, fault := 0 } else v

/-- A command level takes effect (R272, R273, R289). `edge`: a release makes an on level a rising edge (20 R512). -/
def valveLevel (now : Nat) (lvl edge : Bool) (ch : Nat) (p : PowerSt) : PowerSt :=
  match p.valve ch with
  | none => p
  | some v0 =>
    let rising := lvl && (edge || !v0.cmd)
    let v := { v0 with cmd := lvl }
    if v.state = 7 then p.setValve (thermEnd (p.vrec ch) v)
    else if !lvl then valveOff now v p
    else if !rising then p.setValve v
    else
      let v := if v.fault = 1 ∨ v.fault = 5 ∨ v.fault = 6 then { v with fault := 0 } else v
      if v.state = 0 then valveOn now v p
      else if v.state = 6 ∧ v.fault ≠ 0x0A ∧ v.toFault = false then p.setValve { v with pendOn := true }
      else p.setValve v

/-- Levels of a frame reach every channel, ascending (R278). -/
def valveLevels (now lvls : Nat) (edge : Bool) (p : PowerSt) : PowerSt :=
  (List.range 16).foldl (fun a ch => valveLevel now (bit lvls ch) edge ch a) p

/-- The safe state acts on the valves (R293). -/
def valveSafe (now : Nat) (p : PowerSt) : PowerSt :=
  (List.range 16).foldl (fun a ch => match vaSafe (p.vrec ch) with
    | 0 => valveLevel now false false ch a
    | 1 => valveLevel now true true ch a
    | _ => a) p

def stateIs (p : PowerSt) (ch st : Nat) : Option ValveSt := (p.valve ch).bind fun v => if v.state = st then some v else none

/-- First sample at or above I_PEAK (R272). -/
def valvePeak (now ch code : Nat) (p : PowerSt) : PowerSt :=
  match stateIs p ch 2 with
  | some v => if !codeReaches (p.vrec ch) code (vaIPeak (p.vrec ch)) then p else p.setValve { v with state := 3, dwellAt := now, moveDue := vaMoveEn (p.vrec ch) }
  | none => p

def valveDwellEnd (now ch : Nat) (p : PowerSt) : PowerSt :=
  match stateIs p ch 3 with
  | some v => if now < v.dwellAt + usTicks (100 * vaDwell (p.vrec ch)) then p else p.setValve { v with state := 4 }
  | none => p

/-- First sample at or below I_HOLD (R272). -/
def valveHold (now ch code : Nat) (p : PowerSt) : PowerSt :=
  match stateIs p ch 4 with
  | some v => if !codeWithin (p.vrec ch) code (vaIHold (p.vrec ch)) then p else toState now { v with state := 5, holdAt := now } p
  | none => p

/-- DECAY ends when every code of 20 µs, the highest being `top`, lies below 32 (R272, R273, Table 9-4). -/
def valveDecayEnd (now ch top : Nat) (p : PowerSt) : PowerSt :=
  match stateIs p ch 6 with
  | none => p
  | some v =>
    if 32 ≤ top then p
    else if v.toFault then toState now { v with state := 7, toFault := false } p
    else if v.pendOn then valveOn now { v with state := 0 } p
    else toState now { v with state := 0 } p

/-- RISE has lasted T_PEAK_MAX (R274). -/
def valvePeakTimeout (now ch : Nat) (p : PowerSt) : PowerSt :=
  match stateIs p ch 2 with
  | some v =>
    if now < v.riseAt + usTicks (100 * vaTPeakMax (p.vrec ch)) then p
    else toState now { v with state := 6, fault := 0x05 } { p with noPeak := sat 65535 (p.noPeak + 1) }
  | none => p

/-- The deferral timer reaches DEFER_MAX (R279). -/
def valveDeferTimeout (now ch : Nat) (p : PowerSt) : PowerSt :=
  match stateIs p ch 1 with
  | some v =>
    if now < v.waitAt + usTicks (100 * vaDefer (p.vrec ch)) then p
    else overlapDenied v p
  | none => p

/-- Fresh value of an Exchange slot at a die (R281, 10 after R299): the link is up, the mark is 1, 10 s at most. -/
def slotFresh (linkUp : Bool) (loc : Nat) (slots : List SlotCopy) (x : Nat) : Option Int :=
  match slots.find? fun c => c.slot == x with
  | some c => if linkUp ∧ c.valid ∧ x ≠ 0xFFFF ∧ loc ≤ c.stamp + secTicks 10 then some c.value else none
  | none => none

/-- One coil's model step of 1 ms (R281): i2 is the mean of the squares of its converter codes. -/
def coilStep (r : Bytes) (ta : Rat) (i2 : Nat) (v : ValveSt) : ValveSt :=
  let tw0 := if v.warm then v.tw else ta
  let th0 := if v.warm then v.th else ta
  let rthWh : Rat := (vaRthWh r : Rat) / 16
  let rthHa : Rat := (vaRthHa r : Rat) / 16
  let rw : Rat := (vaR20 r : Rat) / 1000 * (1 + 393 / 100000 * (tw0 - 20))
  let pw : Rat := rw * (625 * (i2 : Rat) / ((vaShunt r : Rat) * (vaShunt r : Rat)))
  let tw := tw0 + (pw - (tw0 - th0) / rthWh) * (1 / 1000) / ((vaCthW r : Rat) / 16)
  let th := th0 + ((tw - th0) / rthWh - (th0 - ta) / rthHa) * (1 / 1000) / ((vaCthH r : Rat) / 16)
  { v with tw, th, ta, warm := true }

/-- A limit with 5 °C of hysteresis (R283). -/
def limitOn (tw : Rat) (lim : Int) (on : Bool) : Bool :=
  if on then !decide (tw * 128 < (lim - 640 : Int)) else decide ((lim : Rat) ≤ tw * 128)

/-- Thermal limits and stress cycles (R283, R284). -/
def thermLimits (now : Nat) (r : Bytes) (v : ValveSt) (p : PowerSt) : PowerSt :=
  let warn := limitOn v.tw (vaTWarn r) (bit v.warns 0)
  let red := limitOn v.tw (vaTReduce r) (bit v.warns 1)
  let low := decide (v.tw * 128 < (vaTWarn r - 5120 : Int))
  let hit := v.armed && decide (((vaTWarn r - 3840 : Int) : Rat) ≤ v.tw * 128)
  let v := { v with warns := flagTo 1 red (flagTo 0 warn v.warns), armed := (v.armed || low) && !hit, stress := v.stress + b2n hit }
  if (vaTCut r : Rat) ≤ v.tw * 128 ∧ v.state ≠ 7 then
    if energised v then toState now { v with state := 6, fault := 0x07, toFault := true, pendOn := false } p
    else toState now { v with state := 7, fault := 0x07 } p
  else p.setValve (thermEnd r v)

/-- The 1 ms tick of the coil models (R281). `amb` gives a channel's ambient temperature in 1/128 °C. -/
def thermalTick (now loc : Nat) (linkUp : Bool) (i2 : List Nat) (dieT : Int) (p : PowerSt) : PowerSt :=
  if now < p.tickAt + usTicks 1000 then p
  else
    (List.range 16).foldl (fun a ch => match a.valve ch with
      | none => a
      | some v =>
        let r := a.vrec ch
        let t := (slotFresh linkUp loc a.cmd.slots (vaAmb r)).getD dieT
        thermLimits now r (coilStep r ((t : Rat) / 128) (i2.getD ch 0) v) a) { p with tickAt := now }

/-- A winding resistance from a 10 ms HOLD interval (R282): sums over whole chopping periods, of mV and of converter codes. A mean
below full scale / 16 measures nothing. -/
def resistanceMeasure (now ch sumV sumI meanI : Nat) (p : PowerSt) : PowerSt :=
  match stateIs p ch 5 with
  | none => p
  | some v =>
    let r := p.vrec ch
    if now < v.holdAt + usTicks 10000 then p
    else if meanI < 256 ∨ sumI = 0 then p.setValve { v with holdAt := now }
    else
      let rm : Rat := (sumV : Rat) * (vaShunt r : Rat) / (25 * (sumI : Rat))
      let tm : Rat := 20 + (rm / (vaR20 r : Rat) - 1) / (393 / 100000)
      p.setValve { v with holdAt := now, rm := (sumV * vaShunt r / (25 * sumI)) % 0x100000000
                          tw := v.tw + (vaCorr r : Rat) * (tm - v.tw) / 65536 }

/-- The off-state test's judgement, drain and bank voltage in mV (R285, Table 9-5). -/
def offStateTest (now ch vd vb : Nat) (p : PowerSt) : PowerSt :=
  match p.valve ch with
  | none => p
  | some v =>
    let off := bankHigh p (bankOf ch) == 0
    let okSt := v.state == 0 || (!off && v.state == 1)
    let verdict := if off then (if 6000 ≤ vd then 3 else if 4000 ≤ vd then 1 else if 800 ≤ vd then 0 else 2)
                   else (if vd < 800 then 2 else if vd + 2000 < vb then 1 else 0)
    if !okSt then p
    else if verdict = 3 ∨ verdict = 2 then toState now { v with state := 7, fault := if verdict = 3 then 0x03 else 0x02 } p
    else if verdict = 1 then p.setValve { v with fault := 0x01 }
    else p.setValve { v with fault := if v.fault = 1 then 0 else v.fault }

/-- Table 9-6's first two rows, the first that holds: two consecutive drain samples in mV; converter codes 2 µs before the second
current sample, of the first and of the second. -/
def onStateCode (r : Bytes) (v1 v2 i0 i1 i2 : Nat) : Nat :=
  if (3000 < v1 ∧ 3000 < v2) ∨ (i0 < i2 ∧ vaOcLimit r * vaShunt r < (i2 - i0) * 100000) then 0x03
  else if codeReaches r i1 (vaOcLimit r) && codeReaches r i2 (vaOcLimit r) then 0x04
  else 0
/-- An on-state fault turns the low side off (R286, R287). `since`: µs from the low side's turn-on edge to the first sample used. -/
def onStateFault (now ch since v1 v2 i0 i1 i2 : Nat) (p : PowerSt) : PowerSt :=
  match p.valve ch with
  | some v =>
    let code := onStateCode (p.vrec ch) v1 v2 i0 i1 i2
    if 4 ≤ since ∧ code ≠ 0 ∧ (v.state = 2 ∨ v.state = 3 ∨ v.state = 5) then toState now { v with state := 7, fault := code } p else p
  | none => p

/-- The on-state open test at T_DET: the current's converter code and the drain in mV at the end of the 20 µs (R286, R287). -/
def openTest (now ch iDet vd : Nat) (p : PowerSt) : PowerSt :=
  match stateIs p ch 2 with
  | none => p
  | some v =>
    let r := p.vrec ch
    if now < v.riseAt + usTicks (100 * vaTDet r) ∨ codeReaches r iDet (vaIDet r) = true then p
    else if 4000 ≤ vd ∨ (800 ≤ vd ∧ bankHigh p (bankOf ch) = 0) then toState now { v with state := 6, fault := 0x01 } p
    else toState now { v with state := 7, fault := 0x02 } p

/-- Every channel of a bank enters FAULT (R288). -/
def bankFault (k code : Nat) (p : PowerSt) : PowerSt :=
  { p with
    valves := p.valves.map fun v => if bankOf v.ch = k then { v with state := 7, fault := code, pendOn := false, toFault := false } else v
    banks := modifyAt (fun b => if code = 0x08 then { b with short := true } else { b with stuck := true }) k p.banks }

/-- HSBk_SRC stays below HSBk_SUP − 3 V for 2 µs, from 4 µs after the turn-on edge: its highest and its supply in mV (R288). -/
def bankShort (k since top sup : Nat) (p : PowerSt) : PowerSt :=
  if bankHigh p k = 2 ∧ k < 4 ∧ 4 ≤ since ∧ top + 3000 < sup then bankFault k 0x08 p else p
/-- HSBk_SRC stays above 6 V for 1 ms with the high side off: its lowest in mV (R288). -/
def bankStuck (k least : Nat) (p : PowerSt) : PowerSt := if bankHigh p k = 0 ∧ k < 4 ∧ 6000 < least then bankFault k 0x09 p else p

/-- The first bin b ≥ 2 at which the armature stops (R290), with its kink size. -/
def kinkAt (mm : Nat) (bins : List Int) : Option (Nat × Int) :=
  ((List.range bins.length).filterMap fun b =>
    if 2 ≤ b ∧ b + 1 < bins.length ∧ (mm : Int) ≤ bins.getD (b - 1) 0 - bins.getD b 0
        ∧ 2 * ((bins.getD (b + 1) 0 - bins.getD b 0).natAbs : Int) ≤ (mm : Int)
    then some (b, bins.getD (b - 1) 0 - bins.getD b 0) else none).head?

/-- A movement report (R290): the die's new state, the report and its instant. -/
def movement (now ch : Nat) (bins : List Int) (p : PowerSt) : PowerSt × Option (RecBody × Nat) :=
  match p.valve ch with
  | none => (p, none)
  | some v =>
    let r := p.vrec ch
    if !v.moveDue then (p, none)
    else
      match kinkAt (vaMoveMin r) bins with
      | some (b, k) =>
        let at' := v.dwellAt + usTicks (100 * b)
        let time := min ((at' - v.riseAt) * 10000 / 16777216) 65535
        (p.setValve { v with moveDue := false, moved := time, warns := flagTo 2 false v.warns },
         some (.sample (vaMoveSrc r) 0 (toS 32 (min k.toNat 65535 * 65536 + time)), at'))
      | none =>
        if v.state = 3 then (p, none)
        else (p.setValve { v with moveDue := false, warns := flagTo 2 true v.warns }, some (.sample (vaMoveSrc r) 0 0, now))

/-- VFLD against the clamp voltages (R277, Table 9-7). -/
def clampLow (vfld : Nat) (p : PowerSt) : PowerSt :=
  { p with
    vfld := vfld
    valves := p.valves.map fun v =>
      let c := vaClampMv (p.vrec v.ch)
      { v with warns := flagTo 3 (if bit v.warns 3 then !decide (vfld < c - 4000) else decide (c - 3000 < vfld)) v.warns } }

/-- T_PEAK_MAX ran out in an earlier cycle (R291). -/
def peakRanOut (now : Nat) (r : Bytes) (v : ValveSt) : Bool := v.fault == 0x05 && decide (v.riseAt + usTicks (100 * vaTPeakMax r) < now)
/-- VFLD below UV_OFF (R291). -/
def valveSupplyOff (now : Nat) (p : PowerSt) : PowerSt :=
  { p with valves := p.valves.map fun v =>
      if v.state = 7 then v
      else
        let st := if energised v then 6 else 0
        { v with state := st, pendOn := false, fault := if peakRanOut now (p.vrec v.ch) v ∨ v.toFault then v.fault else 0x0A } }

/-- Recovery of VFLD (R292): SUPPLY_OFF ends; an AUTO channel whose command is on turns on, out of a DECAY at its end. -/
def valveRecover (now : Nat) (p : PowerSt) : PowerSt :=
  (List.range 16).foldl (fun a ch => match a.valve ch with
    | none => a
    | some v =>
      let v := if v.fault = 0x0A then { v with fault := 0 } else v
      if vaLatched (a.vrec ch) || !v.cmd || v.toFault then a.setValve v
      else if v.state = 6 then a.setValve { v with pendOn := true }
      else if v.state = 0 then valveOn now v a else a.setValve v) p

/-- VLV_CLEAR of one channel (R289, Table 9-7); a bank's fault goes with all its codes. `holds`: HSBk_SRC still stands above 6 V
(BANK_STUCK_ON alone has a condition for its clear). None: CLEAR_PRESENT. -/
def valveClear (now ch : Nat) (holds : Bool) (p : PowerSt) : Option (PowerSt × Nat) :=
  match p.valve ch with
  | none => some (p, 0)
  | some v =>
    if v.fault = 0 then some (p, 0)
    else if v.state ≠ 7 ∨ v.fault = 0x07 ∨ (v.fault = 0x09 ∧ holds = true) then none
    else if v.fault = 0x08 ∨ v.fault = 0x09 then
      let k := bankOf ch
      some ({ p with
        valves := p.valves.map fun x => if bankOf x.ch = k ∧ (x.fault = 0x08 ∨ x.fault = 0x09) then { x with state := 0, fault := 0 } else x
        banks := setAt k { short := false, stuck := false } p.banks },
        (p.valves.filter fun x => bankOf x.ch == k && (x.fault == 0x08 || x.fault == 0x09)).length)
    else some (toState now { v with state := 0, fault := 0 } p, 1)

/-- Valve states after a record load: a channel that had a state keeps it. -/
def loadValves (d : Datum) (old : List ValveSt) : List ValveSt :=
  ((d.recs tyValve).filter vaEnabled).map fun r => (old.find? fun v => v.ch == vaCh r).getD (newValve (vaCh r))

/-- Registers and status of a channel (Tables 9-9, 9-15): Tw in 1/128 °C. -/
def twWord (v : ValveSt) : Nat := ofS 16 (satS 16 (v.tw * 128).floor)
def tempWord (t : Rat) : Nat := ofS 16 (satS 16 (t * 128).floor)

end Sys2Proof.Machine
end

