-- ==== Sys2Proof/Machine/Fan.lean ====
section
/-!
DEFINITION. Fan drive of the POWER die: demand, temperature loop, skip bands, start and stall, table, reports (10).
States: 0 OFF, 1 START, 2 RUN, 3 WAIT_RETRY, 4 LOCKED, 5 FAULT.
-/
namespace Sys2Proof.Machine

def newBin8 : FanBin := { l := 0, s := 0, n := 0 }
def noBins : List FanBin := List.replicate 8 newBin8

def newFan (r : Bytes) : FanSt :=
  { ch := fnCh r, state := 0, r := 0, attempts := 0, fault := 0, warns := 0, tHold := 0, i := fnRMin r, off := false
    loopT := 0, tableT := 0, looping := false, cur := 0, speed := 0, edges := [], edgeAt := none, cnt := 0, winAt := none
    retryAt := none, runAt := none, openOk := none, tsns := 3200, tsnsOk := none, rSince := 0, slewAt := 0, evalAt := 0
    learnAt := 0, lastRep := none, bins := noBins, wait := false, out := 0, under := 0 }

def PowerSt.fan (p : PowerSt) (ch : Nat) : Option FanSt := p.fans.find? fun f => f.ch == ch
def PowerSt.setFan (p : PowerSt) (f : FanSt) : PowerSt := { p with fans := p.fans.map fun x => if x.ch = f.ch then f else x }
def PowerSt.frec (p : PowerSt) (ch : Nat) : Bytes := (p.cfg.fanRec ch).getD []
def PowerSt.fcmd (p : PowerSt) (ch : Nat) : FanCmd :=
  (p.cmd.fans.find? fun c => c.ch == ch).getD { ch, dec := 0, host := 0, force := none, tset := none, table := false }

/-- What the fan rules read besides the channel: time, the link's state, the safe state. -/
structure FanEnv where
  now : Nat
  /-- the die's local Meridian copy -/
  loc : Nat
  linkUp : Bool
  safe : Bool
deriving DecidableEq, Repr

def fanReports (a b : PowerSt) : List RecBody :=
  (b.fans.map fun v => match a.fan v.ch with
    | some o => codeReports 0x0801 v.ch o.fault v.fault o.warns v.warns 4 []
        ++ (if o.state ≠ 4 ∧ v.state = 4 then [RecBody.report 0x0802 (leBytes 1 v.ch)] else [])
    | none => []).flatten

/-- The table's reference at a temperature (R309). -/
def tableAt (pts : List (Int × Nat)) (t : Int) : Nat :=
  match pts with
  | [] => 0
  | (t0, u0) :: _ =>
    if t ≤ t0 then u0
    else
      match ((pts.zip (pts.drop 1)).find? fun q => decide (q.1.1 ≤ t) && decide (t < q.2.1)) with
      | some (a, b) => ((a.2 : Int) + divr (((b.2 : Int) - a.2) * (t - a.1)) (b.1 - a.1)).toNat
      | none => (pts.getLast?.getD (0, 0)).2

def tsnsBad (f : FanSt) : Bool := bit f.warns 2

/-- Table mode's reference now (R309, R310). -/
def tableRef (e : FanEnv) (slots : List SlotCopy) (r : Bytes) (f : FanSt) : Nat :=
  match slotFresh e.linkUp e.loc slots (fnXslot r) with
  | some t => tableAt (fnTable r) t
  | none => if tsnsBad f then ((fnTable r).getLast?.getD (0, 0)).2 else tableAt (fnTable r) f.tsns

/-- The target t (R297, Table 10-3), with the TABLE mark. -/
def fanTarget (e : FanEnv) (supplyOff : Bool) (c : FanCmd) (r : Bytes) (f : FanSt) : Nat × Bool :=
  if f.state = 5 ∨ f.state = 4 ∨ f.state = 3 ∨ supplyOff ∨ f.fault = 0x07 then (0, false)
  else if e.safe then
    match fnSafe r with
    | 0 => (0, false)
    | 1 => (fnSafeLevel r, false)
    | 2 => (f.tHold, false)
    | _ => (f.tableT, true)
  else
    match c.force with
    | some v => (v, false)
    | none =>
      if c.table && fnHostTable r then (f.tableT, true)
      else if fnSource r = 0 then (c.dec, false)
      else if fnSource r = 1 then (if f.looping then (f.loopT, false) else (f.tableT, true))
      else (c.host, false)

/-- The target before the output is taken to 0: what a retry or a LATCHED recovery looks at. -/
def fanAsk (e : FanEnv) (c : FanCmd) (r : Bytes) (f : FanSt) : Nat :=
  (fanTarget e false c r { f with state := 0, fault := 0 }).1

/-- Enter START, or RUN for a channel in reference mode (R305). -/
def fanStart (e : FanEnv) (r : Bytes) (f : FanSt) : FanSt :=
  if fnRef r then { f with state := 2, runAt := some e.now, fault := if f.fault = 1 then 0 else f.fault }
  else { f with state := 1, winAt := if fnRStart r ≤ f.r then some e.now else none, cnt := 0 }

/-- OFF and a target that is not 0: start (R305); a LATCHED channel waits for its target to pass through 0 (R311). -/
def fanWake (e : FanEnv) (supplyOff : Bool) (c : FanCmd) (r : Bytes) (f : FanSt) : FanSt :=
  let f := if f.wait && fanAsk e c r f == 0 then { f with wait := false } else f
  if f.state = 0 ∧ f.wait = false ∧ 0 < (fanTarget e supplyOff c r f).1 then fanStart e r f else f

/-- The voltage that an applied reference asks for, mV (R295). -/
def fanVolts (r : Bytes) (x : Nat) : Nat := (divr ((x * (if fnRef r then 10000 else fnVMax r) : Nat) : Int) 65536).toNat
/-- The output and DROPOUT at a known VFLD in mV (R295): a buck cannot exceed VFLD − 1 V, a reference needs 12 V. -/
def fanOutput (r : Bytes) (vfld : Nat) (f : FanSt) : FanSt :=
  let v := fanVolts r f.r
  let top := if vfld = 0 ∨ fnRef r = true then v else min v (vfld - 1000)
  { f with out := top
           warns := if vfld = 0 then f.warns else flagTo 1 (if fnRef r then decide (vfld < 12000) else decide (top < v)) f.warns }
def PowerSt.outputs (p : PowerSt) : PowerSt := { p with fans := p.fans.map fun f => fanOutput (p.frec f.ch) p.vfld f }

/-- The measured current, mA: at most the full scale of 102.4 mV over the shunt; 0 in reference mode (R295). -/
def fanCur (r : Bytes) (i : Nat) : Nat := if fnRef r then 0 else min i (102400000 / fnShunt r)

/-- Re-evaluate every fan after the frame or event at hand. -/
def fansWake (e : FanEnv) (p : PowerSt) : PowerSt :=
  { p with fans := p.fans.map fun f => fanWake e p.supplyOff (p.fcmd f.ch) (p.frec f.ch) f }

/-- A failed attempt (R305, R307): r to 0 at once. -/
def fanStall (e : FanEnv) (r : Bytes) (f : FanSt) : FanSt :=
  let n := f.attempts + 1
  if 8 ≤ n then { f with state := 4, r := 0, attempts := 8, fault := 0x02, winAt := none, runAt := none, rSince := e.now }
  else { f with state := 3, r := 0, attempts := n, fault := 0x01, winAt := none, runAt := none, rSince := e.now
                retryAt := some (e.now + secTicks (fnTRetry r)) }

def toRun (e : FanEnv) (f : FanSt) : FanSt :=
  { f with state := 2, runAt := some e.now, winAt := none, fault := if f.fault = 1 then 0 else f.fault }

/-- Skip bands (R302). -/
def skipEdge (bands : List (Nat × Nat)) (r t : Nat) : Nat :=
  match bands.find? fun b => decide (b.1 < t) && decide (t < b.2) with
  | none => t
  | some (lo, hi) => if r ≤ lo then lo else if hi ≤ r then hi else if t - lo < hi - t then lo else hi

def moveBy (lim r t : Nat) : Nat := if r < t then min t (r + lim) else max t (r - lim)

/-- One millisecond of slew (R302, R305). A target of 0 takes a channel in START down to OFF. -/
def fanSlew (e : FanEnv) (supplyOff : Bool) (c : FanCmd) (r : Bytes) (f0 : FanSt) : FanSt :=
  if e.now < f0.slewAt + usTicks 1000 then f0
  else
    let f := fanWake e supplyOff c r { f0 with slewAt := e.now }
    let t0 := (fanTarget e supplyOff c r f).1
    let setR := fun v => if v = f.r then f else { f with r := v, rSince := e.now }
    if f.state = 1 then
      if t0 = 0 then
        let g := setR (moveBy (fnSlewMax r) f.r 0)
        { g with state := if g.r = 0 then 0 else 1, winAt := none }
      else
        let v := moveBy (fnSlewMax r) f.r (fnRStart r)
        let g := setR v
        if v = fnRStart r ∧ f.winAt.isNone then { g with winAt := some e.now, cnt := 0 } else g
    else if f.state = 2 then
      let t := if t0 = 0 then 0 else skipEdge (fnSkips r) f.r t0
      let inBand := (fnSkips r).any fun b => decide (b.1 < f.r) && decide (f.r < b.2)
      let g := setR (moveBy (if t = 0 || inBand then fnSlewMax r else fnSlew r) f.r t)
      if t = 0 ∧ g.r = 0 then { g with state := 0, runAt := none } else g
    else f

/-- The tach is silent: no rising edge for 1 s (R303). -/
def tachSilent (now : Nat) (r : Bytes) (f : FanSt) : Bool :=
  fnPpr r == 0 || (match f.edgeAt with | some a => decide (a + secTicks 1 ≤ now) | none => true)

/-- The start window is open; its last instant counts (R305, R308). -/
def windowOpen (now : Nat) (r : Bytes) (f : FanSt) : Bool :=
  match f.winAt with | some w => decide (now ≤ w + usTicks (100000 * fnTStart r)) | none => false

/-- A filtered rising edge (R303, R305, R306): `us` is the die's time in µs. -/
def tachEdge (e : FanEnv) (r : Bytes) (us : Nat) (f : FanSt) : FanSt :=
  if fnPpr r = 0 then f else
  let silent := tachSilent e.now r f
  let es := (us :: f.edges).take (fnPpr r + 1)
  let span := es.headD 0 - es.getLast?.getD 0
  let speed := if es.length = fnPpr r + 1 ∧ 0 < span then (divr (60000000 * fnPpr r : Nat) (span : Nat)).toNat else f.speed
  let cnt := if silent && f.state != 1 then 1 else f.cnt + 1
  let f := { f with edges := es, edgeAt := some e.now, speed, cnt }
  if f.state = 1 ∧ windowOpen e.now r f = true ∧ 2 ≤ f.cnt then { toRun e f with warns := flagTo 0 false f.warns, fault := 0 }
  else if f.state = 2 ∧ 2 ≤ f.cnt then
    { f with warns := flagTo 0 false f.warns, fault := if f.fault = 3 then 0 else f.fault }
  else f

/-- The start window ends (R305); i is the mean current of the last 100 ms. -/
def startWindowEnd (e : FanEnv) (supplyOff : Bool) (c : FanCmd) (r : Bytes) (i : Nat) (f : FanSt) : FanSt :=
  match f.state, f.winAt with
  | 1, some w =>
    if e.now < w + usTicks (100000 * fnTStart r) then f
    else if (fanTarget e supplyOff c r f).1 = 0 then { f with state := 0, r := 0, winAt := none }
    else
      let i := fanCur r i
      if i < fnIOpen r then { toRun e f with fault := 0x03, cur := i, cnt := 0 }
      else if fnPpr r ≠ 0 ∨ fnIStall r ≤ i then fanStall e r { f with cur := i }
      else toRun e { f with cur := i }
  | _, _ => f

def binOf8 (f : FanSt) : FanBin := f.bins.getD (f.r / 8192) newBin8
def binLearned (b : FanBin) : Bool := decide (16 ≤ b.n)
/-- Above the top of the bin's band, or at or above I_STALL where it is not learned (R304, R306). -/
def currentHigh (r : Bytes) (f : FanSt) (i : Nat) : Bool :=
  let b := binOf8 f
  if binLearned b then decide (divr (b.l * (100 + fnBand r : Nat)) 100 < (i : Int)) else decide (fnIStall r ≤ i)

/-- A running fan judged by its current (R306, Table 10-5); without a tach it is always silent. -/
def runJudge (e : FanEnv) (supplyOff : Bool) (c : FanCmd) (r : Bytes) (i0 : Nat) (silent : Bool) (f0 : FanSt) : FanSt :=
  let i := fanCur r i0
  let f := { f0 with cur := i }
  if f.state ≠ 2 then f
  else if fnRef r then (if fnPpr r ≠ 0 ∧ silent then { f with warns := flagTo 0 true f.warns } else f)
  else
    let ok := if i < fnIOpen r then none else some (f.openOk.getD e.now)
    let f := { f with openOk := ok }
    let held := match ok with | some a => decide (a + secTicks 1 ≤ e.now) | none => false
    let f := if f.fault = 3 ∧ held = true then { f with fault := 0 } else f
    if f.r < fnRStart r || !silent then f
    else if i < fnIOpen r then { f with fault := 0x03, cnt := 0 }
    else if currentHigh r f i then
      (if (fanTarget e supplyOff c r f).1 = 0 then { f with state := 0, r := 0, runAt := none } else fanStall e r f)
    else { f with warns := flagTo 0 true f.warns, cnt := 0 }

/-- OUT_SHORT, OUT_HIGH, REF_SHORT (R306): the output in mV, its current limit, both MOSFETs off, as they stood for 10 ms. 0: none. -/
def outputCode (r : Bytes) (mv : Nat) (limit off : Bool) (f : FanSt) : Nat :=
  let v := fanVolts r f.r
  if fnRef r then (if limit then 0x06 else 0)
  else if f.state = 2 ∧ fnRStart r ≤ f.r ∧ limit = true ∧ mv * 4 < v then 0x04
  else if off = true ∧ v + 2000 < mv then 0x05 else 0
def outputFault (e : FanEnv) (r : Bytes) (mv : Nat) (limit off : Bool) (f : FanSt) : FanSt :=
  let code := outputCode r mv limit off f
  if code = 0 ∨ f.state = 5 then f
  else { f with state := 5, r := 0, fault := code, winAt := none, runAt := none, retryAt := none, rSince := e.now }

/-- T_RETRY after a STALL (R307). -/
def retryTimeout (e : FanEnv) (c : FanCmd) (r : Bytes) (f : FanSt) : FanSt :=
  match f.state, f.retryAt with
  | 3, some a =>
    if e.now < a then f
    else if fanAsk e c r f = 0 then { f with state := 0, retryAt := none }
    else fanStart e r { f with retryAt := none }
  | _, _ => f

/-- RUN has lasted 60 s (R307). -/
def run60 (e : FanEnv) (f : FanSt) : FanSt :=
  match f.state, f.runAt with
  | 2, some a => if a + secTicks 60 ≤ e.now then { f with attempts := 0 } else f
  | _, _ => f

/-- A channel leaves LOCKED, FAULT or a new stall for OFF and starts again at once where its target is not 0 (R307, R308). -/
def fanRelease (e : FanEnv) (supplyOff : Bool) (c : FanCmd) (r : Bytes) (f : FanSt) : FanSt :=
  fanWake e supplyOff c r { f with state := 0, attempts := 0, fault := if supplyOff then 0x07 else 0, retryAt := none }
/-- FAN_CLEAR of one channel (R307); it releases a channel whose STALL was judged in the same cycle (R308). None: CLEAR_PRESENT. -/
def fanClear (e : FanEnv) (supplyOff : Bool) (c : FanCmd) (r : Bytes) (holds : Bool) (f : FanSt) : Option (FanSt × Nat) :=
  if f.state = 4 ∨ (f.state = 3 ∧ f.retryAt = some (e.now + secTicks (fnTRetry r))) then some (fanRelease e supplyOff c r f, 1)
  else if f.state = 5 then
    if holds then none else some (fanRelease e supplyOff c r f, 1)
  else some ({ f with attempts := 0 }, 0)

/-- The temperature loop's step (R300, R301). In table mode of the safe state i follows r, so that the loop resumes without a bump. -/
def loopTick (e : FanEnv) (slots : List SlotCopy) (c : FanCmd) (r : Bytes) (f0 : FanSt) : FanSt :=
  if fnSource r ≠ 1 ∨ e.now < f0.evalAt + usTicks 100000 then f0
  else
    let f := { f0 with evalAt := e.now }
    match slotFresh e.linkUp e.loc slots (fnXslot r) with
    | none => { f with looping := false, tableT := tableRef e slots r f, warns := flagTo 3 true f.warns }
    | some t =>
      if e.safe && fnSafe r == 3 then { f with i := f.r, loopT := f.r, looping := true, warns := flagTo 3 false f.warns }
      else
      let set := c.tset.getD (fnTSet r)
      let err := if fnReverse r then set - t else t - set
      let i0 : Int := if f.looping then f.i else if bit f.warns 3 then (f.r : Int) else f.i
      let i := clampI (fnRMin r) (fnRMax r) (i0 + rnd ((fnKi r : Int) * err) 7)
      let u := clampI (fnRMin r) (fnRMax r) (rnd ((fnKp r : Int) * err) 7 + i)
      let toff := toS 16 (fnTOff r)
      let off := if fnTOff r = 0x8000 then f.off else if t < toff then true else if toff + 128 ≤ t then false else f.off
      { f with i, off, looping := true, loopT := if off then 0 else u.toNat, warns := flagTo 3 false f.warns }

/-- Table mode is evaluated (R309). -/
def tableTick (e : FanEnv) (slots : List SlotCopy) (r : Bytes) (f : FanSt) : FanSt :=
  if e.now < f.evalAt + usTicks 100000 ∧ fnSource r ≠ 1 then f
  else { f with tableT := tableRef e slots r f, evalAt := if fnSource r = 1 then f.evalAt else e.now }

/-- FANn_TSNS is read (R310, Table 10-6). -/
def tsnsRead (e : FanEnv) (t : Int) (f : FanSt) : FanSt :=
  let bad := decide (t < -6400) || decide (19200 < t)
  let ok := if bad then none else some (f.tsnsOk.getD e.now)
  let clear := match ok with | some a => decide (a + secTicks 1 ≤ e.now) | none => false
  { f with tsns := t, tsnsOk := ok, warns := if bad then flagTo 2 true f.warns else if clear then flagTo 2 false f.warns else f.warns }

/-- A steady second in RUN updates the bin (R304). -/
def binLearn (e : FanEnv) (r : Bytes) (i : Nat) (f : FanSt) : FanSt :=
  if f.state ≠ 2 ∨ tachSilent e.now r f ∨ e.now < f.rSince + secTicks 2 ∨ e.now < f.learnAt + secTicks 1 then f
  else
    let i := fanCur r i
    { f with
      learnAt := e.now, cur := i
      bins := modifyAt (fun b => { l := b.l + divr ((i : Int) - b.l) 16, s := b.s + divr ((f.speed : Int) - b.s) 16, n := min (b.n + 1) 255 })
        (f.r / 8192) f.bins }

/-- Last unit of the plant frame that a report describes (R313). -/
def reportUnit (loc : Nat) : Nat := if loc % 8 = 7 then loc else (loc / 8 * 8 + 16777215) % 16777216

/-- The speed as reports show it, with its CODE (R306, R313): 0 VALID; 1 ESTIMATED, s[b] of a learned bin under TACH_LOST; 2 UNKNOWN. -/
def shownSpeed (now : Nat) (r : Bytes) (f : FanSt) : Nat × Nat :=
  let b := binOf8 f
  if bit f.warns 0 then (if binLearned b then (1, b.s.toNat) else (2, 0))
  else if tachSilent now r f then (2, 0) else (0, f.speed)

/-- The three samples of a plant frame (R313), with their short stamp. -/
def frameReport (e : FanEnv) (supplyOff : Bool) (c : FanCmd) (r : Bytes) (i : Nat) (loc : Nat) (f0 : FanSt) : FanSt × List RecBody :=
  let u := reportUnit loc
  if f0.lastRep = some u then (f0, [])
  else
    let f := { f0 with cur := fanCur r i, lastRep := some u }
    let tab := (fanTarget e supplyOff c r f).2
    let st := f.state * 16 + b2n tab * 256
    let spd := shownSpeed e.now r f
    (f, [.sample (fnSrcBase r) (st + spd.1) spd.2, .sample (fnSrcBase r + 1) st f.cur, .sample (fnSrcBase r + 2) st f.r])

/-- VFLD below UV_OFF: 0 V at once and SUPPLY_OFF (R311); a LOCKED or FAULT channel stays so. -/
def fanSupplyOff (now : Nat) (f : FanSt) : FanSt :=
  if f.fault = 0x07 then f
  else if f.state = 4 ∨ f.state = 5 then { f with r := 0, rSince := now, fault := 0x07, under := f.fault }
  else { f with state := 0, r := 0, fault := 0x07, winAt := none, runAt := none, retryAt := none, rSince := now }

/-- Recovery (R311). -/
def fanRecover (e : FanEnv) (c : FanCmd) (r : Bytes) (f : FanSt) : FanSt :=
  if f.fault ≠ 0x07 then f
  else if f.state = 4 ∨ f.state = 5 then { f with fault := f.under, under := 0 }
  else fanWake e false c r { f with fault := 0, wait := fnLatched r }

/-- Safe entry: the HOLD target and the table's reference (R297). -/
def fanSafeEntry (e : FanEnv) (supplyOff : Bool) (slots : List SlotCopy) (c : FanCmd) (r : Bytes) (f : FanSt) : FanSt :=
  { f with tHold := (fanTarget { e with safe := false } supplyOff c r f).1, tableT := tableRef e slots r f }

/-- Fan states after a record load: i and off as R300 says, bins as LOGIC returns them (R304). -/
def loadFans (d : Datum) (bins : List (Nat × List FanBin)) (old : List FanSt) : List FanSt :=
  ((d.recs tyFan).filter fnEnabled).map fun r =>
    let f := (old.find? fun v => v.ch == fnCh r).getD (newFan r)
    { f with i := fnRMin r, off := false, bins := (lookupKey (fnCh r) bins).getD noBins }

end Sys2Proof.Machine
end

