-- ==== Sys2Proof/Machine/Predict.lean ====
section
/-!
DEFINITION. Prediction: the inputs of a start (04 R141), the runs (R142-R145), the result (R146, Tables 4-11, 4-12).
-/
namespace Sys2Proof.Machine

/-- Member offsets z[n], 2^-12 standard deviations (Table 4-10). -/
def memberZ (members n : Nat) : Int :=
  let l : List Int := match members with
    | 2 => [-2763, 2763]
    | 4 => [-4712, -1305, 1305, 4712]
    | 8 => [-6284, -3634, -2002, -644, 644, 2002, 3634, 6284]
    | _ => [0]
  l.getD n 0

/-- The shifted moisture of R143. -/
def shiftM (z : Int) (m var : Nat) : Nat := storeU16 (m + rnd (rnd (z * (Nat.sqrt (var * 16777216) : Nat)) 12) 8)

/-- A prediction that starts from frame S (R140-R142). `q0`: discharge volume per frame in force; `plen`: the drying
layer's plenum set-point of each zone, where it has one. -/
def predStart (imgs : List Bytes) (r : MapRecs) (pr : Bytes) (s q0 : Nat) (plen : List (Option Int)) (bias : List Int) (m : GMap) :
    PredJob :=
  let heldOr (src : Nat) : Int := (lookupKey src m.held).getD 0
  let ambT := heldOr (mapAmbT r.mr)
  let kind := m.shape.kind
  let mem := prMembers pr
  let cands := if kind = kCont then List.range 16 else [0]
  { start := s, bound := s + prPeriod pr, shape := m.shape, cells := m.cells, adv := m.adv, rot := m.rot,
    inlet := (if m.noInlet then none else some m.inlet), fillT := ambT, fillLegend := m.inlet.legend, fillLot := m.inlet.lot,
    psc := pscOf (mapPressure r.mr), ambT := ambT, ambRh := heldOr (mapAmbRh r.mr),
    zones := (List.range r.zones.length).map fun i =>
      let z := r.zones.getD i []
      { flow := (if znFlow z = 0 then (znConst z : Int) else heldOr (znFlow z)),
        ta := (if znKind z = 1 then (plen.getD i none).getD (heldOr (znTemp z)) else ambT) },
    bias := bias, legends := imgs, q := (if q0 = 0 then prNom pr else q0), fromNom := q0 == 0,
    rotFrame := (divr (sumN ((m.rots.filter fun p => decide (s < p.1 + prPeriod pr)).map Prod.snd)) (prPeriod pr)).toNat, members := mem, predStep := prStep pr, horizon := prHorizon pr,
    factors := prFactors pr, zoneRows := r.zones.map fun z => (znFirst z, znLast z),
    todo := (cands.map fun c => (List.range mem).map fun n => (c, n)).flatten, done := [] }

/-- What fills rows of a member's run (R143, 03 R103). -/
def predFill (j : PredJob) (z : Int) : Fill :=
  match j.inlet with
  | some i => { m := shiftM z i.m i.var, var := i.var, t := i.t, lot := i.lot, legend := i.legend, est := !i.measured, sat := false }
  | none => { m := shiftM z 0 0, var := 0, t := storeS16 j.fillT, lot := j.fillLot, legend := j.fillLegend, est := true, sat := outS16 j.fillT }

/-- One member value from cells (R145). -/
def memStepOf (cs : List Cell) (dist : List (Nat × Nat)) : MemStep :=
  if cs = [] then { grain := false, v := 0, legend := 0, cells := [] }
  else { grain := true, v := divr (wsum cs fun c => c.m) (dryOf cs), legend := heaviest cs Cell.legend, cells := dist }

/-- State of a run between prediction steps. -/
structure RunSt where
  cells : List Cell
  adv : Nat
  rot : Nat
  run : MemRun
deriving DecidableEq, Repr

/-- Zone environments of a prediction step in frame n. -/
def predZones (j : PredJob) (n : Nat) : List (Nat × Nat × ZoneEnv) :=
  let wa := wambOf j.psc j.ambT j.ambRh
  (j.zoneRows.zip j.zones).map fun p =>
    (p.1.1, p.1.2,
      { stepFrames := j.predStep, frame := n, psc := j.psc,
        ma := airMass p.2.flow j.predStep (strandsOf j.shape p.1.1 p.1.2), wamb := wa.1, taIn := p.2.ta * 32, sat := wa.2 })

/-- Prediction step h of a run (R144, R145). -/
def predStepOf (j : PredJob) (legs : List LegEnv) (f : Fill) (dens : Int) (cand h : Nat) (st : RunSt) : RunSt :=
  let n := j.start + h * j.predStep
  let upd := updateCells j.shape legs (predZones j n) st.cells
  let occ := upd.filter Cell.occ
  let lost := sumI ((st.cells.zip upd).map fun p => if p.1.occ then (p.1.dry : Int) * ((p.2.dml : Int) - p.1.dml) else 0)
  let cells := ageCells j.predStep upd
  let adv := if j.shape.kind = kCont then (addCredit st.adv (divr (j.q * j.factors.getD cand 0 * j.predStep) 32768).toNat).1 else st.adv
  let rot := if j.shape.kind = kRecirc then (addCredit st.rot (j.rotFrame * j.predStep)).1 else st.rot
  let mv := advect j.shape dens f (rowsOf j.shape cells) adv rot 0
  let out := mv.out.flatten.filter Cell.occ
  let left := mv.rows.flatten.filter Cell.occ
  let bottom := ((mv.rows.reverse.find? rowOcc).getD []).filter Cell.occ
  let ms := if j.shape.kind = kCont then memStepOf (if out = [] then bottom else out) []
    else memStepOf left (left.map fun c => (c.m, c.dry))
  { cells := mv.rows.flatten, adv := mv.adv, rot := mv.rot,
    run := { st.run with
      steps := st.run.steps ++ [ms],
      overheat := st.run.overheat || occ.any (fun c => bit c.flags cfOverheat),
      airLimit := st.run.airLimit || occ.any (fun c => bit c.flags cfAirLimit),
      maxT := (occ ++ left).foldl (fun a c => max a c.t) st.run.maxT, seen := st.run.seen || !occ.isEmpty || !left.isEmpty,
      rows := st.run.rows + (mv.out.filter rowOcc).length, lost := st.run.lost + lost } }

/-- The steps `h .. h + k - 1` of a run. -/
def predSteps (j : PredJob) (legs : List LegEnv) (f : Fill) (dens : Int) (cand : Nat) : Nat → Nat → RunSt → RunSt
  | 0, _, st => st
  | k + 1, h, st => predSteps j legs f dens cand k (h + 1) (predStepOf j legs f dens cand h st)

/-- The run of one member of one candidate (R143-R145). -/
def predRun (j : PredJob) (cand member : Nat) : MemRun :=
  let z := memberZ j.members member
  let f := predFill j z
  let legs := legEnvs j.legends (stepDt j.predStep)
  let cells := j.cells.map fun c => if c.occ then { c with m := shiftM z c.m c.var } else c
  (predSteps j legs f (kinOf (legImg j.legends f.legend)).dens cand j.horizon 1
    { cells := cells, adv := j.adv, rot := j.rot,
      run := { cand := cand, member := member, steps := [], overheat := false, airLimit := false, maxT := -32768, seen := false,
               rows := 0, lost := 0 } }).run

/-- Smallest value whose cumulative dry mass reaches p % of the total (R146); cells ascending. -/
def percentile (p total : Nat) : Nat → List (Int × Nat) → Int
  | _, [] => 0
  | cum, (v, d) :: r => if p * total ≤ (cum + d) * 100 then v else percentile p total (cum + d) r

def minI (l : List Int) : Int := match l with | [] => 0 | a :: r => r.foldl min a
def maxI (l : List Int) : Int := match l with | [] => 0 | a :: r => r.foldl max a

/-- The ensemble entry of a step from its member values, with each member's bias (R146). -/
def ensemble (kind : Nat) (bias : List Int) (ms : List MemStep) : PredStep :=
  let on := ms.filter MemStep.grain
  let c : Int := on.length
  if on = [] then { mean := 0, spread := 0, low := 0, high := 0, noGrain := true }
  else
    let b8 (s : MemStep) : Int := rnd (bias.getD s.legend 0) 8
    let us := on.map fun s => s.v + b8 s
    let m := divr (sumI (on.map MemStep.v)) c
    let var := divr (sumI (on.map fun s => (s.v - m) * (s.v - m))) c
    let dist := sortBy (fun (a b : Int × Nat) => decide (a.1 < b.1))
      ((on.map fun s => s.cells.map fun q => ((q.1 : Int) + b8 s, q.2)).flatten)
    let total := sumN (dist.map Prod.snd)
    let lo := if kind = kCont then minI us else percentile 10 total 0 dist
    let hi := if kind = kCont then maxI us else percentile 90 total 0 dist
    { mean := storeU16 (divr (sumI us) c), spread := min 65535 (Nat.sqrt var.toNat), low := storeU16 lo, high := storeU16 hi, noGrain := false }

/-- Candidate block of a candidate that was run (Table 4-12). -/
def candBlock (j : PredJob) (cand : Nat) : CandBlk :=
  let rs := sortBy (fun (a b : MemRun) => decide (a.member < b.member)) (j.done.filter fun r => r.cand == cand)
  let steps := (List.range j.horizon).map fun h =>
    rs.map fun r => r.steps.getD h { grain := false, v := 0, legend := 0, cells := [] }
  let noGrain := steps.any fun l => l.any fun s => !s.grain
  { factor := j.factors.getD cand 0,
    flags := (if noGrain then 2 else 0) + (if rs.any MemRun.overheat then 4 else 0) + (if rs.any MemRun.airLimit then 8 else 0),
    maxT := maxI (rs.map MemRun.maxT), rows := (divr (sumN (rs.map MemRun.rows)) rs.length).toNat,
    lost := (divr (sumI (rs.map fun r => divr r.lost 1000000)) rs.length).toNat, steps := steps.map (ensemble j.shape.kind j.bias) }

/-- Block of a candidate that is not run. -/
def notRun (j : PredJob) (cand : Nat) : CandBlk :=
  { factor := j.factors.getD cand 0, flags := 1, maxT := -32768, rows := 0, lost := 0,
    steps := List.replicate j.horizon { mean := 0, spread := 0, low := 0, high := 0, noGrain := false } }

/-- The result of a prediction whose runs have all ended (Table 4-11). -/
def predResultOf (j : PredJob) : PredResult :=
  { bound := j.bound, start := j.start, map := j.shape.num, members := j.members, horizon := j.horizon, q := j.q,
    predStep := j.predStep, flags := b2n j.fromNom + 2 * b2n j.inlet.isNone,
    cands := (List.range 16).map fun c => if j.shape.kind = kCont ∨ c = 0 then candBlock j c else notRun j c }

def predStepBytes (p : PredStep) : Bytes := leBytes 2 p.mean ++ leBytes 2 p.spread ++ leBytes 2 p.low ++ leBytes 2 p.high

/-- A candidate block (Table 4-12); its counts saturate to their fields (03 R92). -/
def candBytes (c : CandBlk) : Bytes :=
  leBytes 2 c.factor ++ leBytes 2 c.flags ++ leBytes 2 (ofS 16 c.maxT) ++ leBytes 2 (sat 65535 c.rows) ++ leBytes 4 (sat 0xFFFFFFFF c.lost) ++ zeros 4 ++
  (c.steps.map predStepBytes).flatten

/-- The bytes of a prediction result (Tables 4-11, 4-12). -/
def predBytes (p : PredResult) : Bytes :=
  leBytes 8 p.bound ++ leBytes 8 p.start ++ leBytes 1 p.map ++ leBytes 1 p.members ++ leBytes 2 p.horizon ++ leBytes 4 p.q ++
  leBytes 2 p.predStep ++ leBytes 2 p.flags ++ zeros 4 ++ (p.cands.map candBytes).flatten

end Sys2Proof.Machine
end

