-- ==== Sys2Proof/Machine/Uio.lean ====
section
/-!
DEFINITION. Universal 24 V channels of the IO die: inputs, outputs, diagnostics, supplies (11).
-/
namespace Sys2Proof.Machine

def newUio (ch : Nat) : UioSt :=
  { ch, raw := false, c := 0, fil := false, wb := 0, broken := false, filt := false, frames := [], total := 0, openCur := 0
    lastRep := none, fault := 0, warns := 0, partner := 0, wait := false, hold := false, testOff := false, cur := 0
    perAt := none, perIx := 0, duty := 0 }

def IoSt.chan (p : IoSt) (ch : Nat) : Option UioSt := p.chans.find? fun v => v.ch == ch
def IoSt.setChan (p : IoSt) (v : UioSt) : IoSt := { p with chans := p.chans.map fun x => if x.ch = v.ch then v else x }
def IoSt.urec (p : IoSt) (ch : Nat) : Bytes := (p.cfg.uioLead ch).getD []
def IoSt.ucmd (p : IoSt) (ch : Nat) : UioCmd :=
  (p.cmd.uios.find? fun c => c.ch == ch).getD { ch, dec := 0, host := false, force := none, period := 100 }

def segOf (ch : Nat) : Nat := ch / 8
/-- The channel is in FAULT: codes 0x01 to 0x05 (Table 11-6). -/
def uioFaulted (v : UioSt) : Bool := decide (1 ≤ v.fault) && decide (v.fault ≤ 5)
def uioSupOff (p : IoSt) (ch : Nat) : Bool := p.supplyOff || p.segOff.getD (segOf ch) false

def uioReports (a b : IoSt) : List RecBody :=
  (b.chans.map fun v => match a.chan v.ch with
    | some o => codeReports 0x0901 v.ch o.fault v.fault (flagTo 3 false o.warns) (flagTo 3 false v.warns) 5 (leBytes 1 v.partner)
    | none => []).flatten

/-- A switch with the channel in its UIO_OFF is active or latched, or one in its UIO_ON is active (07 R246). -/
def cswOff (p : IoSt) (ch : Nat) : Bool :=
  (p.cfg.recs tyContour).any fun r => bit (coUioOff r) ch && (bit p.cmd.cswActive (coCsw r) || bit p.cmd.cswLatched (coCsw r))
/-- The hardware path of R185: a map's FAST_CSW switch, active or latched, drops the permits of its heat zones. -/
def fastOff (p : IoSt) (ch : Nat) : Bool :=
  (p.cfg.recs tySuper).any fun su =>
    (bit p.cmd.cswActive (suFastCsw su) || bit p.cmd.cswLatched (suFastCsw su)) &&
      (p.cfg.recs tyHeat).any fun h => hzMap h == suMap su && hzPermit h == ch
def cswOn (p : IoSt) (ch : Nat) : Bool := (p.cfg.recs tyContour).any fun r => bit (coUioOn r) ch && bit p.cmd.cswActive (coCsw r)

/-- On-time of a PWM period in units of 10 µs (R325): duty 2^-16, period in ms. -/
def pwmOn (duty period : Nat) : Nat :=
  let on := (2 * duty * period * 1000 + 65536) / 131072 / 10
  if on < 10 then 0 else if period * 100 < on + 10 then period * 100 else on

/-- A PWM channel's switch at an instant: its periods, of whole milliseconds, run free from `perAt` (R325). -/
def pwmLevel (now : Nat) (c : UioCmd) (v : UioSt) : Bool :=
  match v.perAt with
  | some a => decide ((now - a) * 100000 % (c.period * 100 * 16777216) < pwmOn v.duty c.period * 16777216)
  | none => false
/-- The number of the period an instant lies in. -/
def periodOf (now a period : Nat) : Nat := (now - a) * 1000 / (period * 16777216)

/-- The level and the condition of Table 11-5 (R326). -/
def uioLevel (now : Nat) (safe : Bool) (p : IoSt) (v : UioSt) : Bool × Nat :=
  let r := p.urec v.ch
  let c := p.ucmd v.ch
  if uioFaulted v then (false, 4)
  else if uioSupOff p v.ch || v.wait then (false, 5)
  else if safe then ((match ucSafe r with | 0 => false | 1 => true | _ => v.hold), 3)
  else if cswOff p v.ch || fastOff p v.ch then (false, 2)
  else if ucSource r = 2 then (cswOn p v.ch, 2)
  else
    match c.force with
    | some b => (b, 1)
    | none =>
      if ucIsPwm r then (pwmLevel now c v, 0)
      else if ucSource r = 1 then (c.host, 0) else (c.dec != 0, 0)

/-- The switch: the level, off while a test holds it off. -/
def uioOnNow (now : Nat) (safe : Bool) (p : IoSt) (v : UioSt) : Bool :=
  ucIsOut (p.urec v.ch) && !v.testOff && (uioLevel now safe p v).1

/-- A level change of an output clears OPEN_LOAD at its turn-off (R327) and lets a LATCHED channel that has been off
recover (R333); a test of a channel that is now off ends (R329). PWM periods begin with the first non-zero duty (R325). -/
def uioSettle (now : Nat) (safe : Bool) (p : IoSt) : IoSt :=
  let chans := p.chans.map fun v =>
    let r := p.urec v.ch
    if !ucIsOut r then v
    else
      let v := if v.wait && !uioSupOff p v.ch && !(uioLevel now safe p { v with wait := false }).1 then { v with wait := false } else v
      let v := if ucIsPwm r && v.perAt.isNone && (p.ucmd v.ch).dec != 0 then { v with perAt := some now, perIx := 0, duty := (p.ucmd v.ch).dec } else v
      if (uioLevel now safe p v).1 then v else { v with warns := flagTo 0 false v.warns }
  { p with chans := chans, tests := p.tests.filter fun t => !t.2 || (chans.find? fun v => v.ch == t.1).any fun v => (uioLevel now safe p v).1 }

/-! Inputs (R318-R322). -/

/-- Raw-on and raw-off thresholds of Table 11-3, mV. -/
def rawOn (r : Bytes) : Nat := if ucType3 r then 9000 else 12000
def rawOff (r : Bytes) : Nat := if ucType3 r then 7000 else 9000
/-- The raw state of a sample of the pin voltage in mV: between the thresholds the previous one (R318). -/
def rawState (r : Bytes) (mv : Nat) (prev : Bool) : Bool := if rawOn r ≤ mv then true else if mv ≤ rawOff r then false else prev
/-- A counter from 0 to CEIL, and its filtered state (R319). -/
def counted (ceil c : Nat) (up : Bool) : Nat := if up then min ceil (c + 1) else c - 1
def filtered (ceil c : Nat) (was : Bool) : Bool := if c = ceil then true else if c = 0 then false else was

/-- The frame of a local count of short-stamp units (R17). -/
def unitFrame (loc : Nat) : Nat := loc / 8
/-- A sample enters its frame's sums. -/
def frameAdd (frame : Nat) (rise changed low before after : Bool) (l : List UioFrame) : List UioFrame :=
  match l.getLast? with
  | some f => if f.frame = frame then
      l.dropLast ++ [{ f with edges := sat 65535 (f.edges + b2n rise), changed := f.changed || changed, low := f.low || low, after := after }]
    else l ++ [{ frame, edges := b2n rise, changed, low, before, after }]
  | none => [{ frame, edges := b2n rise, changed, low, before, after }]

/-- One sample of an input: pin voltage in mV, current in 10 µA, the lower of VFLD and the segment's supply in mV; `frame` is the
local frame of its instant (R318-R321). -/
def uioSample (r : Bytes) (uvOff frame : Nat) (x : Nat × Nat × Nat) (v : UioSt) : UioSt :=
  let raw := rawState r x.1 v.raw
  let c := counted (ucCeil r) v.c raw
  let fil := filtered (ucCeil r) c v.fil
  let wb := counted (ucCeil r) v.wb (decide (x.1 ≤ rawOff r) && decide (x.2.1 < 30))
  let broken := ucWbEn r && filtered (ucCeil r) wb v.broken
  let filt := fil && !broken
  { v with
    raw, c, fil, wb, broken, filt
    warns := flagTo 2 broken v.warns
    openCur := if raw then v.openCur else x.2.1
    total := (v.total + b2n (filt && !v.filt)) % 65536
    frames := frameAdd frame (filt && !v.filt) (filt != v.filt) (decide (x.2.2 < uvOff)) v.filt filt v.frames }

/-- The edge sample of a change: no value under a low supply or WIRE_BREAK (R321, R322). -/
def edgeSample (r : Bytes) (uvOff : Nat) (x : Nat × Nat × Nat) (old new : UioSt) : List RecBody :=
  if !ucEdge r || old.filt == new.filt then []
  else
    let code := if x.2.2 < uvOff then 7 else if new.broken then 3 else 0
    [.sample (ucSrc r + 1) code (if code = 0 then b2n new.filt else 0 : Nat)]

/-- Last unit of the frame a report describes (R321). -/
def uioUnit (loc : Nat) : Nat := if loc % 8 = 7 then loc else (loc / 8 * 8 + 16777215) % 16777216

/-- A frame's sums among those not yet reported, and the frames after it (counts wrap after 2^21 frames). -/
def framesAfter (frame : Nat) (l : List UioFrame) : List UioFrame :=
  l.filter fun f => decide (0 < (f.frame + 2097152 - frame) % 2097152) && decide ((f.frame + 2097152 - frame) % 2097152 < 1048576)
def frameSums (frame : Nat) (v : UioSt) : UioFrame :=
  match v.frames.find? fun f => f.frame == frame with
  | some f => f
  | none =>
    let st := match (framesAfter frame v.frames).head? with | some f => f.before | none => v.filt
    { frame, edges := 0, changed := false, low := false, before := st, after := st }

/-- An input's frame report (R321, R322, Table 11-4). -/
def uioReportFrame (loc : Nat) (low : Bool) (r : Bytes) (v : UioSt) : UioSt × List RecBody :=
  let u := uioUnit loc
  if v.lastRep = some u then (v, [])
  else
    let f := frameSums (unitFrame u) v
    let code := if f.low || low then 7 else if v.broken then 3 else 0
    let val := if code = 0 then f.edges + 65536 * b2n f.after + 131072 * b2n f.changed else 0
    ({ v with frames := framesAfter (unitFrame u) v.frames, lastRep := some u }, [.sample (ucSrc r) code (val : Nat)])

/-- An output's frame report: its measured current is kept, its condition of Table 11-5 stands in bits 7:4 (Table 11-4). The value is
open: no rule gives one (notes/assumptions/50.md). -/
def outputReport (now : Nat) (safe low : Bool) (p : IoSt) (cur loc : Nat) (val : Int) (v : UioSt) : UioSt × List RecBody :=
  let u := uioUnit loc
  if v.lastRep = some u then ({ v with cur := cur }, [])
  else
    ({ v with cur := cur, lastRep := some u },
     [.sample (ucSrc (p.urec v.ch)) (16 * (uioLevel now safe p v).2 + if low then 7 else 0) (if low then 0 else val)])

/-! Outputs. -/

/-- A PWM period starts and its new duty takes effect; periods go on at a duty of 0 (R325). -/
def pwmPeriod (now ch : Nat) (p : IoSt) : IoSt :=
  match p.chan ch with
  | none => p
  | some v =>
    match v.perAt with
    | some a =>
      let k := periodOf now a (p.ucmd ch).period
      if !ucIsPwm (p.urec ch) ∨ k = v.perIx then p else p.setChan { v with perIx := k, duty := (p.ucmd ch).dec }
    | none => p

def uioFault (code : Nat) (v : UioSt) : UioSt := { v with fault := code, testOff := false }

/-- Channels of a group: the lead and its followers (R324). -/
def groupOf (r : Bytes) : List Nat := (List.range (ucPar r)).map fun k => ucCh r + k
/-- A group's current: the sum over its members, of measured currents by channel. -/
def groupCur (r : Bytes) (curs : List Nat) : Nat := sumN ((groupOf r).map fun ch => curs.getD ch 0)

/-- OVERLOAD (R323, R324): the group has stayed at its limit, which starts at 0.6 A a member, for `ms` ms; its members' currents in mA. -/
def overload (now : Nat) (safe : Bool) (ch ms : Nat) (curs : List Nat) (p : IoSt) : IoSt :=
  match p.chan ch with
  | some v =>
    let r := p.urec ch
    if uioOnNow now safe p v ∧ ucOlTime r ≤ ms ∧ 600 * ucPar r ≤ sumN curs then p.setChan (uioFault 0x01 { v with cur := sumN curs }) else p
  | none => p

/-- A sum over 1 ms of the outputs' currents by channel, in mA: of a segment or of the die (R316). -/
def budgetSum (p : IoSt) (what : Budget) (curs : List Nat) : Nat :=
  sumN ((p.chans.filter fun v => ucIsOut (p.urec v.ch) && (match what with | .segment s => segOf v.ch == s | .die => true)).map
    fun v => groupCur (p.urec v.ch) curs)
/-- The last 20 consecutive sums lie above the limit (R316). -/
def budgetOver (p : IoSt) (what : Budget) (sums : List (List Nat)) : Bool :=
  let lim := match what with | .segment _ => 3300 | .die => 8800
  decide (20 ≤ sums.length) && (sums.drop (sums.length - 20)).all fun curs => decide (lim < budgetSum p what curs)
/-- Current sums above their limit put the segment's or the die's outputs into FAULT (R316). -/
def budgetOverload (what : Budget) (sums : List (List Nat)) (p : IoSt) : IoSt :=
  let high := budgetOver p what sums
  let code := match what with | .segment _ => 0x04 | .die => 0x05
  let hit := fun v => high && !uioFaulted v && (match what with | .segment s => segOf v.ch == s | .die => true)
  { p with chans := p.chans.map fun v =>
      if !ucIsOut (p.urec v.ch) then v
      else
        let v := match sums.getLast? with | some curs => { v with cur := groupCur (p.urec v.ch) curs } | none => v
        if hit v then uioFault code v else v }

/-- Groups that are on, besides the suspect, in ascending lead number (R330). -/
def groupsOn (now : Nat) (safe : Bool) (p : IoSt) (c : Nat) : List Nat :=
  ((List.range 32).filter fun m => m != c && (p.chan m).any fun v => uioOnNow now safe p v)

/-- The cross-feed test of a suspect starts: without another group on, no link can be found (R330). A pulse ends 200 µs after the
one before it, the first 250 µs after the start. -/
def startCross (now : Nat) (safe : Bool) (c : Nat) (p : IoSt) : IoSt :=
  match p.chan c with
  | none => p
  | some v =>
    match groupsOn now safe p c with
    | [] => p.setChan (uioFault 0x02 v)
    | l => { p.setChan { v with testOff := true } with cross := some (c, l, now + usTicks 50) }

/-- The next pending cross-feed test starts once none runs (R328). -/
def serveTests (now : Nat) (safe : Bool) (p : IoSt) : IoSt :=
  if p.cross.isSome then p
  else
    match (sortBy (fun a b => decide (a.1 < b.1)) p.tests).head? with
    | some (c, false) => startCross now safe c { p with tests := p.tests.filter fun t => t != (c, false) }
    | _ => p

/-- Open-load judgements on what has stood for 10 ms (R327): the group's current in mA, its pin and its segment supply in mV. -/
def openLoad (now : Nat) (safe : Bool) (ch cur pin sup : Nat) (p : IoSt) : IoSt :=
  match p.chan ch with
  | none => p
  | some v =>
    let r := p.urec ch
    if !ucIsOut r then p
    else if uioOnNow now safe p v then
      let p1 := p.setChan { v with cur := cur }
      if 4 ≤ cur then p.setChan { v with cur := cur, warns := flagTo 0 false v.warns }
      else if pin + 1000 < sup then p.setChan { v with cur := cur, warns := flagTo 0 true v.warns }
      else if p.tests.contains (ch, true) then p1 else { p1 with tests := p1.tests ++ [(ch, true)] }
    else if pin < 3000 then p.setChan { v with warns := flagTo 1 false v.warns }
    else if ucOffDiag r then p.setChan { v with warns := flagTo 1 true v.warns } else p

/-- An output that is off has its pin above 5 V for 100 µs (R327): a cross-feed test. -/
def shortOff (now : Nat) (safe : Bool) (ch pin : Nat) (p : IoSt) : IoSt :=
  match p.chan ch with
  | none => p
  | some v =>
    if pin ≤ 5000 ∨ !ucIsOut (p.urec ch) ∨ uioOnNow now safe p v ∨ uioFaulted v ∨ v.testOff ∨ p.tests.contains (ch, false) then p
    else serveTests now safe { p with tests := p.tests ++ [(ch, false)] }

/-- The off-state test of an ambiguous channel ends with a pin voltage (R328, R329). -/
def uioOffTest (now : Nat) (safe : Bool) (ch pinMv : Nat) (p : IoSt) : IoSt :=
  match p.chan ch with
  | none => p
  | some v =>
    if p.cross.isSome ∨ !p.tests.contains (ch, true) ∨ (p.tests.any fun t => decide (t.1 < ch)) ∨ uioOnNow now safe p v = false then p
    else
      let p := { p with tests := p.tests.filter fun t => t != (ch, true) }
      if pinMv < 5000 then serveTests now safe (p.setChan { v with warns := flagTo 0 true v.warns })
      else startCross now safe ch p

/-- A pulse of the cross-feed test ends (R330): the suspect's pin in mV. A group that is off by now is passed over; a PWM channel is
pulsed in its on-time only. -/
def crossPulse (now : Nat) (safe : Bool) (pinMv : Nat) (p : IoSt) : IoSt :=
  match p.cross with
  | none => p
  | some (c, l, t0) =>
    if now < t0 + usTicks 200 then p
    else
      match l, p.chan c with
      | m :: rest, some v =>
        let on := (p.chan m).any fun w => uioOnNow now safe p w
        if !on && (ucIsPwm (p.urec m) && (p.chan m).any fun w => decide (0 < pwmOn w.duty (p.ucmd m).period) && !uioFaulted w) then p
        else if on && decide (pinMv < 5000) then
          let p := p.setChan { v with testOff := false, warns := flagTo 4 true v.warns, partner := m }
          let p := match p.chan m with | some w => p.setChan (uioFault 0x03 w) | none => p
          serveTests now safe { p with cross := none }
        else if rest = [] then serveTests now safe { p.setChan (uioFault 0x02 v) with cross := none }
        else { p with cross := some (c, rest, now) }
      | _, _ => { p with cross := none }

/-- UIO_CLEAR of one channel (R331). None: CLEAR_PRESENT. -/
def uioClear (ch : Nat) (holds : Bool) (p : IoSt) : Option (IoSt × Nat) :=
  match p.chan ch with
  | none => some (p, 0)
  | some v =>
    if !uioFaulted v then some (p, 0)
    else if holds && v.fault != 0x03 then none
    else
      let p := p.setChan { v with fault := 0 }
      some (if v.fault = 0x03 then
        { p with chans := p.chans.map fun w => if bit w.warns 4 && w.partner == ch then { w with warns := flagTo 4 false w.warns, partner := 0 } else w }
        else p, 1)

/-- A supply below UV_OFF (R332): outputs off. -/
def ioSupplyOff (seg : Option Nat) (p : IoSt) : IoSt :=
  let hit := fun v => match seg with | some s => segOf v.ch == s | none => true
  { p with
    supplyOff := p.supplyOff || seg.isNone
    segOff := match seg with | some s => setAt s true p.segOff | none => p.segOff
    chans := p.chans.map fun v =>
      if !hit v then v
      else if ucIsIn (p.urec v.ch) then v
      else if uioFaulted v then v
      else { v with fault := if seg.isSome && v.fault != 0x06 then 0x07 else 0x06, wait := v.wait || ucLatched (p.urec v.ch), testOff := false } }

/-- Recovery of a supply (R333). -/
def ioRecover (seg : Option Nat) (p : IoSt) : IoSt :=
  let p1 := { p with supplyOff := p.supplyOff && seg.isSome, segOff := match seg with | some s => setAt s false p.segOff | none => p.segOff }
  { p1 with
    chans := p1.chans.map fun v =>
      if v.fault = 0x06 ∨ v.fault = 0x07 then
        { v with fault := if p1.supplyOff then 0x06 else if p1.segOff.getD (segOf v.ch) false then 0x07 else 0 }
      else v }

/-- VFLD as last measured. -/
def IoSt.sees (vfld : Nat) (p : IoSt) : IoSt := { p with vfld := vfld }
/-- UV_WARN in force on every output (Table 11-6). -/
def ioUvWarn (on : Bool) (vfld : Nat) (p : IoSt) : IoSt :=
  { p with uvWarn := on, vfld := vfld, chans := p.chans.map fun v => { v with warns := flagTo 3 on v.warns } }

/-- Safe entry: HOLD keeps the level at that instant (R335). -/
def ioSafeEntry (now : Nat) (p : IoSt) : IoSt :=
  { p with chans := p.chans.map fun v => { v with hold := uioOnNow now false p v } }

/-- Channel states after a record load: filter counters and states 0 (R319). -/
def loadUios (d : Datum) (old : List UioSt) : List UioSt :=
  ((d.recs tyUio).filter fun r => ucRole r != 4).map fun r =>
    let v := (old.find? fun x => x.ch == ucCh r).getD (newUio (ucCh r))
    { v with raw := false, c := 0, fil := false, wb := 0, broken := false, filt := false, frames := [], warns := flagTo 2 false v.warns }

/-- Sums of measured currents (R316), mA. -/
def segSum (p : IoSt) (s : Nat) : Nat := sumN ((p.chans.filter fun v => segOf v.ch == s && ucIsOut (p.urec v.ch)).map UioSt.cur)

end Sys2Proof.Machine
end

