-- ==== Sys2Proof/Machine/Views.lean ====
section
/-!
DEFINITION. The words that status registers and status commands report, computed from the state (23 and the register
tables of each chapter).
-/
namespace Sys2Proof.Machine

/-! Link registers (01 Tables 1-3 to 1-5, 1-16). -/

def State.near (s : State) (n : Nat) : NearLink := s.links.near.getD n nearReset
def State.far (s : State) (n : Nat) : FarLink := s.links.far.getD n (farReset false 0)
def State.setNear (s : State) (n : Nat) (x : NearLink) : State := { s with links := { s.links with near := setAt n x s.links.near } }
def State.setFar (s : State) (n : Nat) (x : FarLink) : State := { s with links := { s.links with far := setAt n x s.links.far } }

/-- A silence timer reaches its timeout: start and timeout in units of 10 µs (R18, R22). -/
def timerUp (now : Nat) (a : Option (Nat × Nat)) : Bool :=
  match a with | some (t, n) => decide (t * 100000 + n * 2 ^ 24 ≤ now * 100000) | none => false
/-- It has reached it in an earlier cycle. -/
def timerPast (now : Nat) (a : Option (Nat × Nat)) : Bool :=
  match a with | some (t, n) => decide (t * 100000 + n * 2 ^ 24 < now * 100000) | none => false

/-- A good frame has arrived within the present timeout (Table 1-4). -/
def nearUp (now : Nat) (x : NearLink) : Bool := x.up && !timerPast now x.timer
def State.linkUp (s : State) (k : Nat) : Bool := nearUp s.now (s.near k)

def ilstatWord (now : Nat) (x : NearLink) : Nat :=
  256 * x.farCause + 8 * b2n x.nearSilence + 4 * b2n x.farSilence + 2 * b2n x.farSafe + b2n (nearUp now x)
def ilerrWord (x : NearLink) : Nat := 65536 * sat 65535 x.farErr + sat 65535 x.nearErr
def clkWord (c : Clocks) : Nat := 8 * b2n c.pllUnlock + 4 * b2n c.lfLost + 2 * b2n c.onRc + b2n c.refLost

/-! SYS_SAFE (20 Table 20-10). -/
def opSafeRelease : Nat := 0x0130
def opPlanArm : Nat := 0x01F0
/-- A SAFE_RELEASE or PLAN_ARM waits for its frame. -/
def State.releasePending (s : State) : Bool := s.cmds.any fun c => c.tied && (c.op == opSafeRelease || c.op == opPlanArm)
def safeWord (s : State) : Nat :=
  let f := s.safe
  2 ^ 24 * (if f.set then f.count else 0) + 65536 * f.last + 256 * f.first + 8 * b2n s.releasePending + 4 * b2n f.fsafeLow +
    2 * b2n s.armed + b2n f.set

/-! SYS_LEDGER_SEL and its window (16 Tables 16-11, 16-12). -/
def ledgerSelWord (s : State) : Nat := 65536 * s.ledInUse + 64 * b2n s.nvs.ledValid + s.nvs.ledSel

/-! MER (02 Tables 2-10 to 2-14). -/
def merStatWord (s : State) : Nat :=
  65536 * s.time.era + 32 * b2n s.cap.active + 16 * b2n s.rpl.active + 8 * b2n s.time.wallValid + 4 * b2n s.clk.onRc
def merLateWord (s : State) : Nat := 65536 * s.time.late + s.time.future

/-! HIF (13 Tables 13-18 to 13-30). -/
def hifStatWord (s : State) : Nat :=
  let h := s.hif
  2 ^ 20 * (if h.linkUp then h.linkSpeed else 0) + 65536 * h.linkWidth + 16 * b2n h.flr + 8 * b2n h.hostSilent + 4 * b2n h.bme +
    2 * b2n h.linkUp + b2n h.ready
def spiStatWord (s : State) : Nat := 65536 * s.spi.crcErr + 2 * b2n s.spi.mbDone + b2n s.spi.mailbox.isSome
def rcfgWord (x : Ring) : Nat := 2 ^ 31 * b2n x.enable + 65536 * x.vector + 256 * x.cq + x.log2
def rstatWord (x : Ring) : Nat := 65536 * x.dev + x.host

/-! IC (14 Tables 14-4 to 14-16). -/
def icStatWord (i : Ic) : Nat := 32768 * b2n i.retained + maskOf 13 fun n => (i.tgt n).frozen
def icSleepWord (i : Ic) : Nat := maskOf 13 fun n => (i.tgt n).asleep
def icItpriWord (i : Ic) : Nat := i.running 8 + 16 * i.running 9 + 256 * i.running 10 + 4096 * i.running 11 + 65536 * i.running 12
def icTstatWord (i : Ic) (n : Nat) : Nat :=
  let t := i.tgt n
  2 ^ 24 * (t.stack.headD 0) + 65536 * (t.faultSrc % 256) + 2048 * b2n (icRequest i n) + 1024 * b2n t.asleep + 512 * b2n t.frozen +
    16 * t.stack.length + i.running n
def icSrccfgWord (i : Ic) (n : Nat) : Nat :=
  let x := i.src n
  2 ^ 24 * x.targets + 65536 * x.time + 256 * x.count + 64 * b2n (isLevelSrc n) + 32 * b2n x.wake + 16 * b2n x.mask + x.prio
/-- Pending sources: source 1 while some target's copy is pending. -/
def icPendWord (i : Ic) (w : Nat) : Nat :=
  maskOf 32 fun b => if 32 * w + b = 1 then i.tgts.any fun t => decide (t.s1 ≠ 0) else (i.src (32 * w + b)).pend
def icInsvcWord (i : Ic) (w : Nat) : Nat := maskOf 32 fun b => i.inSvc (32 * w + b)

/-! AUTH (15 Tables 15-7 to 15-9). -/
def authStatWord (s : State) : Nat :=
  2 ^ 24 * b2n s.cosign.require + 65536 * (maskOf 8 fun n => s.exhausted n) + 256 * (maskOf 8 fun n => s.locked n) +
    maskOf 8 fun n => (s.keyRec n).key.isSome
def authFailWord (s : State) (n : Nat) : Nat :=
  let c := s.ctrRec n
  65536 * ((c.lockEnd - s.now + 2 ^ 24 - 1) / 2 ^ 24) + 256 * c.level + s.fails n

/-! NVS (16 Tables 16-13 to 16-15). -/
def nvsStatWord (n : Nvs) : Nat :=
  2 ^ 28 * n.lastRegion + 8 * b2n n.scrubBusy + 4 * b2n n.bank1Fail + 2 * b2n n.ue + b2n n.verifyFail
def nvsEccWord (n : Nvs) : Nat := 65536 * n.ueCnt + n.ceCnt

/-! UPD (17 Tables 17-12 to 17-15). -/
def State.session (s : State) : Session := (s.upd.session.body).getD sessionReset
def State.secFloor (s : State) : Nat := (s.upd.floor.body).getD 0
/-- Bits of the download bitmap. -/
def blocksStored (s : State) : Nat := ((List.range 640).filter fun k => bit s.upd.bitmap k).length
def updStatWord (s : State) : Nat :=
  2 ^ 24 * s.upd.lastCause + 256 * s.session.state + 128 * b2n s.upd.recovery + 64 * b2n s.upd.applyBusy +
    16 * (if onTrial s.boot then s.boot.boots else 0) + 8 * b2n s.upd.healthy + 4 * b2n (onTrial s.boot) + s.boot.slot
def updTrialWord (s : State) : Nat := match s.upd.trialEnd with | some e => (e - s.now + 2 ^ 24 - 1) / 2 ^ 24 | none => 0
def updBlocksWord (s : State) : Nat := 65536 * s.session.blocks + blocksStored s

/-! PWR and THM (19 Tables 19-12 to 19-19). -/
def pwrStatWord (s : State) : Nat :=
  65536 * s.pwr.wakeSrc + 256 * s.pwr.cause + 16 * b2n s.pwr.plan.isSome + 8 * b2n s.pwr.memKept + 4 * b2n s.armed +
    (if s.pwr.state ≤ 1 then s.pwr.state else 0)
def thmStatWord (s : State) : Nat :=
  65536 * (maskOf 7 fun n => (s.pwr.sites.getD n siteReset).implausible) +
    128 * (maskOf 3 fun k => (s.pwr.sites.getD (k + 4) siteReset).shut) + 2 * b2n s.pwr.shutdown + b2n s.pwr.throttle
def siteWord (x : Site) : Nat := 65536 * ofS 16 x.peak + match x.temp with | some t => ofS 16 t | none => 0x8000

/-! SEN (07 Tables 7-14 to 7-20, 08 Tables 8-15 to 8-18). -/
def senStatWord (s : State) : Nat :=
  let v := s.links.viewS
  65536 * (s.datum.recs tyChan).length + 1024 * b2n v.chk.isSome + 512 * b2n v.cfgValid + 256 * b2n v.powered + listBusy v
def pinFaults (l : SenLog) : Nat := maskOf 64 fun n => l.pins.any fun p => p.pin == n && p.faulted
def pinWarns (l : SenLog) : Nat := maskOf 64 fun n => l.pins.any fun p => p.pin == n && (p.outcome == 4 || p.outcome == 5)

/-! VLV, FAN and UIO (09, 10, 11). -/
def valveMask (p : PowerSt) (f : ValveSt → Bool) : Nat := maskOf 16 fun n => p.valves.any fun v => v.ch == n && f v
def fanMask (p : PowerSt) (f : FanSt → Bool) : Nat := maskOf 12 fun n => p.fans.any fun v => v.ch == n && f v
def uioMask (p : IoSt) (f : UioSt → Bool) : Nat := maskOf 32 fun n => p.chans.any fun v => v.ch == n && f v
def vlvStatWord (p : PowerSt) : Nat := 65536 * valveMask p energised + valveMask p fun v => v.state == 7
def vlvBankWord (p : PowerSt) : Nat :=
  4096 * (maskOf 4 fun k => (p.banks.getD k { short := false, stuck := false }).stuck) +
    256 * (maskOf 4 fun k => (p.banks.getD k { short := false, stuck := false }).short) +
    16 * (maskOf 4 fun k => bankHigh p k == 1) + maskOf 4 fun k => bankHigh p k == 2
def vlvWarnWord (p : PowerSt) : Nat := 65536 * (valveMask p fun v => bit v.warns 1) + valveMask p fun v => bit v.warns 0
def vlvChWord (p : PowerSt) (n : Nat) : Nat :=
  match p.valve n with | some v => 65536 * twWord v + 256 * v.fault + v.state | none => 0
def fanStatWord (p : PowerSt) : Nat := 65536 * (fanMask p fun v => v.state == 2) + fanMask p fun v => v.state == 5
def fanWarnWord (p : PowerSt) : Nat := 65536 * (fanMask p fun v => bit v.warns 0) + fanMask p fun v => v.state == 3
/-- A fan's target comes from its table (R297). -/
def fanTabled (now : Nat) (safe : Bool) (p : PowerSt) (v : FanSt) : Bool :=
  (fanTarget { now, loc := 0, linkUp := true, safe } p.supplyOff (p.fcmd v.ch) (p.frec v.ch) v).2
def fanModeWord (now : Nat) (safe : Bool) (p : PowerSt) : Nat :=
  65536 * (fanMask p (fanTabled now safe p)) + fanMask p fun v => v.state == 4
def fanChWord (p : PowerSt) (n : Nat) : Nat := match p.fan n with | some v => 65536 * v.r + 256 * v.fault + v.state | none => 0
def uioInWord (p : IoSt) : Nat := uioMask p fun v => ucIsIn (p.urec v.ch) && v.filt
/-- Switches that are on: followers switch with their lead (11 R324, Table 11-12). -/
def uioOutWord (now : Nat) (safe : Bool) (p : IoSt) : Nat :=
  maskOf 32 fun n => p.chans.any fun v => uioOnNow now safe p v && (groupOf (p.urec v.ch)).contains n
def uioSafeWord (safe : Bool) (p : IoSt) : Nat := uioMask p fun v => safe && ucIsOut (p.urec v.ch)
def uioSupWord (p : IoSt) : Nat :=
  65536 * p.vfld + 256 * (maskOf 4 fun k => p.segOff.getD k false) + 4 * b2n p.dieReset + 2 * b2n p.uvWarn + b2n p.supplyOff

/-! CAN (12 Tables 12-13 to 12-18). -/
def claimedAddr (c : CanCh) : Option Nat := match c.claim with | some k => if k.holding then some k.addr else none | none => none
def canStatWord (c : CanCh) : Nat :=
  65536 * c.pexc + 256 * c.fifo.length + 16 * b2n c.wake + 8 * b2n c.recovering + 4 * b2n (claimedAddr c).isSome + c.state
def canErrWord (c : CanCh) : Nat := 65536 * c.busOffs + 256 * min 255 c.rec' + min 255 c.tec
def canCntWord (c : CanCh) : Nat := 2 ^ 24 * c.cmdBad + 65536 * c.fwDrop + 256 * c.fifoDrop + c.rateDrop

/-! SVY, DRY and STO (03, 04, 05, 06). -/

/-- The map in resident slot n: dryer-kind maps in ascending number (03 R109). -/
def slotMap (p : Plant) (n : Nat) : Option GMap := (p.maps.filter fun m => isDryerKind m.shape.kind)[n]?
def svyStatWord (s : State) : Nat :=
  65536 * (s.datum.recs tyMap).length + 1024 * b2n s.svy.repaired + 512 * b2n s.svy.extUe + 256 * b2n s.svy.tileUe +
    maskOf 4 fun n => ((s.svy.lanes[n]?).join).isSome
def svyResWord (s : State) : Nat :=
  leNat ((List.range 4).map fun n => match slotMap s.plant n with | some m => BitVec.ofNat 8 m.shape.num | none => 0xFF)
/-- The load of the Datum in cell updates per second × 2 × the product of the periods is kept as a fraction (04 R149). -/
def stepLoad (d : Datum) : Rat :=
  (d.recs tyMap).foldl (fun a r =>
    let cells := mapRows r * mapSlices r * mapSections r
    a + (cells : Rat) / ((mapStep r : Rat) / 2)) 0
def predLoad (d : Datum) (pr : Bytes) : Rat :=
  match d.mapRec (prMap pr) with
  | some r =>
    let cells := mapRows r * mapSlices r * mapSections r
    let runs := if mapKind r = kCont then 16 * prMembers pr else prMembers pr
    ((runs * prHorizon pr * cells : Nat) : Rat) / ((prPeriod pr : Rat) / 2)
  | none => 0
def datumLoad (d : Datum) : Rat := (d.recs tyPred).foldl (fun a pr => a + predLoad d pr) (stepLoad d)
def loadMille (x : Rat) : Nat := (x * 1000 / 1200000000).ceil.toNat
def svyPredWord (s : State) : Nat :=
  65536 * s.svy.predLate + 16 * (maskOf 4 fun n => (slotMap s.plant n).any fun m => !m.jobs.isEmpty) +
    maskOf 4 fun n => (slotMap s.plant n).any fun m => m.results.any fun r => decide (r.bound < s.frm.next)

def dryerAt (p : Plant) (map : Nat) : Option Dryer := p.dryers.find? fun x => x.map == map
def slotDryer (p : Plant) (n : Nat) : Option Dryer := (slotMap p n).bind fun m => dryerAt p m.shape.num
def trippedMask (p : Plant) : Nat := maskOf 4 fun n => (slotDryer p n).any fun x => x.sup.trip != 0
def dryStatWord (p : Plant) : Nat :=
  4096 * b2n p.safeSeen + 2048 * b2n p.hostSilent + 16 * (maskOf 4 fun n => (slotDryer p n).any fun x => x.dis.kernel) + trippedMask p
def dryTripWord (p : Plant) (n : Nat) : Nat :=
  match slotDryer p n with
  | some x => if x.sup.trip = 0 then 0 else 2 ^ 24 * x.sup.trip + x.sup.tripFrame % 2 ^ 24
  | none => 0
def dryRateWord (p : Plant) (n : Nat) : Nat := match slotDryer p n with | some x => x.dis.q | none => 0
def routeMask (p : Plant) (st : Nat) : Nat := maskOf 32 fun n => p.routes.any fun r => r.num == n && r.state == st
/-- The maps with bit 0 or bit 1 of the alarm state set (06 R215). -/
def alarmMask (p : Plant) : Nat := maskOf 64 fun m => p.bins.any fun b => b.map == m && b.alarm % 4 != 0
def stoStatWord (s : State) : Nat :=
  65536 * (s.datum.recs tyBinCtl).length + 8 * b2n s.sto.reseeded + 4 * b2n s.sto.leaseExpired +
    2 * b2n (s.sto.nodes.any NodeSt.silent) + b2n (s.plant.bins.any BinSt.ambStale)
def stoCntWord (s : State) : Nat := 65536 * s.sto.stale + sumN (s.plant.bins.map fun b => (b.sensors.filter SensSt.lost).length)

/-! GAZ (18 Tables 18-10 to 18-15). -/
def State.g0 (s : State) : Group0 := (s.gaz.g0.body).getD group0Reset
def gazStatWord (s : State) : Nat :=
  let g := s.gaz
  128 * b2n g.lwFail + 64 * b2n g.lwFull + 32 * b2n g.memFail + 16 * b2n g.bDead + 8 * b2n g.aDead + 4 * b2n s.g0.pinnedFull +
    2 * b2n g.aFull + b2n g.clearing
def gazMaintWord (s : State) : Nat := maskOf 32 fun i => s.gaz.life.maint.any fun m => m.item == i && m.due

end Sys2Proof.Machine
end

