-- ==== Sys2Proof/Machine/Gazetteer.lean ====
section
/-!
DEFINITION. The Gazetteer recorder and the lifetime counters: records, allocator, levels, failures, last words, histograms,
periods, counters and maintenance items (18).
-/
namespace Sys2Proof.Machine

def State.setGaz (s : State) (g : Gaz) : State := { s with gaz := g }
def State.setLife (s : State) (l : Life) : State := { s with gaz := { s.gaz with life := l } }

/-! Records (R468, R469, Tables 18-1, 18-2). -/

def gazRecord (seq ty cls inst flags : Nat) (body : Bytes) : Bytes :=
  leBytes 4 seq ++ leBytes 1 ty ++ leBytes 1 cls ++ leBytes 1 inst ++ leBytes 1 flags ++ padTo 48 body ++ leBytes 4 0x525A4147 ++ leBytes 4 seq

/-- LEAD of a stored record. -/
def recSeq (b : Bytes) : Nat := u32 b 0

/-- Body of a BENCHMARK. -/
def benchBody (s : State) (reason prev : Nat) : Bytes :=
  leBytes 8 s.now ++ leBytes 2 s.time.era ++ leBytes 1 reason ++ leBytes 1 (b2n s.time.wallValid) ++
  leBytes 8 (ofS 64 s.time.offset) ++ leBytes 4 prev

/-! Group 0 and the allocator (R470). -/

def storeG0 (g : Group0) (s : State) : State × Bool :=
  let q := storeTwo (placeLife 0) s.gaz.g0 g s
  ({ q.1 with gaz := { q.1.gaz with g0 := q.2.1 } }, q.2.2)

/-! The last-words bank (R481, R482). -/

def lastWords (code region slot addr : Nat) (s : State) : State :=
  let g := s.gaz
  let k := min g.fails 7
  let n := g.fails + 1
  let a := 0x7C9000 + 64 * k
  let body := leBytes 1 code ++ leBytes 1 region ++ leBytes 2 slot ++ leBytes 4 addr ++ leBytes 8 s.now ++ leBytes 2 s.time.era ++ leBytes 4 n
  let q := writeRange a 64 { s with gaz := { g with fails := n } }
  let g1 := q.1.gaz
  if q.2 then { q.1 with gaz := { g1 with words := insertKey k (gazRecord g1.next 0x10 0 0 0 body) g1.words, lwFull := g1.lwFull || k == 7 } }
  else hit 0x2400 7 { q.1 with gaz := { g1 with lwFail := true, aoCount := sat 255 (g1.aoCount + 1), aoLast := code
                                                aoFirst := if g1.aoCount = 0 then code else g1.aoFirst } }

/-- A recorder failure is recorded and raised (R480 steps 3 and 4). -/
def gazFail (code region slot addr : Nat) (s : State) : State :=
  let s := lastWords code region slot addr s
  raise 0x0E01 (leBytes 1 code ++ leBytes 1 region ++ zeros 2 ++ leBytes 4 addr) (hit 0x2400 5 { s with gaz := { s.gaz with memFail := true } })

/-- Group 0 in a store that may fail (code 0x05). -/
def putG0 (g : Group0) (s : State) : State :=
  let q := storeG0 g s
  if q.2 then q.1 else gazFail 0x05 10 0 0x7CA000 q.1

/-- The allocator issues a number (R469, R470). -/
def allocSeq (s : State) : State × Nat :=
  let n := s.gaz.next
  let s1 := { s with gaz := { s.gaz with next := (n + 1) % 2 ^ 32 } }
  let g := s.g0
  if later 32 ((g.seqFloor + 2 ^ 32 - 512) % 2 ^ 32) ((n + 1) % 2 ^ 32) then (s1, n)
  else (putG0 { g with seqFloor := (n + 1 + 1024) % 2 ^ 32 } s1, n)

/-! Slots (R477, R478). -/

/-- A sequence number that a level accepts. -/
def acceptsSeq (first seq : Nat) : Bool := !later 32 first seq

/-- Level A slot n holds a valid record. -/
def aValid (s : State) (n : Nat) : Bool := match lookupKey n s.gaz.levelA with | some b => acceptsSeq s.g0.aFirst (recSeq b) | none => false
/-- Level B slot n: a pinned record is valid with any number. -/
def bValid (s : State) (n : Nat) : Bool :=
  match lookupKey n s.gaz.levelB with
  | some b => decide (n < 2048) || acceptsSeq s.g0.bFirst (recSeq b)
  | none => false

/-- The next slot of level A: the lowest unused one that is not listed bad. -/
def aSlot (s : State) : Option Nat := (List.range 16384).find? fun n => !aValid s n && !s.g0.badA.contains n
/-- Slots of level A used, bad slots included (Table 18-13). -/
def aUsed (s : State) : Nat := ((s.gaz.levelA.filter fun p => aValid s p.1 && !s.g0.badA.contains p.1).length) + s.g0.badA.length

/-- The slot after n in the circulating area. -/
def bAfter (n : Nat) : Nat := if 8191 ≤ n then 2048 else n + 1
/-- The first slot from n on that is not listed bad; `k` bounds the search. -/
def bSkip (bad : List Nat) : Nat → Nat → Nat
  | 0, n => n
  | k + 1, n => if bad.contains n then bSkip bad k (bAfter n) else n
/-- The slot with the highest valid circulating number. -/
def bHighest (s : State) : Option (Nat × Nat) :=
  s.gaz.levelB.foldl (fun (b : Option (Nat × Nat)) p =>
    if p.1 < 2048 ∨ bValid s p.1 = false then b
    else match b with
      | none => some (p.1, recSeq p.2)
      | some x => if later 32 (recSeq p.2) x.2 then some (p.1, recSeq p.2) else b) none
/-- The next slot of level B. -/
def bSlot (s : State) : Nat :=
  let pinned := if s.g0.pinnedFull then none else (List.range 2048).find? fun n => !bValid s n && !s.g0.badB.contains n
  match pinned with
  | some n => n
  | none => bSkip s.g0.badB 33 (match bHighest s with | some p => bAfter p.1 | none => 2048)

/-- The word of a slot. -/
def aAddr (n : Nat) : Nat := 0x5A0000 + 64 * n
def bAddr (n : Nat) : Nat := 0x6A0000 + 64 * n

/-- A slot goes on its level's bad-slot list; a full list stops the level (R480). Answers whether it was listed. -/
def listBad (b : Bool) (n : Nat) (s : State) : State × Bool :=
  let g := s.g0
  if b then
    if 32 ≤ g.badB.length then ({ s with gaz := { s.gaz with bDead := true } }, false)
    else (putG0 { g with badB := g.badB ++ [n] } s, true)
  else if 32 ≤ g.badA.length then ({ s with gaz := { s.gaz with aDead := true } }, false)
  else (putG0 { g with badA := g.badA ++ [n] } s, true)

/-- Forget what a slot of a level held. -/
def dropSlot (b : Bool) (n : Nat) (s : State) : State :=
  { s with gaz := if b then { s.gaz with levelB := eraseKey n s.gaz.levelB } else { s.gaz with levelA := eraseKey n s.gaz.levelA } }

/-- A level A record goes to the lowest free slot; a slot that does not verify is listed and the next one is taken. -/
def writeA : Nat → (seq ty cls inst flags : Nat) → Bytes → State → State
  | 0, _, _, _, _, _, _, s => s
  | k + 1, seq, ty, cls, inst, flags, body, s =>
    if s.gaz.aDead then s
    else match aSlot s with
      | none => s
      | some n =>
        let q := writeRange (aAddr n) 64 s
        if q.2 then { q.1 with gaz := { q.1.gaz with levelA := insertKey n (gazRecord seq ty cls inst flags body) q.1.gaz.levelA } }
        else
          let r := listBad false n (dropSlot false n q.1)
          gazFail 0x01 6 n (aAddr n) (writeA k seq ty cls inst flags body r.1)

/-- A level B record. The last pinned slot makes the pinned area full (R478). -/
def writeB : Nat → (seq ty cls inst flags : Nat) → Bytes → State → State
  | 0, _, _, _, _, _, _, s => s
  | k + 1, seq, ty, cls, inst, flags, body, s =>
    if s.gaz.bDead then s
    else
      let n := bSlot s
      let q := writeRange (bAddr n) 64 s
      if q.2 then
        let fl := if n < 2048 then flags + 2 else flags
        let s1 := { q.1 with gaz := { q.1.gaz with levelB := insertKey n (gazRecord seq ty cls inst (fl + 1) body) q.1.gaz.levelB } }
        if n < 2048 ∧ ((List.range 2048).all fun m => bValid s1 m || s1.g0.badB.contains m) then putG0 { s1.g0 with pinnedFull := true } s1 else s1
      else
        let r := listBad true n (dropSlot true n q.1)
        gazFail 0x03 7 n (bAddr n) (writeB k seq ty cls inst flags body r.1)

/-- When only slot 16,383 remains, the FULL benchmark takes it (R477). -/
def fillA (s : State) : State :=
  if !s.gaz.aDead && aSlot s == some 16383 then
    let q := allocSeq s
    let s1 := writeA 34 q.2 1 0 0 0 (benchBody q.1 5 q.1.gaz.perA.bench) q.1
    raise 0x0E02 [] { s1 with gaz := { s1.gaz with aFull := true, perA := { s1.gaz.perA with bench := q.2 } } }
  else s

/-- A record is due at level A; a BENCHMARK becomes the level's latest one. -/
def putA (ty cls inst flags : Nat) (body : Bytes) (s : State) : State :=
  if s.gaz.aFull || s.gaz.aDead then s
  else if aSlot s = some 16383 then fillA s
  else
    let q := allocSeq s
    let s1 := writeA 34 q.2 ty cls inst flags body q.1
    fillA (if ty = 1 then { s1 with gaz := { s1.gaz with perA := { s1.gaz.perA with bench := q.2 } } } else s1)

def putB (ty cls inst flags : Nat) (body : Bytes) (s : State) : State :=
  if s.gaz.bDead then s else
    let q := allocSeq s
    writeB 34 q.2 ty cls inst flags body q.1

/-- A BENCHMARK at a level (R476): it names the level's previous one. -/
def benchB (reason : Nat) (s : State) : State :=
  if s.gaz.bDead then s else
    let n := s.gaz.next
    let s1 := putB 1 0 0 0 (benchBody s reason s.gaz.perB.bench) s
    { s1 with gaz := { s1.gaz with perB := { s1.gaz.perB with bench := n } } }
def benchA (reason : Nat) (s : State) : State := putA 1 0 0 0 (benchBody s reason s.gaz.perA.bench) s

/-! Periods and batches (R472-R475). -/

def histLo (h : Hist) : Bytes := ((h.bins.take 8).map (leBytes 4)).flatten ++ leBytes 4 h.secs ++ leBytes 4 h.cross
def histHi (h : Hist) : Bytes :=
  ((h.bins.drop 8).map (leBytes 4)).flatten ++
    (if h.cls = 6 ∨ h.cls = 7 then [] else leBytes 4 (ofS 32 h.hi) ++ leBytes 4 h.hiMark ++ leBytes 4 (ofS 32 h.lo) ++ leBytes 4 h.loMark)
def histBefore (a b : Hist) : Bool := decide (a.cls < b.cls) || (decide (a.cls = b.cls) && decide (a.inst < b.inst))

/-- The batch of a closing period: a BENCHMARK with reason 3, then HIST_LO and HIST_HI of each instance (R475). -/
def writeBatchOf (b : Bool) (p : GazPeriod) (s : State) : State :=
  let fl := fun (h : Hist) => 4 * b2n h.sat + 8 * b2n p.partial'
  let put := fun (ty : Nat) (h : Hist) (body : Bytes) (a : State) => if b then putB ty h.cls h.inst (fl h) body a else putA ty h.cls h.inst (fl h) body a
  let s := if b then benchB 3 s else benchA 3 s
  (sortBy histBefore (p.hists.filter fun h => decide (h.secs ≠ 0))).foldl (fun a h => put 3 h (histHi h) (put 2 h (histLo h) a)) s

def periodTicks (b : Bool) (s : State) : Nat := if b then s.gaz.bHours * 3600 * 2 ^ 24 else 2 ^ 43

/-- Close a level's period; the next one begins at its end, or now when it is cut short (R474). -/
def closePeriod (b cut : Bool) (s : State) : State :=
  let p := if b then s.gaz.perB else s.gaz.perA
  let s1 := writeBatchOf b { p with partial' := p.partial' || cut } s
  let len := periodTicks b s1
  let next := if cut then (s1.now / len + 1) * len else p.endAt + len
  let g := s1.gaz
  { s1 with gaz := if b then { g with perB := { g.perB with endAt := next, partial' := false, hists := [] } }
                   else { g with perA := { g.perA with endAt := next, partial' := false, hists := [] } } }

/-- Both levels cut short, level B first. -/
def cutPeriods (s : State) : State := closePeriod false true (closePeriod true true s)

/-- The first periods after READY: they carry PARTIAL (R474). -/
def startPeriods (s : State) : State :=
  let g := s.gaz
  let lb := periodTicks true s
  { s with gaz := { g with perA := { periodReset ((s.now / 2 ^ 43 + 1) * 2 ^ 43) with bench := g.perA.bench }
                           perB := { periodReset ((s.now / lb + 1) * lb) with bench := g.perB.bench } } }

/-! Samples of a second (R472, R473). -/

def clampBin (v : Int) : Nat := (clampI 0 15 v).toNat
def binOf16 (v : Int) : Nat := clampBin ((v + 5120) / 2048)
def newHist (cls inst : Nat) : Hist :=
  { cls, inst, bins := List.replicate 16 0, secs := 0, hi := 0, hiMark := 0, lo := 0, loMark := 0, cross := 0, sat := false }

/-- One second of an instance: the bins that gain, and the value of a class that keeps extremes. -/
def addSecond (mark : Nat) (bins : List Nat) (v : Option Int) (h : Hist) : Hist :=
  let full := bins.any fun k => h.bins.getD k 0 == 0xFFFFFFFF
  let b := (List.range 16).map fun k => if bins.contains k then sat 0xFFFFFFFF (h.bins.getD k 0 + 1) else h.bins.getD k 0
  let h1 := { h with bins := b, secs := h.secs + 1, sat := h.sat || full }
  match v with
  | none => h1
  | some x =>
    let h2 := if h.secs = 0 ∨ h.hi < x then { h1 with hi := x, hiMark := mark } else h1
    if h.secs = 0 ∨ x < h.lo then { h2 with lo := x, loMark := mark } else h2

def histUp (cls inst : Nat) (f : Hist → Hist) (l : List Hist) : List Hist :=
  if l.any fun h => h.cls == cls && h.inst == inst then l.map fun h => if h.cls = cls ∧ h.inst = inst then f h else h
  else l ++ [f (newHist cls inst)]

/-- What one instance shows in a second. -/
structure GazSample where
  cls : Nat
  inst : Nat
  bins : List Nat
  value : Option Int
deriving DecidableEq, Repr

def gazSamp (cls inst bin : Nat) (v : Int) : GazSample := { cls, inst, bins := [bin], value := some v }

/-- Instant of the last good frame of a link at LOGIC. -/
def lastGood (x : NearLink) : Option Nat := x.timer.map Prod.fst
/-- A value that came at instant `a` is no more than 2 s old. -/
def fresh2 (now : Nat) (a : Option Nat) : Bool := match a with | some t => decide (now ≤ t + 2 ^ 25) | none => false

/-- All samples of a second (Table 18-3). -/
def gazSamples (s : State) : List GazSample :=
  let d := s.datum
  let now := s.now
  let pw := fresh2 now (lastGood (s.near 1))
  let fans := if pw then (s.links.viewP.fans.filter fun f => (d.fanRec f.ch).isSome).map fun f => gazSamp 1 f.ch (f.r / 4096) f.r else []
  let coils := if pw then (s.links.viewP.valves.filter fun v => (d.valveRec v.ch).isSome && v.warm).map fun v =>
      gazSamp 2 v.ch (binOf16 (toS 16 (twWord v))) (toS 16 (twWord v)) else []
  let plen := (s.gaz.plen.filter fun p => fresh2 now (some (frameStart (p.2.2 + 1)))).map fun p => gazSamp 3 p.1 (clampBin (p.2.1 / 2048)) p.2.1
  let vfld := if fresh2 now (some s.pwr.roundAt) ∧ s.pwr.rails.getD 7 0 ≠ 0 then
      [gazSamp 4 0 (clampBin (((s.pwr.rails.getD 7 0 : Nat) - 8000 : Int) / 2048)) (s.pwr.rails.getD 7 0)] else []
  let sites := ((List.range 7).filterMap fun n => (s.pwr.sites.getD n siteReset).temp.bind fun t =>
      if fresh2 now (some s.pwr.roundAt) then some (gazSamp 5 n (binOf16 t) t) else none)
  let links := (List.range 3).map fun n =>
      let e := s.gaz.errRun.getD n 0
      ({ cls := 6, inst := n, bins := [if e = 0 then 0 else min (1 + Nat.log2 e) 15], value := none } : GazSample)
  let csw := if fresh2 now (lastGood (s.near 0)) then
      ((List.range 4).filter fun g => (d.recs tyContour).any fun r => coCsw r / 16 == g).map fun g =>
        ({ cls := 7, inst := g, bins := (List.range 16).filter fun k => bit s.senLog.active (16 * g + k), value := none } : GazSample) else []
  fans ++ coils ++ plen ++ vfld ++ sites ++ links ++ csw

/-- Class 8, level B only. -/
def gazOutlet (s : State) : List GazSample :=
  (s.gaz.inno.filter fun p =>
    decide (frameOf s.now ≤ p.2.2 + 7200) && (dryerAt s.plant p.1).any fun x => x.dis.mode != 0).map fun p =>
      gazSamp 8 p.1 (clampBin (8 + p.2.1 / 65536)) p.2.1

def applySamples (mark : Nat) (l : List GazSample) (h : List Hist) : List Hist :=
  l.foldl (fun a x => histUp x.cls x.inst (addSecond mark x.bins x.value) a) h

/-- Seconds that the time counters gain (Table 18-6): powered always, RUN and IDLE seconds, fans in RUN, routes RUNNING. -/
def lifeSecond (powered : Nat) (s : State) : Life :=
  let l := s.gaz.life
  { l with
    powered := sat (2 ^ 40 - 1) (l.powered + powered), run := sat (2 ^ 40 - 1) (if s.pwr.state ≤ 1 then l.run + 1 else l.run)
    fans := (List.range l.fans.length).zipWith (fun n (f : LifeFan) =>
      if s.links.viewP.fans.any fun v => v.ch == n && v.state == 2 then { f with run := sat (2 ^ 40 - 1) (f.run + 1) } else f) l.fans
    routes := (List.range l.routes.length).zipWith (fun n (r : LifeRoute) =>
      if s.plant.routes.any fun q => q.num == n && q.state == 2 then { r with run := sat (2 ^ 40 - 1) (r.run + 1) } else r) l.routes }

/-- A Meridian second boundary while LOGIC is awake (R472). -/
def gazSecond (s : State) : State :=
  let sec := s.now / 2 ^ 24
  let g := s.gaz
  let com := gazSamples s
  { s with gaz := { g with
      perA := { g.perA with hists := applySamples g.next com g.perA.hists }
      perB := { g.perB with hists := applySamples g.next (com ++ gazOutlet s) g.perB.hists }
      life := lifeSecond (sec - g.secAt) s, secAt := sec
      errRun := [0, 0, 0] } }

/-- The housekeeping round reads SYS_ILERR0-2 and records what they have gained since its last reading (01 R25). -/
def gazErrors (s : State) : State :=
  let e := (List.range 3).map fun n => (s.near n).farErr + (s.near n).nearErr
  { s with gaz := { s.gaz with errs := e, errRun := s.gaz.errRun.zipWith (fun a b => a + b) (e.zipWith (fun x y => x - y) s.gaz.errs) } }

/-- A crossing to active counts in its group's class 7 instance (Table 18-2). -/
def gazCrossing (csw : Nat) (s : State) : State :=
  let f := fun (h : Hist) => { h with cross := h.cross + 1 }
  let g := s.gaz
  { s with gaz := { g with perA := { g.perA with hists := histUp 7 (csw / 16) f g.perA.hists }
                           perB := { g.perB with hists := histUp 7 (csw / 16) f g.perB.hists } } }

/-! Lifetime groups (R483, R484). -/

def lifeBody (g : Nat) (l : Life) : Bytes :=
  match g with
  | 1 => leBytes 8 l.powered ++ leBytes 8 l.run ++ leBytes 8 l.starts ++ leBytes 8 l.wakes
  | 2 => (l.fans.map fun f => leBytes 8 f.starts ++ leBytes 8 f.run ++ leBytes 4 f.stall ++ leBytes 4 f.locked ++ zeros 8).flatten
  | 3 => (l.valves.map fun v => leBytes 8 v.cycles ++ leBytes 8 v.since ++ leBytes 4 v.stress ++ leBytes 2 v.base ++ leBytes 2 v.recent ++
      leBytes 2 v.last ++ zeros 6).flatten
  | 4 => (l.outs.map (leBytes 8)).flatten
  | 5 => (l.routes.map fun r => leBytes 8 r.starts ++ leBytes 8 r.run).flatten
  | 6 => (l.tons.map fun t => leBytes 2 t.crop ++ leBytes 2 t.grade ++ zeros 4 ++ leBytes 8 t.grams).flatten
  | 7 => (l.writes.map (leBytes 8)).flatten
  | _ => ((List.range 32).map fun i => match l.maint.find? fun m => m.item == i with
      | some m => leBytes 1 m.basis ++ leBytes 1 m.ch ++ leBytes 1 (b2n m.due) ++ zeros 1 ++ leBytes 4 m.interval ++ leBytes 8 m.base ++
          leBytes 4 m.firings ++ zeros 12
      | none => zeros 32).flatten
def g0Body (g : Group0) : Bytes :=
  leBytes 4 g.aFirst ++ leBytes 4 g.bFirst ++ leBytes 4 g.seqFloor ++ leBytes 1 (b2n g.pinnedFull) ++ zeros 3 ++
  ((List.range 32).map fun i => leBytes 2 (g.badA.getD i 0xFFFF)).flatten ++ ((List.range 32).map fun i => leBytes 2 (g.badB.getD i 0xFFFF)).flatten

/-- Body of the copy in force of a group (LIFE_READ); an empty group reads as zeros of its length. -/
def lifeInForce (s : State) (g : Nat) : Bytes :=
  if g = 0 then g0Body s.g0 else lifeBody g (((s.gaz.lifeNv.getD (g - 1) noTwo).body).getD lifeReset)

/-- One group's commit (R483); a failure is recorded with code 0x06 (R480). -/
def commitGroup (g : Nat) (s : State) : State :=
  let q := storeTwo (placeLife g) (s.gaz.lifeNv.getD (g - 1) noTwo) s.gaz.life s
  let s1 := { q.1 with gaz := { q.1.gaz with lifeNv := setAt (g - 1) q.2.1 q.1.gaz.lifeNv } }
  if q.2.2 then s1 else gazFail 0x06 10 g (placeLife g).a0 s1

/-- The commit of groups 1 to 8. -/
def lifeCommit (s : State) : State :=
  let s1 := [1, 2, 3, 4, 5, 6, 7, 8].foldl (fun a g => commitGroup g a) s
  { s1 with gaz := { s1.gaz with lifeAt := s1.now } }

/-- Counts as the last commits left them: what a start goes on from (R483). -/
def lifeRestore (s : State) : Life :=
  let at' := fun (g : Nat) => ((s.gaz.lifeNv.getD (g - 1) noTwo).body).getD lifeReset
  { powered := (at' 1).powered, run := (at' 1).run, starts := (at' 1).starts, wakes := (at' 1).wakes, fans := (at' 2).fans
    valves := (at' 3).valves, outs := (at' 4).outs, routes := (at' 5).routes, tons := (at' 6).tons, writes := (at' 7).writes
    maint := (at' 8).maint }

/-- A movement report of a valve (R484): units of 100 µs; 0 is ignored. -/
def lifeMove (m : Nat) (v : LifeValve) : LifeValve :=
  if m = 0 then v
  else if v.formN < 256 then
    let n := v.formN + 1
    let sum := v.formSum + m
    if n = 256 then { v with last := m, formN := n, formSum := sum, base := (divr sum 256).toNat, recent := (divr sum 256).toNat }
    else { v with last := m, formN := n, formSum := sum }
  else { v with last := m, recent := ((v.recent : Int) + divr ((m : Int) - v.recent) 64).toNat }

def onValve (ch : Nat) (f : LifeValve → LifeValve) (s : State) : State :=
  s.setLife { s.gaz.life with valves := modifyAt f ch s.gaz.life.valves }

/-- LIFE_REPLACE (R484). -/
def replaceValve (v : LifeValve) : LifeValve := { v with since := 0, stress := 0, base := 0, recent := 0, formN := 0, formSum := 0 }

/-- What the change of a POWER die's state adds to groups 2 and 3. -/
def countPower (a b : PowerSt) (s : State) : State :=
  let l := s.gaz.life
  let fans := (List.range l.fans.length).zipWith (fun n (f : LifeFan) =>
    match a.fan n, b.fan n with
    | some x, some y =>
      { f with starts := sat (2 ^ 48 - 1) (f.starts + b2n (x.state != 1 && x.state != 2 && (y.state == 1 || y.state == 2)))
               , stall := sat 0xFFFFFFFF (f.stall + b2n (decide (x.attempts < y.attempts)))
               , locked := sat 0xFFFFFFFF (f.locked + b2n (x.state != 4 && y.state == 4)) }
    | _, _ => f) l.fans
  let valves := (List.range l.valves.length).zipWith (fun n (f : LifeValve) =>
    match a.valve n, b.valve n with
    | some x, some y =>
      let c := b2n (x.state != 2 && y.state == 2)
      { f with cycles := sat (2 ^ 48 - 1) (f.cycles + c), since := sat (2 ^ 48 - 1) (f.since + c)
               , stress := sat 0xFFFFFFFF (f.stress + (y.stress - x.stress)) }
    | _, _ => f) l.valves
  s.setLife { l with fans := fans, valves := valves }

/-- What the change of an IO die's state adds to group 4. -/
def countIo (now : Nat) (safeA safeB : Bool) (a b : IoSt) (s : State) : State :=
  let l := s.gaz.life
  let f := fun (n c : Nat) =>
    match a.chan n, b.chan n with
    | some x, some y => sat (2 ^ 48 - 1) (c + b2n (!uioOnNow now safeA a x && uioOnNow now safeB b y))
    | _, _ => c
  s.setLife { l with outs := (List.range l.outs.length).zipWith f l.outs }

/-- Starts of routes (group 5). -/
def countRoutes (a b : List Route) (s : State) : State :=
  let l := s.gaz.life
  let f := fun (n : Nat) (c : LifeRoute) =>
    match a.find? (fun r => r.num == n), b.find? (fun r => r.num == n) with
    | some x, some y => { c with starts := sat (2 ^ 48 - 1) (c.starts + b2n (x.state != 1 && y.state == 1)) }
    | _, _ => c
  s.setLife { l with routes := (List.range l.routes.length).zipWith f l.routes }

/-- Rows that left a dryer-kind map: slot and dry mass (group 6). -/
def countTons (rows : List (Nat × Nat)) (s : State) : State :=
  let l := s.gaz.life
  s.setLife { l with tons := rows.foldl (fun t r => modifyAt (fun (x : Tonnage) => { x with grams := sat (2 ^ 48 - 1) (x.grams + r.2) }) r.1 t) l.tons }

/-- A Legend with other codes closes the slot's tonnage entry (R484). -/
def legendTonnage (slot crop grade : Nat) (s : State) : State :=
  let x := s.gaz.life.tons.getD slot { crop := 0, grade := 0, grams := 0 }
  if x.crop = crop ∧ x.grade = grade then s
  else
    let body := leBytes 1 slot ++ zeros 1 ++ leBytes 2 x.crop ++ leBytes 2 x.grade ++ zeros 2 ++ leBytes 8 x.grams
    let s1 := putB 4 0 slot 0 body s
    s1.setLife { s1.gaz.life with tons := setAt slot { crop, grade, grams := 0 } s1.gaz.life.tons }

/-! Maintenance items (R485, 02 R66). -/

def tyMaint : Nat := 0x68
def miItem (r : Bytes) : Nat := u8 r 0
def miBasis (r : Bytes) : Nat := u8 r 1
def miCh (r : Bytes) : Nat := u8 r 2
def miInterval (r : Bytes) : Nat := u32 r 4

/-- Wall seconds now (02 R61). -/
def State.wall (s : State) : Int := (s.now : Int) + s.time.offset
def State.wallSec (s : State) : Nat := (s.wall / 16777216).toNat

/-- The counter of a basis. -/
def maintCounter (s : State) (basis ch : Nat) : Nat :=
  let l := s.gaz.life
  match basis with
  | 1 => l.run
  | 2 => (l.fans.getD ch { starts := 0, run := 0, stall := 0, locked := 0 }).run
  | 3 => (l.valves.getD ch { cycles := 0, since := 0, stress := 0, base := 0, recent := 0, last := 0, formN := 0, formSum := 0 }).cycles
  | 4 => (l.routes.getD ch { starts := 0, run := 0 }).run
  | _ => s.wallSec

/-- Items of a Datum: one unchanged in ITEM, BASIS and CH keeps its state. -/
def loadMaint (d : Datum) (s : State) : State :=
  s.setLife { s.gaz.life with maint := (d.recs tyMaint).map fun r =>
    match s.gaz.life.maint.find? fun m => m.item == miItem r && m.basis == miBasis r && m.ch == miCh r with
    | some m => { m with interval := miInterval r }
    | none => { item := miItem r, basis := miBasis r, ch := miCh r, due := false, interval := miInterval r
                base := if miBasis r = 5 ∧ s.time.wallValid = false then 0 else maintCounter s (miBasis r) (miCh r)
                based := miBasis r != 5 || s.time.wallValid, firings := 0 } }

/-- Calendar items take their base at the first instant with WALL_VALID (R485). -/
def baseMaint (s : State) : State :=
  if s.time.wallValid then
    s.setLife { s.gaz.life with maint := s.gaz.life.maint.map fun m => if m.based then m else { m with base := s.wallSec, based := true } }
  else s

/-- An item reaches its due count or time (R485): it fires. -/
def maintReached (s : State) (m : Maint) : Bool :=
  if m.basis = 5 then m.based && s.time.wallValid && decide (m.base + m.interval * 86400 ≤ s.wallSec)
  else decide (m.base + m.interval ≤ maintCounter s m.basis m.ch)

def maintFire (item : Nat) (s : State) : State :=
  match s.gaz.life.maint.find? fun m => m.item == item with
  | none => s
  | some m =>
    if maintReached s m = false then s
    else
      let v := maintCounter s m.basis m.ch
      let m1 := { m with due := true, base := v, firings := m.firings + 1 }
      let s1 := s.setLife { s.gaz.life with maint := s.gaz.life.maint.map fun x => if x.item = item then m1 else x }
      let body := leBytes 1 item ++ leBytes 1 m.basis ++ leBytes 2 s.time.era ++ zeros 4 ++ leBytes 8 v ++ leBytes 4 m1.firings
      raise 0x0E03 (leBytes 1 item) (putB 5 0 item 0 body s1)

end Sys2Proof.Machine
end

