-- ==== Sys2Proof/Machine/IcSettle.lean ====
section
/-!
DEFINITION. What the interrupt controller does after every command: the level sources take their levels, a routed source
wakes a target, rising requests send messages (14 R392, R394, R397, R408).
-/
namespace Sys2Proof.Machine

/-- The level of a level source (Table 14-1). -/
def levelOf (s : State) (n : Nat) : Bool :=
  if n < 35 then bit s.ic.gpl (n - 9)
  else if n < 38 then (s.near (n - 35)).nearSilence || (s.near (n - 35)).farSilence
  else if n = 38 then s.clk.lfLost || s.clk.pllUnlock || s.clk.refLost
  else if n = 39 then s.hif.ringErr != 0
  else if n = 40 then s.svy.repaired || s.svy.extUe || s.svy.tileUe
  else if n = 41 then trippedMask s.plant != 0
  else if n = 42 then alarmMask s.plant != 0
  else if n = 43 then s.sto.reseeded || s.sto.leaseExpired
  else if n < 80 then s.links.viewP.valves.any fun v => v.ch == n - 64 && v.state == 7
  else if n < 92 then s.links.viewP.fans.any fun v => v.ch == n - 80 && (v.state == 4 || v.state == 5)
  else if n < 124 then s.links.viewI.chans.any fun v => v.ch == n - 92 && uioFaulted v
  else s.can.any fun c => c.ch == n - 124 && (c.state == 1 || c.state == 2)

/-- The level sources that the controller holds. -/
def levelSrcs (i : Ic) : List Nat := (List.range i.srcs.length).filter isLevelSrc

/-- The controller with its level sources at their levels and a target woken where R408 wakes one. -/
def icLevels (s : State) : Ic := icWake ((levelSrcs s.ic).foldl (fun a n => icLevel n (levelOf s n) a) s.ic)

/-- Target n's request takes its value; a rise sends a message, unless the target uses its pin (R397). -/
def icNotify (s : State) (n : Nat) : State :=
  let r := icRequest s.ic n
  let was := (s.ic.tgt n).req
  let s1 := { s with ic := s.ic.setTgt n { s.ic.tgt n with req := r } }
  if r && !was && !(decide (n < 4) && bit s.ic.tpin n) then msixSend n s1 else s1

/-- Coalescing timers that have reached their time make their sources pending (R394); they stand still in device sleep (R409). -/
def timersUp (s : State) : State :=
  if s.awake && s.ic.srcs.any (fun x => !x.pend && timeUp s.now x) then onIc (icTimers s.now) s else s

/-- The controller settles; in reset and in sleep it stands (R410). -/
def icSettle (s : State) : State :=
  if s.awake then (fun s => (List.range (min 8 s.ic.tgts.length)).foldl icNotify { s with ic := icLevels s }) (timersUp s) else s

end Sys2Proof.Machine
end

