-- ==== Sys2Proof/Machine/Hif.lean ====
section
/-!
DEFINITION. Host interface: ring configuration, doorbells, heartbeat, held completions, resets of the interface, and the
rows of the host that do not carry a command (13 R359-R371, R383).
-/
namespace Sys2Proof.Machine

/-- The meaning of a row: time passes to its instant, its effect, and the interrupt controller settles. -/
def run (t : Nat) (f : State → State) (s : State) : Host.Outcome State Fault Refusal := .next (icSettle (f (advance t s)))

/-- The host reaches the device over PCIe: core M and LOGIC run. -/
def State.hostOpen (s : State) : Bool := s.awake

/-! Ring configuration (R364, R365). -/

def ringErrSet (r : Nat) (s : State) : State :=
  hit (if r < 32 then 0x820 else 0x824) (r % 32)
    { s with hif := { s.hif with ringErr := if bit s.hif.ringErr r then s.hif.ringErr else s.hif.ringErr + 2 ^ r } }

/-- Enabling is refused in these cases (R364). -/
def enableRefused (r : Nat) (x : Ring) (s : State) : Bool :=
  s.hif.shadow == 0 || decide (x.log2 < 4) || decide (16 < x.log2) || (decide (r < 16) && !(s.ring (16 + x.cq)).enable)

/-- The ring stops; completions still due to a disabled completion ring are discarded (R365). -/
def stopRing (r : Nat) (s : State) : State :=
  let s1 := s.setRing r { s.ring r with enable := false, armed := false }
  if 16 ≤ r ∧ r < 32 then { s1 with hif := { s1.hif with held := s1.hif.held.filter fun p => p.1 != r - 16 } } else s1

/-- A write to HIF_RCFGr (Table 13-29). -/
def writeRcfg (r v : Nat) (s : State) : State :=
  let x := s.ring r
  if 46 ≤ r then s
  else if x.enable then (if bit v 31 then s else stopRing r s)
  else
    let x1 := { x with vector := bits v 20 16, cq := if r < 16 then bits v 11 8 else 0, log2 := bits v 4 0 }
    let s1 := s.setRing r x1
    if bit v 31 = false then s1
    else if enableRefused r x1 s then ringErrSet r s1
    else
      let s2 := writeShadow r (s1.setRing r { x1 with enable := true, dev := 0, host := 0, phase := true })
      s2.setRing r { s2.ring r with armed := true }

/-- Writes to the base registers, ignored while the ring runs (R364). -/
def writeRbase (r v : Nat) (hi : Bool) (s : State) : State :=
  let x := s.ring r
  if x.enable then s
  else s.setRing r { x with base := if hi then v % 2 ^ 32 * 2 ^ 32 + x.base % 2 ^ 32 else x.base / 2 ^ 32 * 2 ^ 32 + v % 2 ^ 32 / 64 * 64 }

/-! Doorbells (R366, R371). -/

/-- The new index is a ring error. -/
def doorbellBad (r v : Nat) (x : Ring) : Bool :=
  decide (x.size ≤ v) ||
  (if hostProducer r then decide ((v + x.size - x.dev) % x.size < (x.host + x.size - x.dev) % x.size)
   else decide ((x.dev + x.size - x.host) % x.size < (v + x.size - x.host) % x.size))

def doorbell (r v : Nat) (s : State) : State :=
  let x := s.ring r
  if 46 ≤ r ∨ x.enable = false then s
  else if doorbellBad r v x then
    raise 0x0103 (leBytes 1 r ++ zeros 1 ++ leBytes 2 v) (ringErrSet r (stopRing r s))
  else if hostProducer r then s.setRing r { x with host := v }
  else
    let s1 := s.setRing r { x with host := v, armed := true }
    if (s1.ring r).unread = 0 then s1 else ringNotify r s1

/-! The heartbeat (R383). -/

def opHostSilent : Nat := 0x04F0
def opHostReturn : Nat := 0x04F1
def opSafeSeen : Nat := 0x04F2
def opHostLimit : Nat := 0x04F3

/-- The instant at which the timer reaches TIMEOUT, units of 100 ms; none while it does not run. -/
def heartbeatEnd (s : State) : Option Nat :=
  if s.hif.ready && !s.hif.hostSilent && s.hif.hbTimeout != 0 then some ((s.hif.hbStart * 10 + s.hif.hbTimeout * 2 ^ 24 + 9) / 10) else none
/-- The timer has reached it. -/
def heartbeatDue (s : State) : Bool := match heartbeatEnd s with | some e => decide (e ≤ s.now) | none => false

/-- The host is silent from instant `e` on. -/
def silentFrom (e : Nat) (s : State) : State :=
  internalCmdAt e opHostSilent [] (s.n0 e) (raiseAt e 0x0101 [] { s with hif := { s.hif with hostSilent := true } })
/-- A timeout whose cycle has passed has taken place, whichever row shows it first. -/
def heartbeatLapse (s : State) : State :=
  match heartbeatEnd s with | some e => if e < s.now then silentFrom e s else s | none => s

def heartbeat (v : Nat) (s0 : State) : State :=
  let s := heartbeatLapse s0
  let s1 := { s with hif := { s.hif with hbLast := v % 2 ^ 32, hbStart := s.now, hostSilent := false } }
  if s.hif.hostSilent then internalCmd opHostReturn [] (s1.n0 s1.now) (raise 0x0102 [] s1) else s1

/-- A heartbeat write of the present cycle still waits in the queue: it wins over the timeout (R383). -/
def heartbeatWaits (s : State) : Bool :=
  s.pending.any fun c => match c with
    | .heartbeatDoorbell t _ => s.inCycle t
    | .hifHbkick t _ => s.inCycle t
    | .registerWrite t a _ _ => s.inCycle t && a == 0x814
    | .spiRegisterWrite t x => s.inCycle t && x.addr == 0x814
    | _ => false

/-- The timeout's instant, unless a write of its cycle wins. -/
def heartbeatLost (s : State) : State :=
  match heartbeatEnd s with
  | some e => if s.awake = false ∨ s.now < e ∨ (s.now = e ∧ heartbeatWaits s = true) then s else silentFrom e s
  | none => s

/-- A write to TIMEOUT restarts the timer; values above 3,000 store 3,000. -/
def writeHbcfg (v : Nat) (s0 : State) : State :=
  let s := heartbeatLapse s0
  { s with hif := { s.hif with hbTimeout := min 3000 (v % 4096), hbStart := s.now } }

/-- AUTO_LIMIT minutes of host silence have passed for a map (05 R188). -/
def hostLimit (map : Nat) (s : State) : State :=
  match s.datum.dryerOf map, s.plant.silentAt with
  | some r, some a =>
    if s.hif.hostSilent = false ∨ dcAutoLimit r = 0 ∨ s.now < a + dcAutoLimit r * 60 * 2 ^ 24 ∨ s.cmds.any (fun c => c.op == opHostLimit && u8 c.d.params 0 == map) ∨
        (dryerAt s.plant map).any (fun x => x.stopped) then s
    else internalCmd opHostLimit (leBytes 1 map) (s.n0 s.now) s
  | _, _ => s

/-! Held completions and spills (R370, 01 R36). -/

def heldWrite (cq : Nat) (s : State) : State :=
  match s.hif.held.find? fun p => p.1 == cq with
  | none => s
  | some p =>
    if (s.ring (16 + cq)).room = 0 then s
    else writeBatch (16 + cq) [p.2] { s with hif := { s.hif with held := s.hif.held.erase p } }

/-! Resets of the interface (R362, R384). -/

/-- Every ring disabled, the completion queue empty, the doorbell state clear, the HIF registers at reset; commands go on
without completions. -/
def hifResetOf (flr : Bool) (s : State) : State :=
  let h := s.hif
  hitIf flr 0x800 4 { s with
    hif := { hifReset with ready := h.ready, linkUp := h.linkUp && flr, linkWidth := if flr then h.linkWidth else 0
                           linkSpeed := if flr then h.linkSpeed else 0, flr := flr || h.flr, hostSilent := h.hostSilent
                           spills := h.spills, evSeq := h.evSeq, hbStart := s.now }
    spi := { s.spi with crcErr := 0, mbDone := false, mailbox := none }
    cmds := s.cmds.map fun c => { c with internal := true } }

/-- A reset of domain L resets the interface as a whole; spills are lost (19 R490). -/
def hifColdReset (s : State) : State := { s with hif := hifReset, spi := spiReset }

def linkUp (speed width : Nat) (bme : Bool) (s : State) : State :=
  { s with hif := { s.hif with linkUp := true, linkSpeed := speed, linkWidth := width, bme := bme } }

/-! Meanings of the rows. -/

def execDoorbellWrite (t ring v : Nat) (s : State) := run t (fun s => if s.hostOpen then doorbell ring v s else s) s
def execHeartbeatDoorbell (t v : Nat) (s : State) := run t (fun s => if s.hostOpen then heartbeat v s else s) s
def execHeartbeatTimeout (t : Nat) (s : State) := run t heartbeatLost s
def execHostLimitTimeout (t map : Nat) (s : State) := run t (fun s => if s.awake then hostLimit map s else s) s
def execHeldCompletionWrite (t cq : Nat) (s : State) := run t (fun s => if s.awake then heldWrite cq s else s) s
def execSpillDrain (t ring : Nat) (s : State) := run t (fun s => if s.awake then drain ring s else s) s
def execFunctionLevelReset (t : Nat) (s : State) := run t (fun s => if s.hostOpen then hifResetOf true s else s) s
def execPcieLinkReset (t : Nat) (s : State) := run t (fun s => if s.hostOpen then hifResetOf false s else s) s
def execPcieLinkUp (t speed width : Nat) (bme : Bool) (s : State) := run t (fun s => if s.hostOpen then linkUp speed width bme s else s) s

end Sys2Proof.Machine
end

