-- ==== Sys2Proof/Machine/Storage.lean ====
section
/-!
DEFINITION. The storage layer: records (06 Tables 6-2 to 6-5), lost sensors (R198), aeration (R199-R202), fronts (R204),
hot spots (R205, R206), the budget (R207), reseeding (R209), cable nodes (R194-R197).
-/
namespace Sys2Proof.Machine

/-! Storage globals (Table 6-2), cable nodes (Table 6-3), bin control (Table 6-4), Legend storage block (Table 6-5). -/
def sgWatch (r : Bytes) : Nat := dflt (u16 r 0) 1800
def sgLease (r : Bytes) : Nat := dflt (u16 r 2) (min (2 * sgWatch r) 7200)
def sgLead (r : Bytes) : Nat := dflt (u8 r 4) 4
def sgCan (r : Bytes) : Nat := u8 r 5
def sgFlags (r : Bytes) : Nat := u8 r 6
def sgNodes (r : Bytes) : Nat := u8 r 7
def sgNodeBase (r : Bytes) : Nat := u16 r 8
def ndAddr (r : Bytes) : Nat := u8 r 0
def ndSensors (r : Bytes) : Nat := u8 r 1
def ndSrc (r : Bytes) : Nat := u16 r 2
def bcMap (r : Bytes) : Nat := u8 r 0
def bcMode (r : Bytes) : Nat := u8 r 1
def bcMTarget (r : Bytes) : Nat := u16 r 2
def bcTTarget (r : Bytes) : Int := s16 r 4
def bcDtOn (r : Bytes) : Nat := u16 r 6
def bcDtOff (r : Bytes) : Nat := u16 r 8
def bcAmbTmin (r : Bytes) : Int := s16 r 10
def bcMinOn (r : Bytes) : Nat := u8 r 12
def bcMinOff (r : Bytes) : Nat := u8 r 13
def bcFans (r : Bytes) : Nat := u8 r 14
def bcFanOut (r : Bytes) (i : Nat) : Nat := u8 r (16 + i)
def bcFanRef (r : Bytes) : Nat := u16 r 20
def bcLost (r : Bytes) : Nat := dflt (u8 r 22) 2
def bcRecover (r : Bytes) : Nat := dflt (u8 r 23) 3
def lgDmlLimit (img : Bytes) : Nat := u16 img 0x140
def lgBudgetWarn (img : Bytes) : Nat := u16 img 0x142
def lgHsRate (img : Bytes) : Nat := u16 img 0x144
def lgHsDiff (img : Bytes) : Nat := u16 img 0x146
def lgRiseWarn (img : Bytes) : Nat := u16 img 0x148
def lgRewet (img : Bytes) : Nat := u16 img 0x14A
def lgDryMargin (img : Bytes) : Nat := u16 img 0x14C
def lgFrontDt (img : Bytes) : Nat := u16 img 0x14E
def lgFrontDm (img : Bytes) : Nat := u16 img 0x150

/-- The storage globals record, where the Datum has one. -/
def Datum.stoGlob (d : Datum) : Option Bytes := (d.recs tyStoGlob).head?
/-- Cable node records. -/
def Datum.nodes (d : Datum) : List Bytes :=
  match d.stoGlob with | some g => d.run tyNode (sgNodeBase g) (sgNodes g) | none => []
/-- The bin control record of a map. -/
def Datum.binOf (d : Datum) (n : Nat) : Option Bytes := (d.recs tyBinCtl).find? fun r => bcMap r == n

def newSens : SensSt :=
  { last := 0, lastFrame := 0, status := 0, since := 0, run := 0, lost := false, hot := false, cannot := false, hist := [],
    back := 0, fresh := false, cool := 0, calm := 0 }

def newBin (d : Datum) (r : Bytes) : BinSt :=
  { map := bcMap r, mode := bcMode r, on := false, since := 0, force := none, fOn := 0, coolF := 0, dryF := 0, tAir := none,
    budget := 0, worst := 0, lowConf := false, warn := false, spent := false, ambStale := false, alarm := 0, decided := false,
    sensors := List.replicate (match d.geomOf (bcMap r) with | some g => geCount g | none => 0) newSens, codes := [] }

/-- Replace a bin. -/
def setBin (p : Plant) (x : BinSt) : Plant := { p with bins := p.bins.map fun q => if q.map = x.map then x else q }

/-- Aeration on in the frame: the decision, or a force (R201). -/
def binOn (n : Nat) (x : BinSt) : Bool := x.on || (match x.force with | some e => decide (n < e) | none => false)

/-! Validity (R198). -/

/-- The last sample of a source in a step period: its status code (all samples, with or without a value). -/
def lastCode (codes : List (Nat × Nat)) (src : Nat) : Option Nat := ((codes.filter fun e => e.1 == src).getLast?).map Prod.snd

/-- A last sample's code makes a sensor lost (R198): front-end codes OPEN, OVERRANGE, LINK_LOST, SETTLING; any other
source's code without a value. -/
def codeLoses (d : Datum) (src code : Nat) : Bool :=
  if (d.recs tyChan).any fun r => chSrc r == src then code == 1 || code == 2 || code == 3 || code == 4 else code != 0

/-- Validity of one sensor at a step of frame n; `vs` its valid samples of the period (frame, value). -/
def sensStep (d : Datum) (bc : Bytes) (n src : Nat) (code : Option Nat) (vs : List (Nat × Int)) (x : SensSt) : SensSt :=
  let mean := if vs = [] then none else some (divr (sumI (vs.map Prod.snd)) vs.length)
  let fr := (vs.getLast?.map Prod.fst).getD n
  let x := match code with | some c => { x with status := c } | none => x
  let bad := match code with | some c => codeLoses d src c | none => false
  let x := match mean with
    | some v => { x with last := v, lastFrame := fr, since := 0, run := x.run + 1, hist := lastN 3 (x.hist ++ [(v, fr)]) }
    | none => { x with since := sat 65535 (x.since + 1), run := 0 }
  let lost := bad || decide (bcLost bc ≤ x.since) || (x.lost && decide (x.run < bcRecover bc))
  { x with lost := lost, fresh := lost && (x.fresh || !x.lost), back := if lost then 0 else if mean.isSome then x.back + 1 else x.back }

/-- Events SENSOR_LOST and SENSOR_BACK of a map's sensors. -/
def lostEvents (map : Nat) (old new : List SensSt) : Evs :=
  (List.range new.length).filterMap fun i =>
    let a := (old.getD i newSens).lost
    let b := (new.getD i newSens).lost
    if a = b then none else some (if b then 0x0501 else 0x0502, leBytes 1 map ++ zeros 1 ++ leBytes 2 i)

/-- Rise test of R205 over three readings with a rate. -/
def risesAt (rate : Nat) (h : List (Int × Nat)) : Bool :=
  match h with
  | [(r1, f1), (r2, _), (r3, f3)] =>
    decide (r1 < r2) && decide (r2 < r3) && decide ((rate : Int) * ((f3 : Int) - f1) < (r3 - r1) * 172800)
  | _ => false

/-- Sensors nearest above and below a sensor by ROW on its CABLE (R206). -/
def cableNeighbours (ss : List Bytes) (i : Nat) : List Nat :=
  let me := ss.getD i []
  let same := (List.range ss.length).filter fun k => k != i && snCable (ss.getD k []) == snCable me
  let up := same.filter fun k => decide (snRow (ss.getD k []) < snRow me)
  let dn := same.filter fun k => decide (snRow me < snRow (ss.getD k []))
  (bestIdx (fun (a b : Nat) => decide (b < a)) (up.map fun k => (k, snRow (ss.getD k [])))).toList ++
  (bestIdx (fun (a b : Nat) => decide (a < b)) (dn.map fun k => (k, snRow (ss.getD k [])))).toList

/-- CANNOT_CLEAR at the loss of a sensor (R206). -/
def lossAlarms (img : Bytes) (ss : List Bytes) (new : List SensSt) (i : Nat) : Bool :=
  (new.getD i newSens).hot ||
    (i :: cableNeighbours ss i).any fun k => risesAt (lgRiseWarn img) (new.getD k newSens).hist

/-- Validity of all sensors of a map before its step (R198). `codes`: last codes of the period's samples. -/
def validity (d : Datum) (n : Nat) (codes : List (Nat × Nat)) (m : GMap) (x : BinSt) : BinSt × Evs :=
  match d.binOf x.map, d.geomOf x.map with
  | some bc, some g =>
    let ss := d.run tySensor (geBase g) (geCount g)
    let new := ((List.range ss.length).zip ss).map fun q =>
      sensStep d bc n (snSrc q.2) (lastCode codes (snSrc q.2)) (samplesOf m.acc (snSrc q.2)) (x.sensors.getD q.1 newSens)
    ({ x with sensors := new }, lostEvents x.map x.sensors new)
  | _, _ => (x, [])

/-! Hot spots (R205, R206). -/

/-- Mean of the up to six nearest other valid sensors within R_MAX. -/
def neighbourMean (h : Shape) (g : Bytes) (ss : List Bytes) (st : List SensSt) (i : Nat) : Option Int :=
  let me := sensorCell h (ss.getD i [])
  let others := (List.range ss.length).filter fun k =>
    k != i && !(st.getD k newSens).lost && decide ((st.getD k newSens).since = 0) && decide (0 < (st.getD k newSens).run)
  let near := ((nearest (others.map fun k => (k, dist2 h g (ss.getD k []) me))).filter fun p => decide (p.2 ≤ geMax g * geMax g)).take 6
  if near = [] then none else some (divr (sumI (near.map fun p => (st.getD p.1 newSens).last)) near.length)

/-- Hot-spot work of one sensor at a step (R205). -/
def hotOne (h : Shape) (g img : Bytes) (ss : List Bytes) (st : List SensSt) (map i : Nat) : SensSt × Evs :=
  let s := st.getD i newSens
  let nm := neighbourMean h g ss st i
  let valid := !s.lost && s.since == 0
  let r3 := s.last
  let r1 := (s.hist.headD (0, 0)).1
  let hotNow := valid && decide (3 ≤ s.run) && risesAt (lgHsRate img) s.hist &&
    (match nm with | some v => decide ((lgHsDiff img : Int) < r3 - v) | none => false)
  let coolNow := valid && (match nm with | some v => decide (r3 - v ≤ rnd (lgHsDiff img) 1) | none => false)
  let cool := if s.hot && coolNow then s.cool + 1 else 0
  let s1 := if s.hot then (if 3 ≤ cool then { s with hot := false, cool := 0 } else { s with cool := cool })
    else if hotNow then { s with hot := true, cool := 0 } else s
  (s1, if hotNow && !s.hot then
      [(0x0503, leBytes 1 map ++ zeros 1 ++ leBytes 2 i ++ leBytes 2 (ofS 16 r3) ++ leBytes 2 (ofS 16 (r3 - r1)))] else [])

/-- CANNOT_CLEAR work of one sensor at a step, after the hot spots (R192, R206): raised at a loss, cleared once the readings since the
return, when there are three of them, have not risen for RECOVER_STEPS steps. -/
def cannotOne (bc img : Bytes) (ss : List Bytes) (st : List SensSt) (map i : Nat) : SensSt × Evs :=
  let s := st.getD i newSens
  let calmNow := !s.lost && s.since == 0 && !(decide (3 ≤ s.back) && risesAt (lgHsRate img) s.hist)
  let calm := if s.cannot && calmNow then s.calm + 1 else 0
  let s1 := { s with fresh := false, calm := calm }
  if s.fresh && lossAlarms img ss st i then
    ({ s1 with cannot := true, calm := 0 }, if s.cannot then [] else [(0x0504, leBytes 1 map ++ zeros 1 ++ leBytes 2 i)])
  else if s.cannot && decide (bcRecover bc ≤ calm) then ({ s1 with cannot := false, calm := 0 }, [])
  else (s1, [])

/-! Fronts, budget, aeration (R199-R207). -/

/-- Cells of each strand of a BIN map, from the floor upward. -/
def binStrands (h : Shape) (cells : List Cell) : List (List Cell) :=
  (List.range h.width).map fun k => ((rowsOf h cells).map fun row => row.getD k emptyCell).reverse

/-- Leading cells of a strand that are occupied and satisfy a test (R204). -/
def leadCount (ok : Cell → Bool) : List Cell → Nat
  | [] => 0
  | c :: r => if c.occ && ok c then leadCount ok r + 1 else 0

def frontPermille (h : Shape) (cells : List Cell) (ok : Cell → Bool) : Nat :=
  (divr (1000 * (sumN ((binStrands h cells).map (leadCount ok)) : Nat)) ((cells.filter Cell.occ).length)).toNat

/-- Storage days of a cell in 2^-8 days (R207). -/
def cellDays (imgs : List Bytes) (c : Cell) : Nat :=
  let img := legImg imgs c.legend
  let k := kinOf img
  let v := exp2q (k.d0 + rnd (k.d1 * (c.t * 32)) 12 + rnd (k.d2 * (c.m * 256 : Nat)) 24 + 300480)
  let rem := lgDmlLimit img - c.dml
  if v = 0 then 0xFFFFFFFF else min (divr (rem * 4294967296) v).toNat 0xFFFFFFFF

/-- The bin's budget and worst cell index; none for an empty map. -/
def binBudget (imgs : List Bytes) (cells : List Cell) : Option (Nat × Nat) :=
  (((List.range cells.length).zip cells).filter fun p => p.2.occ).foldl (fun b p =>
    let v := cellDays imgs p.2
    match b with
    | none => some (v, p.1)
    | some y => if v < y.1 then some (v, p.1) else some y) none

/-- me_amb of R199. -/
def meAmb (img : Bytes) (tAmb rhAmb : Int) : Int :=
  let k := kinOf img
  rnd (isotherm k (clampI 1 1048575 (rhAmb * 16)) (max (tAmb * 32 + k.c * 32) 32)).1 8

/-- Table 6-10: (turns on, turns off). -/
def aerWish (bc img : Bytes) (mode mt : Nat) (d tBin mBin tAmb me : Int) (coolF : Nat) : Bool × Bool :=
  let rewet : Int := lgRewet img
  let margin : Int := lgDryMargin img
  let warm := decide (bcAmbTmin bc ≤ tAmb)
  match mode with
  | 1 => (decide ((bcDtOn bc : Int) ≤ d) && decide (bcTTarget bc < tBin) && decide (me ≤ mBin + rewet) && warm,
          decide (d < bcDtOff bc) || decide (mBin + rewet < me) || !warm || (coolF == 1000 && decide (tBin ≤ bcTTarget bc)))
  | 2 => (decide (me ≤ mBin - margin) && warm && decide ((mt : Int) < mBin),
          decide (mBin - rnd margin 1 < me) || !warm || decide (mBin ≤ mt))
  | 3 => (decide ((bcDtOn bc : Int) ≤ d) && decide ((me - mt).natAbs ≤ lgRewet img) && warm,
          decide (d < bcDtOff bc) || decide (lgRewet img < (me - mt).natAbs) || !warm)
  | _ => (false, true)

/-- The aeration decision of a step (R199, R200): new on, steps since the change. -/
def aerDecide (bc img : Bytes) (stale : Bool) (mt : Nat) (d tBin mBin tAmb me : Int) (coolF : Nat) (x : BinSt) : Bool × Nat :=
  let w := aerWish bc img x.mode mt d tBin mBin tAmb me coolF
  let held := x.since + 1
  if stale ∨ x.mode = 0 then (false, if x.on then 0 else held)
  else if x.on then (if w.2 && decide (bcMinOn bc ≤ held) then (false, 0) else (true, held))
  else (if w.1 && decide (bcMinOff bc ≤ held) then (true, 0) else (false, held))

/-- Storage work of one BIN map after its step (R192 step 3). `stale`: an ambient source was stale; `fOn` as R202. -/
def binWork (f : FrameIn) (stale : Bool) (fOn : Nat) (m : GMap) (x : BinSt) : BinSt × GMap × Evs :=
  match f.d.binOf x.map, f.d.geomOf x.map, f.d.mapRec x.map with
  | some bc, some g, some mr =>
    let h := m.shape
    let img := legImg f.imgs (mapLegend mr)
    let ss := f.d.run tySensor (geBase g) (geCount g)
    let hots := (List.range ss.length).map fun i => hotOne h g img ss x.sensors x.map i
    let ccs := (List.range ss.length).map fun i => cannotOne bc img ss (hots.map Prod.fst) x.map i
    let sens := ccs.map Prod.fst
    let cells := (List.range ss.length).foldl (fun cs i =>
      let k := sensorCell h (ss.getD i [])
      let hot := (List.range ss.length).any fun j => sensorCell h (ss.getD j []) == k && (sens.getD j newSens).hot
      modifyAt (fun c => if c.occ then c.setFlag cfHotSpot hot else c) k cs) m.cells
    let occ := cells.filter Cell.occ
    let tAmb := (lookupKey (mapAmbT mr) m.held).getD 0
    let rhAmb := (lookupKey (mapAmbRh mr) m.held).getD 0
    let me := meAmb img tAmb rhAmb
    let tBin := divr (wsum occ Cell.t) (dryOf occ)
    let mBin := divr (wsum occ fun c => c.m) (dryOf occ)
    let mt := dflt (bcMTarget bc) (lgTarget img)
    let tAir := if fOn = 0 then x.tAir else some tAmb
    let coolF := match tAir with | none => 0 | some t => frontPermille h cells fun c => decide (c.t ≤ t + lgFrontDt img)
    let dryF := match tAir with | none => 0 | some _ => frontPermille h cells fun c => decide (c.m ≤ mt + lgFrontDm img)
    let b := binBudget f.imgs cells
    let days := match b with | some y => y.1 | none => 0xFFFFFFFF
    let worst := match b with | some y => y.2 | none => 0
    let wc := cells.getD worst emptyCell
    let dec := aerDecide bc img stale mt (tBin - tAmb) tBin mBin tAmb me coolF x
    let x1 := { x with sensors := sens, on := dec.1, since := dec.2, coolF := coolF, dryF := dryF, tAir := tAir, budget := days,
                       worst := worst, lowConf := b.isSome && decide (wc.conf ≤ 1), warn := decide (days < lgBudgetWarn img * 256),
                       spent := decide (days = 0), ambStale := stale, decided := true, fOn := 0 }
    let alarm := b2n (sens.any SensSt.hot) + 2 * b2n (sens.any SensSt.cannot) + 4 * b2n (sens.any SensSt.lost) +
      8 * b2n x1.warn + 16 * b2n x1.spent + 32 * b2n stale
    ({ x1 with alarm := alarm }, { m with cells := cells }, (hots.map Prod.snd).flatten ++ (ccs.map Prod.snd).flatten)
  | _, _, _ => (x, m, [])

/-- Either ambient source of a map was stale in its last step (R199). -/
def ambStaleOf (m : GMap) (mr : Bytes) : Bool := (meanInput m (mapAmbT mr)).2 || (meanInput m (mapAmbRh mr)).2

/-- Value of a storage decision output (Table 6-1, R201); none for a kind the layer does not set, or before its first step
under the Datum (13 R543). -/
def stoOut (d : Datum) (n : Nat) (p : Plant) (o : Bytes) : Option Int :=
  match (d.recs tyBinCtl)[outOwner o]? with
  | none => none
  | some bc =>
    match p.bins.find? fun x => x.map == bcMap bc with
    | none => none
    | some x =>
      if outKind o = 0x0502 then (if x.decided then some x.alarm else none)
      else if outKind o = 0x0501 then
        let fo := bcFanOut bc (outSub o)
        some (if binOn n x then (if bit fo 7 then bcFanRef bc else 1) else 0)
      else none

/-! Reseeding (R209). -/

/-- A BIN map reseeded from its storage record at the step whose ambient temperature is `ambT`. -/
def reseed (imgs : List Bytes) (ambT : Int) (sr : Option StoreRec) (m : GMap) : GMap :=
  match sr with
  | none => { m with invalid := false }
  | some s =>
    let h := m.shape
    let f : Fill := { m := s.m, var := 0, t := storeS16 ambT, lot := s.lot, legend := s.legend, est := true, sat := outS16 ambT }
    let c := fillCell h (kinOf (legImg imgs s.legend)).dens f
    let c := { (c.setFlag cfRepaired true) with dml := s.dml }
    let k := min s.rows h.rows
    { m with invalid := false,
             cells := (List.replicate (h.rows - k) (emptyRow h)).flatten ++ (List.replicate k (List.replicate h.width c)).flatten }

/-- The storage record of a BIN map (R208). -/
def storeRecOf (mr : Bytes) (n : Nat) (m : GMap) : StoreRec :=
  let occ := m.cells.filter Cell.occ
  let h := m.shape
  { map := h.num, rows := m.occRows, m := storeU16 (divr (wsum occ fun c => c.m) (dryOf occ)), dml := maxN (occ.map Cell.dml),
    legend := mapLegend mr, lot := (m.cells.getD ((h.rows - 1) * h.width) emptyCell).lot, frame := n }

end Sys2Proof.Machine
end

