-- ==== Sys2Proof/Machine/Lanes.lean ====
section
/-!
DEFINITION. Prediction runs on the Survey engine's four lanes and the binding of their results (04 R140, R147, R148; 19 R502).
-/
namespace Sys2Proof.Machine

/-- A run: map, start frame, candidate, member. -/
abbrev LaneRun := Nat × Nat × Nat × Nat

/-- Every run that has not ended, in the order of R147. A map's later prediction waits for its first one (R148). -/
def runsWaiting (p : Plant) : List LaneRun :=
  let heads := p.maps.filterMap fun m => m.jobs.head?.map fun j => (j.bound, m.shape.num, j)
  (sortBy (fun (a b : Nat × Nat × PredJob) => decide (a.1 < b.1) || (a.1 == b.1 && decide (a.2.1 < b.2.1))) heads).flatMap fun h =>
    h.2.2.todo.map fun r => (h.2.1, h.2.2.start, r.1, r.2)

/-- Lanes that take runs now: all, two under throttle, none in a shutdown of LOGIC (19 Table 19-9). -/
def lanesOpen (s : State) : List Nat := if s.pwr.shutdown then [] else if s.pwr.throttle then [0, 1] else [0, 1, 2, 3]

/-- One free lane takes the next run that no lane has. -/
def fillLane (s : State) (k : Nat) : State :=
  if ((s.svy.lanes[k]?).join).isSome then s
  else { s with svy := { s.svy with lanes := setAt k ((runsWaiting s.plant).find? fun r => !s.svy.lanes.contains (some r)) s.svy.lanes } }

def fillLanes (s : State) : State := (lanesOpen s).foldl fillLane s

/-- A run of the first job ends. -/
def jobRan (cand member : Nat) (j : PredJob) : PredJob :=
  { j with todo := j.todo.erase (cand, member), done := j.done ++ [predRun j cand member] }

/-- A job with all its runs done leaves its result, which binds its frame. -/
def bindResult (m : GMap) : GMap :=
  match m.jobs with
  | [] => m
  | j :: rest => if j.todo = [] then { m with results := m.results ++ [predResultOf j], jobs := rest } else m

def mapRan (start cand member : Nat) (m : GMap) : GMap :=
  match m.jobs with
  | [] => m
  | j :: rest =>
    if j.start = start ∧ j.todo.contains (cand, member) then bindResult { m with jobs := jobRan cand member j :: rest } else m

/-- The run in flight on a lane ends; a run whose prediction has been discarded only frees its lane. -/
def runEnd (lane : Nat) (s : State) : State :=
  if s.pwr.shutdown then s
  else match (s.svy.lanes[lane]?).join with
    | none => s
    | some (map, start, cand, member) =>
      fillLanes { s with
        svy := { s.svy with lanes := setAt lane none s.svy.lanes }
        plant := { s.plant with maps := s.plant.maps.map fun m => if m.shape.num = map then mapRan start cand member m else m } }

/-- All runs of a job. -/
def jobAll (j : PredJob) : PredJob := j.todo.foldl (fun a r => jobRan r.1 r.2 a) j

/-- The predictions that bind frame n or earlier run to their end: a replay waits for them (02 R75). -/
def finishBound (n : Nat) (m : GMap) : GMap :=
  { m with results := m.results ++ (m.jobs.filter fun j => decide (j.bound ≤ n)).map fun j => predResultOf (jobAll j)
           jobs := m.jobs.filter fun j => decide (n < j.bound) }

/-- No frame up to n waits for a result (R58, R148). -/
def predReady (n : Nat) (p : Plant) : Bool := p.maps.all fun m => m.jobs.all fun j => decide (n < j.bound)

/-- Results that no later frame uses are dropped. -/
def dropOld (b : Option PredResult) (m : GMap) : GMap :=
  match b with
  | some r => { m with results := m.results.filter fun q => decide (r.bound ≤ q.bound) }
  | none => m

/-- Plenum temperature of each zone for a prediction: the set-point in force of a heat zone (R141, 05 R163). -/
def plenumSet (d : Datum) (p : Plant) (num : Nat) (zones : List Bytes) : List (Option Int) :=
  (List.range zones.length).map fun i =>
    match ((d.recs tyHeat).zip p.zones).find? fun q => hzMap q.1 == num && hzZone q.1 == i with
    | some q => some q.2.spe
    | none => none

/-- A prediction that starts with frame n of a map (R140, R141). -/
def startPred (imgs : List Bytes) (d : Datum) (n : Nat) (p : Plant) (m : GMap) : GMap :=
  match d.predOf m.shape.num, d.mapRec m.shape.num with
  | some pr, some mr =>
    if isDryerKind m.shape.kind ∧ (n + 1) % prPeriod pr = 0 then
      let r := mapRecsOf d mr
      let q := match p.dryers.find? fun x => x.map == m.shape.num with | some x => x.dis.q | none => 0
      let j := predStart imgs r pr n q (plenumSet d p m.shape.num r.zones) (p.bias.map BiasSt.b) m
      { m with jobs := m.jobs ++ [j] }
    else m
  | _, _ => m

def startPreds (imgs : List Bytes) (d : Datum) (n : Nat) (p : Plant) : Plant := { p with maps := p.maps.map (startPred imgs d n p) }

end Sys2Proof.Machine
end

