-- ==== Sys2Proof/Machine/TimeCmds.lean ====
section
/-!
DEFINITION. The Time block's commands and the capture buffer (02 R44, R61-R63, R70-R77).
-/
namespace Sys2Proof.Machine

/-! The capture buffer (R72, R73). -/

/-- The buffer's size: CAPTURE_MB megabytes (01 R33). -/
def captureSize (s : State) : Nat := datCaptureMb s.datum * 2 ^ 20

/-- END record: reason, last captured frame. -/
def capEndRec (reason last : Nat) : Bytes := leBytes 1 7 ++ zeros 1 ++ leBytes 2 reason ++ zeros 4 ++ leBytes 8 last ++ zeros 16

/-- The capture ends (R72). -/
def captureEnd (reason : Nat) (s : State) : State :=
  if s.cap.active then
    { s with cap := { s.cap with active := false, odd := [], buf := s.cap.buf ++ capEndRec reason s.cap.last } }
  else s

/-- A record enters the buffer, which keeps room for END; a full buffer stops the capture. -/
def capPut (r : Bytes) (s : State) : State :=
  if s.cap.active = false then s
  else if captureSize s < s.cap.buf.length + r.length + 32 then captureEnd 2 s
  else { s with cap := { s.cap with buf := s.cap.buf ++ r } }

def capPuts (l : List Bytes) (s : State) : State := l.foldl (fun a r => capPut r a) s

/-- CONT records of a byte string. -/
def contRecs (b : Bytes) : List Bytes := (chunks 24 ((b.length + 23) / 24) b).map fun c => leBytes 1 2 ++ zeros 7 ++ padTo 24 c

/-- The content of the two CONT records after HEADER. -/
def headerCont (build : Nat) (hash : Bytes) (snap : Nat) : Bytes := leBytes 8 build ++ padTo 32 hash ++ leBytes 4 snap ++ zeros 4

/-- The capture starts at the start of the decisions of E: snapshot, HEADER and its CONT records (R72). -/
def captureBegin (e : Nat) (s : State) : State :=
  let snap := snapshot s.plant s.frm.inForce
  let hdr := leBytes 1 1 ++ zeros 1 ++ leBytes 2 1 ++ zeros 2 ++ leBytes 2 2 ++ leBytes 8 e ++ zeros 16
  capPuts (hdr :: contRecs (headerCont s.boot.build (configHash s) snap.length))
    { s with cap := { active := true, present := true, first := e, last := 0, prev := none, snapLen := snap.length, buf := snap, odd := [] } }

/-! Eras (R62, R63). -/

/-- The 32 bytes of an era record (Table 2-3). -/
def eraBytes (e : Era) : Bytes :=
  leBytes 2 e.num ++ leBytes 2 e.reason ++ leBytes 4 e.gazSeq ++ leBytes 8 e.start ++ leBytes 8 (ofS 64 e.oldOff) ++ leBytes 8 (ofS 64 e.newOff)

/-- The slot of an era record (16 Table 16-2; the address of slot 0 by notes/assumptions/17.md). -/
def eraAddr (n : Nat) : Nat := 0x7C4000 + 64 * (n % 64)

/-- The device opens an era, commits its record and writes the benchmarks; false when the record does not verify. -/
def openEra (reason : Nat) (off : Int) (s : State) : State × Bool :=
  let e : Era := { num := (s.time.era + 1) % 65536, reason, gazSeq := s.gaz.next, start := s.now, oldOff := s.time.offset, newOff := off }
  let q := writeRange (eraAddr e.num) 64 s
  if q.2 then
    (benchA 2 (benchB 2 { q.1 with time := { q.1.time with era := e.num, offset := off, eras := (e :: q.1.time.eras).take 64 } }), true)
  else q

/-! The commands. -/

def specReadTime : Spec := specQuery 0x0201
def readTime (c : Cmd) (s : State) : Next := let _ := c; okResult (ofS 64 ((s.now : Int) + s.time.offset)) s

def specSetSlew : Spec := specPlain 0x0202
def slewOk (p : Int) : Bool := decide (-200000 ≤ p) && decide (p ≤ 200000)
def setSlew (c : Cmd) (s : State) : Next :=
  let p := s32 c.d.params 0
  if slewOk p then okResult (incOf p) { s with time := { s.time with slew := p } } else refuse 0x0201 s

def specSetClock : Spec := specCrit 0x0203
def setClock (c : Cmd) (s : State) : Next :=
  let mref := p64 c.d 0
  let off := s64 c.d.params 8 - mref
  if s.now < mref then refuse 0x0204 s
  else
    let done (s : State) : Next := okResult s.time.era (baseMaint { s with time := { s.time with wallValid := true } })
    if off = s.time.offset then done s
    else
      let n := (s.time.era + 1) % 65536
      match openEra 1 off (ledTarget c.led (0xA300 + n % 64) 0 s) with
      | (s1, true) => done s1
      | (s1, false) => refuse stNvsWrite s1

def specReadEra : Spec := specQuery 0x0204
def readEra (c : Cmd) (s : State) : Next :=
  match s.time.eras.find? fun e => e.num == p16 c.d 0 with
  | some e => answer c (eraBytes e) 0 s
  | none => refuse 0x0205 s

def specCaptureStart : Spec := specTied 0x0205 false
def specCaptureStop : Spec := specTied 0x0206 false

def specCaptureRead : Spec := specPlain 0x0207
def captureRead (c : Cmd) (s : State) : Next :=
  if s.cap.present then
    let b := (s.cap.buf.drop (p64 c.d 0)).take c.d.plen
    okResult b.length (putData c.d b s)
  else refuse 0x0207 s

def specReadDigest : Spec := specQuery 0x020A
def readDigest (c : Cmd) (s : State) : Next :=
  match s.frm.digests.find? fun x => x.frame == p64 c.d 0 with
  | some x => answer c (x.d ++ x.h) 0 s
  | none => refuse 0x020D s

/-! REPLAY (R74, R76). -/

def specEnterReplay : Spec := { specCrit 0x0208 with need := 1 }
/-- Entry (R74); the snapshot's outputs are the ones in force before its first frame. A payload that spells no snapshot leaves the live
plant and its outputs: R74 says nothing of it (notes/assumptions/32.md). -/
def enterReplay (c : Cmd) (s : State) : Next :=
  let s1 := setLine 6 s
  let p := (snapshotOf c.d.data).getD (s1.plant, s1.frm.inForce)
  .done { s1 with plant := p.1, svy := { s1.svy with lanes := svyReset.lanes }
                  rpl := { replayReset with active := true, saved := some s1.plant, inForce := p.2 } } stOk c.d.data.length 0

/-- LEAVE_REPLAY (R76); a replay that ended early gives its status, and in PROGRESS the ring index (R75). -/
def specLeaveReplay : Spec := { specPlain 0x0209 with query := true }
def leaveReplay (c : Cmd) (s : State) : Next :=
  let _ := c
  if s.rpl.active then
    let r := s.rpl
    let f := { s.frm with next := s.n0 s.now, chain := configHash s, prev := none, collector := [], decided := none, missed := none }
    let s1 := fillLanes { s with plant := r.saved.getD s.plant, rpl := replayReset, frm := f, svy := { s.svy with lanes := svyReset.lanes } }
    .done s1 r.ended r.index (r.frames % 2 ^ 32 + r.mismatches % 2 ^ 32 * 2 ^ 32)
  else refuse 0x0209 s

/-! Meanings of the rows. -/

def execReadTime (t : Nat) (d : Desc) (s : State) := run t (command specReadTime readTime d) s
def execSetSlew (t : Nat) (d : Desc) (s : State) := run t (command specSetSlew setSlew d) s
def execSetClock (t : Nat) (d : Desc) (s : State) := run t (command specSetClock setClock d) s
def execReadEra (t : Nat) (d : Desc) (s : State) := run t (command specReadEra readEra d) s
def execCaptureStart (t : Nat) (d : Desc) (s : State) := run t (command specCaptureStart (fun c s => waitFrame c s) d) s
def execCaptureStop (t : Nat) (d : Desc) (s : State) := run t (command specCaptureStop (fun c s => waitFrame c s) d) s
def execCaptureRead (t : Nat) (d : Desc) (s : State) := run t (command specCaptureRead captureRead d) s
def execEnterReplay (t : Nat) (d : Desc) (s : State) := run t (command specEnterReplay enterReplay d) s
def execLeaveReplay (t : Nat) (d : Desc) (s : State) := run t (command specLeaveReplay leaveReplay d) s
def execReadDigest (t : Nat) (d : Desc) (s : State) := run t (command specReadDigest readDigest d) s

end Sys2Proof.Machine
end

