-- ==== Sys2Proof/Machine/MapCmds.lean ====
section
/-!
DEFINITION. Maps block: status, the Legend store, priming, fusion and transfer commands, and the maps that a Datum gives the
plant (03 R86, R107, R114-R119; 04 R125, R126, R132, R134, R140, R150-R153). A command's effect in the decisions of its frame
stands beside it; the frame's decisions call it.
-/
namespace Sys2Proof.Machine

/-- The effect of a frame-tied command in the decisions of frame `n`. -/
abbrev Effect := Nat → Cmd → State → Next

/-- A frame-tied command that a check of the command and the Datum refuses, or that waits for its frame. -/
def tieIf (chk : Cmd → State → Option Nat) (c : Cmd) (s : State) : Next :=
  match chk c s with | some st => refuse st s | none => waitFrame c s

/-- An effect, after the same check under the Datum that governs its frame. -/
def effIf (chk : Cmd → State → Option Nat) (f : Effect) (n : Nat) (c : Cmd) (s : State) : Next :=
  match chk c s with | some st => refuse st s | none => f n c s

/-- Completion of a frame-tied command with E (02 R57). -/
def doneE (c : Cmd) (s : State) : Next := okResult c.eff s

/-! Status codes (Tables 3-17, 4-17). -/
def stMapUndefined : Nat := 0x0301
def stLegendFormat : Nat := 0x0302
def stLegendRange : Nat := 0x0303
def stLegendSlot : Nat := 0x0304
def stLegendInUse : Nat := 0x0305
def stLegendEmpty : Nat := 0x0306
def stLegendWrite : Nat := 0x0307
def stPredNone : Nat := 0x0326
def stInletLegend : Nat := 0x0327
def stSaveFormat : Nat := 0x0328
def stSaveLength : Nat := 0x0329
def stMapBusy : Nat := 0x032A
def stExportRange : Nat := 0x032C
def stInletMap : Nat := 0x032D

/-! The Legend store (R114-R117). -/

/-- The area whose commit word is in force for a slot: of two that claim it the later generation (R115). -/
def legArea (legs : List (Option LegArea)) (slot : Nat) : Option (Nat × LegArea) :=
  legs.zipIdx.foldl (fun (b : Option (Nat × LegArea)) p =>
    match p.1 with
    | none => b
    | some a =>
      if a.slot ≠ slot then b
      else match b with
        | none => some (p.2, a)
        | some q => if later 16 a.gen q.2.gen then some (p.2, a) else b) none

/-- The committed image of a slot; empty for an empty slot. -/
def legImage (s : State) (slot : Nat) : Bytes := match legArea s.store.legs slot with | some p => p.2.img | none => []
/-- The committed images of slots 0 to 14. -/
def legImages (s : State) : List Bytes := (List.range 15).map (legImage s)
/-- The images that govern steps and decisions (R116). -/
def State.imgs (s : State) : List Bytes := s.store.legGov

def areaAddr (k : Nat) : Nat := 0x580000 + 8192 * k
/-- Length of a Legend image (Table 3-9). -/
def legLength (img : Bytes) : Nat := u16 img 6

/-- R114's first sentence. -/
def legFormatBad (img : Bytes) : Bool :=
  let n := legLength img
  u32 img 0 != 0x444E474C || u16 img 4 != 1 || decide (n < 0xC0) || decide (8184 < n) || n % 8 != 0 || decide (img.length < n) ||
    crc32 ((img.take n).drop 0x40) != u32 img 0x20

/-- R114's kinetics rules and R125: a block beyond LENGTH reads as zero (Table 3-10). -/
def legRangeBad (img : Bytes) : Bool :=
  let lg := img.take (legLength img)
  let k := kinOf lg
  (k.iso != 1 && k.iso != 2) || k.inv == 0 || k.cg == 0 || k.lf == 0 || k.dens == 0 || decide (0x10000 ≤ k.kh) ||
    lgPairMin lg == 0 || lgGate lg == 0

/-- The inlet-state Legend slot of a map. -/
def inletSlot (p : Plant) (map : Nat) : Nat :=
  match p.maps.find? fun m => m.shape.num == map with | some m => m.inlet.legend | none => 0

/-- Core M's copies of the linearisation in force for every channel (08 R258). -/
def linRefresh (s : State) : State :=
  { s with senLog := { s.senLog with linOut := linCopies s.datum (legImage s) (inletSlot s.plant) } }

/-- What a configuration load does at the start of the decisions of its E: the capture ends and the chain starts from the
configuration hash (02 R70, R72). -/
def chainRestart (s : State) : State :=
  let s1 := captureEnd 3 s
  { s1 with frm := { s1.frm with chain := configHash s1, prev := none } }

/-- Bias state of a slot at a Legend load and at BIAS_RESET (04 R125, R134). -/
def biasStart (img : Bytes) (e : Nat) : BiasSt := { b := 0, p := lgBiasP0 img, last := e, pairs := 0, gated := 0 }

/-- A Legend load or erase comes into force at the start of the decisions of its E (R116, R117, 04 R125). -/
def legendGovern (w : LegWait) (s : State) : State :=
  let s1 := { s with store := { s.store with legGov := setAt w.slot w.img s.store.legGov } }
  chainRestart (if w.load then { s1 with plant := { s1.plant with bias := setAt w.slot (biasStart w.img w.eff) s1.plant.bias } } else s1)

/-- The frame E of a configuration that waits, and what it names. -/
def waitEff (w : CfgWait) : Nat := match w with | .datum e _ => e | .legend l => l.eff
def waitDatum (w : CfgWait) : Option Datum := match w with | .datum _ d => some d | .legend _ => none
def waitLoads (slot : Nat) (w : CfgWait) : Bool := match w with | .legend l => l.slot == slot && l.load | .datum _ _ => false

/-! MAP_STATUS (Table 3-16, R119). -/

def State.map (s : State) (n : Nat) : Option GMap := s.plant.maps.find? fun m => m.shape.num == n
def State.setMap (s : State) (m : GMap) : State :=
  { s with plant := { s.plant with maps := s.plant.maps.map fun q => if q.shape.num = m.shape.num then m else q } }

/-- The resident slot of a map (R109). -/
def residentSlot (p : Plant) (n : Nat) : Nat :=
  match (List.range 4).find? fun k => (slotMap p k).any fun m => m.shape.num == n with | some k => k | none => 0x3F

def mapStatusWord (p : Plant) (m : GMap) : Nat :=
  2 ^ 32 * m.steps + 2 ^ 22 * m.occRows + 65536 * residentSlot p m.shape.num + 256 * m.shape.kind + 64 * b2n m.repaired +
    32 * b2n m.aborted + 16 * b2n m.clipped + 8 * b2n m.stale + 4 * b2n (m.noInlet || m.shape.kind == kBin) +
    2 * b2n (isDryerKind m.shape.kind) + 1

def specMapStatus : Spec := specQuery 0x0301
def mapStatus (c : Cmd) (s : State) : Next :=
  match s.map (p8 c.d 0) with
  | some m => okResult (mapStatusWord s.plant m) (s.setMap { m with repaired := false, aborted := false, clipped := false })
  | none => refuse stMapUndefined s

/-! LOAD_LEGEND, READ_LEGEND, ERASE_LEGEND. -/

def specLoadLegend : Spec := { specCrit 0x0302 with frame := 2, long := true }
def loadLegend (c : Cmd) (s : State) : Next :=
  if 14 < p8 c.d 0 then refuse stLegendSlot s
  else if legFormatBad c.d.data then refuse stLegendFormat s
  else if legRangeBad c.d.data then refuse stLegendRange s
  else .wait s c

/-- The free area that a load writes (R115). -/
def spareArea (s : State) : Option Nat := (List.range 16).find? fun k => (s.store.legs.getD k none).isNone

/-- Clear the commit word of an area; it stays where the write does not verify. -/
def clearArea (k : Nat) (s : State) : State × Bool :=
  let q := writeRange (areaAddr k + 0x1FF8) 8 s
  if q.2 then ({ q.1 with store := { q.1.store with legs := setAt k none q.1.store.legs } }, true) else q

/-- The commit-word write of LOAD_LEGEND (R115, R116). -/
def commitLegend (c : Cmd) (s : State) : Next :=
  let slot := p8 c.d 0
  let img := c.d.data.take (legLength c.d.data)
  let old := legArea s.store.legs slot
  let gen := ((match old with | some p => p.2.gen | none => 0) + 1) % 65536
  match effFrame s c.d s.now, spareArea s with
  | (_, some st), _ => refuse st s
  | (_, none), none => refuse stLegendWrite s
  | (e, none), some k =>
    let q := writeRange (areaAddr k) img.length (ledStart c.led (0x5000 + slot) gen img.length s)
    let q := if q.2 then writeRange (areaAddr k + 0x1FF8) 8 q.1 else q
    if q.2 = false then refuse stLegendWrite q.1
    else
      let s1 := { q.1 with store := { q.1.store with legs := setAt k (some { slot, gen, img }) q.1.store.legs
                                                     waits := q.1.store.waits ++ [.legend { slot, eff := e, img, load := true }] } }
      let s2 := match old with | some p => (clearArea p.1 s1).1 | none => s1
      .done (linRefresh (legendTonnage slot (u16 img 8) (u16 img 10) s2)) stOk img.length (gen + 2 ^ 32 * e)

def specReadLegend : Spec := specQuery 0x0303
def readLegend (c : Cmd) (s : State) : Next :=
  if 14 < p8 c.d 0 then refuse stLegendSlot s
  else
    let img := legImage s (p8 c.d 0)
    if img = [] then refuse stLegendEmpty s else answer c img img.length s

/-- The slot is named (R117). -/
def legendInUse (slot : Nat) (s : State) : Bool :=
  let ds := (match s.store.datum with | some d => [d] | none => []) ++ s.store.waits.filterMap waitDatum
  ds.any (fun d => (d.recs tyMap).any (fun r => mapLegend r == slot) ||
    (d.recs tyChan).any (fun r => chLinSrc r == 2 && chLinRef r == slot)) ||
  s.plant.maps.any (fun m => (isDryerKind m.shape.kind && m.inlet.legend == slot) || m.cells.any (fun x => x.occ && x.legend == slot) ||
    m.queue.any (fun o => o.legend == slot)) ||
  s.store.waits.any (waitLoads slot)

def specEraseLegend : Spec := { specCrit 0x0304 with frame := 2 }
def eraseLegend (c : Cmd) (s : State) : Next :=
  let slot := p8 c.d 0
  if 14 < slot then refuse stLegendSlot s
  else match legArea s.store.legs slot with
    | none => refuse stLegendEmpty s
    | some p =>
      if legendInUse slot s then refuse stLegendInUse s
      else match effFrame s c.d s.now with
        | (_, some st) => refuse st s
        | (e, none) =>
          let q := clearArea p.1 (ledTarget c.led (0x5000 + slot) p.2.gen s)
          if q.2 then
            okResult (2 ^ 32 * e) { q.1 with store := { q.1.store with waits := q.1.store.waits ++ [.legend { slot, eff := e, img := [], load := false }] } }
          else refuse stLegendWrite q.1

/-! MAP_PRIME (R107). -/

def mapChk (c : Cmd) (s : State) : Option Nat := if (s.map (p8 c.d 0)).isSome then none else some stMapUndefined
/-- The records of a map under the Datum in force. -/
def State.mapRecs (s : State) (n : Nat) : Option MapRecs := (s.datum.mapRec n).map (mapRecsOf s.datum)

def specMapPrime : Spec := specTied 0x0305 false
def mapPrimeEff : Effect := fun _ c s =>
  match s.map (p8 c.d 0), s.mapRecs (p8 c.d 0) with
  | some m, some r => doneE c (s.setMap (mapPrimeCells s.imgs r m))
  | _, _ => refuse stMapUndefined s

/-! PRED_READ, PAIR_READ (Tables 4-9, 4-16). -/

def specPredRead : Spec := specQuery 0x0320
def predRead (c : Cmd) (s : State) : Next :=
  match s.map (p8 c.d 0) with
  | none => refuse stMapUndefined s
  | some m =>
    match if s.frm.next = 0 then none else boundAt m (s.frm.next - 1) with
    | none => refuse stPredNone s
    | some r => answer c (predBytes r) (predBytes r).length s

def pairBytes (p : PairEntry) : Bytes :=
  leBytes 8 p.frame ++ leBytes 4 p.age ++ leBytes 2 p.recM ++ leBytes 2 p.mean ++ leBytes 4 (ofS 32 p.y) ++
  leBytes 4 (ofS 32 p.bias) ++ leBytes 2 p.cnt ++ leBytes 1 p.map ++ leBytes 1 p.legend ++ leBytes 2 p.seq ++ leBytes 2 p.flags

def specPairRead : Spec := specQuery 0x0324
def pairRead (c : Cmd) (s : State) : Next :=
  match s.map (p8 c.d 0) with
  | none => refuse stMapUndefined s
  | some m =>
    let l := m.pairLog.reverse.take (p16 c.d 2)
    answer c (l.map pairBytes).flatten l.length s

/-! Bias commands. -/

/-- A BIAS_READ entry; zeros for an empty slot. -/
def biasBytes (s : State) (g : Nat) : Bytes :=
  if legImage s g = [] then zeros 16
  else
    let b := biasAt s.plant.bias g
    leBytes 4 (ofS 32 b.b) ++ leBytes 4 b.p ++ leBytes 4 b.last ++ leBytes 2 b.pairs ++ leBytes 2 b.gated

def specBiasRead : Spec := specQuery 0x0321
def biasRead (c : Cmd) (s : State) : Next :=
  let g := p8 c.d 0
  if g = 0xFF then answer c ((List.range 15).map (biasBytes s)).flatten 15 s
  else if 14 < g then refuse stLegendSlot s
  else if legImage s g = [] then refuse stLegendEmpty s
  else answer c (biasBytes s g) 1 s

def biasChk (c : Cmd) (s : State) : Option Nat :=
  if 14 < p8 c.d 0 then some stLegendSlot else if legImage s (p8 c.d 0) = [] then some stLegendEmpty else none

def specBiasReset : Spec := specTied 0x0322 false
def biasResetEff : Effect := fun _ c s =>
  let g := p8 c.d 0
  doneE c { s with plant := { s.plant with bias := setAt g (biasStart (legImg s.imgs g) c.eff) s.plant.bias } }

/-! SET_INLET (04 R126). -/

def inletChk (c : Cmd) (s : State) : Option Nat :=
  match s.map (p8 c.d 8) with
  | none => some stMapUndefined
  | some m =>
    if isDryerKind m.shape.kind = false then some stInletMap
    else if p8 c.d 4 = 0xFF then none
    else if 14 < p8 c.d 4 then some stLegendSlot
    else if legImage s (p8 c.d 4) = [] then some stInletLegend
    else none

/-- The inlet state after SET_INLET. -/
def inletSet (imgs : List Bytes) (d : Desc) (i : Inlet) : Inlet :=
  let i1 := { i with lot := p32 d 0, legend := if p8 d 4 = 0xFF then i.legend else p8 d 4 }
  if bit (p8 d 5) 0 then
    { i1 with est := p16 d 6 * 256, pIn := lgInVarEst (legImg imgs i1.legend), valid := decide (p16 d 6 ≠ 0) }
  else i1

def specSetInlet : Spec := specTied 0x0323 false
def setInletEff : Effect := fun _ c s =>
  match s.map (p8 c.d 8) with
  | none => refuse stMapUndefined s
  | some m =>
    let s1 := s.setMap { m with inlet := inletSet s.imgs c.d m.inlet }
    doneE c (if inletSlot s1.plant m.shape.num = m.inlet.legend then s1 else linRefresh s1)

/-! MAP_EXPORT, MAP_SAVE, MAP_RESTORE (04 R150-R152). -/

def exportChk (c : Cmd) (s : State) : Option Nat :=
  match s.map (p8 c.d 0) with
  | none => some stMapUndefined
  | some m => if p16 c.d 4 = 0 ∨ m.shape.rows < p16 c.d 2 + p16 c.d 4 then some stExportRange else none

/-- Data of a MAP_EXPORT or MAP_SAVE goes out, or the payload is too short (R150). -/
def sendImage (c : Cmd) (b : Bytes) (s : State) : Next :=
  if fits c.d b then .done (putData c.d b s) stOk 0 b.length else refuse stSaveLength s

/-- The cells of rows first .. first + n - 1. -/
def rowCells (m : GMap) (first n : Nat) : Bytes :=
  (((m.cells.drop (first * m.shape.width)).take (n * m.shape.width)).map cellBytes).flatten

def specMapExport : Spec := specTied 0x0325 false
def mapExportEff : Effect := fun _ c s =>
  match s.map (p8 c.d 0) with
  | none => refuse stMapUndefined s
  | some m => sendImage c (rowCells m (p16 c.d 2) (p16 c.d 4)) s

/-- BODY_CRC of a slot's Legend in force; none for an empty slot. -/
def bodyCrc (imgs : List Bytes) (g : Nat) : Option Nat := if legImg imgs g = [] then none else some (u32 (legImg imgs g) 0x20)

/-- A bias entry of a save image (R151). -/
def saveBias (s : State) (g : Nat) : Bytes :=
  match bodyCrc s.imgs g with
  | none => zeros 32
  | some crc =>
    let b := biasAt s.plant.bias g
    leBytes 4 (ofS 32 b.b) ++ leBytes 4 b.p ++ leBytes 4 b.last ++ leBytes 2 b.pairs ++ leBytes 2 b.gated ++ leBytes 4 crc ++ zeros 12

/-- A map's block (R151). -/
def saveBlock (m : GMap) : SaveBlock :=
  { num := m.shape.num, kind := m.shape.kind, rows := m.shape.rows, slices := m.shape.slices, sections := m.shape.sections
    adv := m.adv, rot := m.rot, fill := m.fill, outSeq := m.outSeq, inlet := m.inlet, history := m.history, queue := m.queue
    openPair := m.openPair, cells := m.cells }

/-- The save image of frame E (R151). -/
def saveImage (e : Nat) (s : State) : Bytes :=
  let body := mapBlocks (s.plant.maps.map saveBlock) ++ ((List.range 15).map (saveBias s)).flatten
  leBytes 4 0x5641534D ++ leBytes 2 1 ++ zeros 2 ++ leBytes 4 (64 + body.length) ++ leBytes 8 s.boot.build ++ leBytes 8 e ++
  leBytes 2 s.plant.maps.length ++ zeros 30 ++ leBytes 4 (crc32 body) ++ body

def specMapSave : Spec := specTied 0x0326 false
def mapSaveEff : Effect := fun _ c s => sendImage c (saveImage c.eff s) s

/-- SAVE_FORMAT (R152). -/
def saveBad (img : Bytes) : Bool :=
  let n := u32 img 8
  u32 img 0 != 0x5641534D || u16 img 4 != 1 || decide (n < 64 + 480) || decide (img.length < n) ||
    crc32 ((img.take n).drop 64) != u32 img 60

def specMapRestore : Spec := { specTied 0x0327 false with long := true }
def restoreChk (c : Cmd) (_ : State) : Option Nat := if saveBad c.d.data then some stSaveFormat else none

/-- A map with the fields that a save block gives it. -/
def restoreMap (m : GMap) (b : SaveBlock) : GMap :=
  { m with adv := b.adv, rot := b.rot, fill := b.fill, outSeq := b.outSeq, inlet := b.inlet, history := b.history, queue := b.queue
           openPair := b.openPair, cells := b.cells, invalid := false, formed := true }

def sameShape (a b : Shape) : Bool :=
  a.num == b.num && a.kind == b.kind && a.rows == b.rows && a.slices == b.slices && a.sections == b.sections

/-- A block belongs to a map of the Datum (R152). -/
def blockFits (b : SaveBlock) (m : GMap) : Bool :=
  m.shape.num == b.num && m.shape.kind == b.kind && m.shape.rows == b.rows && m.shape.slices == b.slices && m.shape.sections == b.sections

/-- The bias states with the entries of a save image whose Legend is the slot's, and how many those are. -/
def restoreBias (imgs : List Bytes) (es : Bytes) (bias : List BiasSt) : List BiasSt × Nat :=
  (List.range 15).foldl (fun a g =>
    let e := slice es (32 * g) 32
    if bodyCrc imgs g = some (u32 e 16) then
      (setAt g { b := s32 e 0, p := u32 e 4, last := u32 e 8, pairs := u16 e 12, gated := u16 e 14 } a.1, a.2 + 1)
    else a) (bias, 0)

/-- Every bound prediction result is discarded, with the one under way (R140). -/
def dropPredictions (p : Plant) : Plant := { p with maps := p.maps.map fun m => { m with results := [], jobs := [] } }

/-- A dryer-kind map's discharge volume in force is not 0 (R152). -/
def anyDischarge (p : Plant) : Bool := p.dryers.any fun x => x.dis.q != 0

def mapRestoreEff : Effect := fun _ c s =>
  if anyDischarge s.plant then refuse stMapBusy s
  else
    let img := c.d.data.take (u32 c.d.data 8)
    let blocks := blocksOfImage ((img.drop 64).take (img.length - 64 - 480))
    let good := blocks.filter fun b => s.plant.maps.any (blockFits b)
    let maps := s.plant.maps.map fun m => match good.find? fun b => blockFits b m with | some b => restoreMap m b | none => m
    let bs := restoreBias s.imgs (img.drop (img.length - 480)) s.plant.bias
    let s1 := { s with plant := dropPredictions { s.plant with maps := maps, bias := bs.1 } }
    .done (chainRestart (linRefresh s1)) stOk c.d.data.length (good.length + 65536 * (blocks.length - good.length) + 2 ^ 32 * bs.2)

/-! The maps that a Datum gives the plant (R86, 04 R126). -/

/-- The inlet state at a Datum load (R126). -/
def loadInlet (imgs : List Bytes) (r : MapRecs) : Inlet :=
  let def' := match r.fusion with | some f => fuInDef f | none => 0
  { m := 0, var := 0, t := 0, legend := mapLegend r.mr, measured := false, valid := decide (def' ≠ 0), lot := 0, est := def' * 256
    pIn := lgInVarEst (legImg imgs (mapLegend r.mr)) }

/-- A map that starts empty (R86). -/
def newMap (imgs : List Bytes) (r : MapRecs) : GMap :=
  let h := shapeOf r.mr
  { shape := h, cells := List.replicate (h.rows * h.width) emptyCell, adv := 0, rot := 0, fill := 0, outSeq := 0, acc := []
    held := [], steps := 0, stepAt := none, repaired := false, aborted := false, clipped := false, stale := false, noInlet := true
    invalid := false, inlet := loadInlet imgs r, history := [], queue := [], openPair := none, pairLog := [], formed := false, rots := []
    results := [], jobs := [] }

/-- A kept map under the new Datum (R86): cells, credits and sequence number stay, and for a dryer kind the inlet history,
the pairing queue with its open pair and the pair log. R86 does not name the samples of its running step, its held inputs (R88), its
rotation volumes (R142), its count of steps or its status bits: they belong to frames and steps that a load does not undo (Table 3-16,
R119), and the map keeps them (notes/assumptions/43.md). -/
def keepMap (imgs : List Bytes) (r : MapRecs) (m : GMap) : GMap :=
  let n := newMap imgs r
  let dry := isDryerKind m.shape.kind
  { n with cells := m.cells, adv := m.adv, rot := m.rot, fill := m.fill, outSeq := m.outSeq, steps := m.steps, invalid := m.invalid
           acc := m.acc, held := m.held, rots := m.rots, repaired := m.repaired, aborted := m.aborted, clipped := m.clipped
           stale := m.stale, noInlet := m.noInlet
           history := if dry then m.history else [], queue := if dry then m.queue else []
           openPair := if dry then m.openPair else none, pairLog := if dry then m.pairLog else [] }

/-- The maps of a Datum, ascending. -/
def datumMaps (d : Datum) (imgs : List Bytes) (old : List GMap) : List GMap :=
  sortBy (fun (a b : GMap) => decide (a.shape.num < b.shape.num)) ((d.recs tyMap).map fun mr =>
    let r := mapRecsOf d mr
    match old.find? fun m => sameShape m.shape (shapeOf mr) with
    | some m => keepMap imgs r m
    | none => newMap imgs r)

/-! Meanings of the rows. -/

def execMapStatus (t : Nat) (d : Desc) (s : State) := run t (command specMapStatus mapStatus d) s
def execLoadLegend (t : Nat) (d : Desc) (s : State) := run t (command specLoadLegend loadLegend d) s
def execReadLegend (t : Nat) (d : Desc) (s : State) := run t (command specReadLegend readLegend d) s
def execEraseLegend (t : Nat) (d : Desc) (s : State) := run t (command specEraseLegend eraseLegend d) s
def execMapPrime (t : Nat) (d : Desc) (s : State) := run t (command specMapPrime (tieIf mapChk) d) s
def execPredRead (t : Nat) (d : Desc) (s : State) := run t (command specPredRead predRead d) s
def execBiasRead (t : Nat) (d : Desc) (s : State) := run t (command specBiasRead biasRead d) s
def execBiasReset (t : Nat) (d : Desc) (s : State) := run t (command specBiasReset (tieIf biasChk) d) s
def execSetInlet (t : Nat) (d : Desc) (s : State) := run t (command specSetInlet (tieIf inletChk) d) s
def execPairRead (t : Nat) (d : Desc) (s : State) := run t (command specPairRead pairRead d) s
def execMapExport (t : Nat) (d : Desc) (s : State) := run t (command specMapExport (tieIf mapChk) d) s
def execMapSave (t : Nat) (d : Desc) (s : State) := run t (command specMapSave waitFrame d) s
def execMapRestore (t : Nat) (d : Desc) (s : State) := run t (command specMapRestore (tieIf restoreChk) d) s

end Sys2Proof.Machine
end

