-- ==== Sys2Proof/Machine/DryCmds.lean ====
section
/-!
DEFINITION. Drying block commands (05 R159, R160, R167-R169, R175, R178-R181, R186, R190). What a command and the Datum
decide is judged at acceptance, the rest in the decisions of its frame.
-/
namespace Sys2Proof.Machine

/-! Status codes (Table 5-17). -/
def stNotDryer : Nat := 0x0401
def stDisMode : Nat := 0x0402
def stRateRange : Nat := 0x0403
def stTargetRange : Nat := 0x0404
def stZoneUndefined : Nat := 0x0405
def stSpRange : Nat := 0x0406
def stRouteUndefined : Nat := 0x0409
def stBatchState : Nat := 0x040C
def stRearmNotClear : Nat := 0x040D
def stNotTripped : Nat := 0x040E

/-- The map that byte 0 names has a dryer control record. -/
def dryerChk (c : Cmd) (s : State) : Option Nat := if (s.datum.dryerOf (p8 c.d 0)).isSome then none else some stNotDryer

def State.dryer (s : State) (map : Nat) : Option Dryer := dryerAt s.plant map
def State.setPlant (s : State) (p : Plant) : State := { s with plant := p }
def State.putDryer (s : State) (x : Dryer) : State := s.setPlant (setDryer s.plant x)

/-- An effect on the dryer map that byte 0 names. -/
def onDryer (f : Bytes → Dryer → Cmd → State → Next) : Effect := effIf dryerChk fun _ c s =>
  match s.datum.dryerOf (p8 c.d 0), s.dryer (p8 c.d 0) with
  | some dc, some x => f dc x c s
  | _, _ => refuse stNotDryer s

/-! Discharge (R159). -/

def specDischargeStart : Spec := specTied 0x0402 true
def dischargeStartChk (c : Cmd) (s : State) : Option Nat :=
  match dryerChk c s with
  | some st => some st
  | none => if p8 c.d 1 = 1 ∨ p8 c.d 1 = 2 then none else some stDisMode

/-- Initial rate: 0 takes NOM_RATE; held inside Q_MIN to Q_MAX. -/
def startRate (d : Datum) (dc : Bytes) (q : Nat) : Nat :=
  clampN (dcQMin dc) (dcQMax dc) (if q = 0 then (match d.predOf (dcMap dc) with | some r => prNom r | none => 0) else q)

def dischargeStartEff : Effect := onDryer fun dc x c s =>
  if x.sup.trip ≠ 0 then refuse stTripped s
  else if s.plant.safeHeld then refuse stSafeHeld s
  else
    let y := dryAgain s.datum s.plant { x with dis := { x.dis with mode := p8 c.d 1, q := startRate s.datum dc (p32 c.d 4) } }
    doneE c (s.setPlant (freeFans s.datum x.map (setDryer s.plant y)))

def specDischargeStop : Spec := specTied 0x0403 false
def dischargeStopEff : Effect := onDryer fun _ x c s => doneE c (s.putDryer { x with dis := disStop x.dis })

def specSetRate : Spec := specTied 0x0404 true
def setRateChk (c : Cmd) (s : State) : Option Nat :=
  match s.datum.dryerOf (p8 c.d 0) with
  | none => some stNotDryer
  | some dc => if p32 c.d 4 < dcQMin dc ∨ dcQMax dc < p32 c.d 4 then some stRateRange else none
def setRateEff : Effect := effIf setRateChk (onDryer fun _ x c s =>
  if x.dis.mode = 2 then doneE c (s.putDryer { x with dis := { x.dis with q := p32 c.d 4 } }) else refuse stDisMode s)

def specSetTarget : Spec := specTied 0x0405 false
/-- A target of 0 needs the default of the Legend that the map's inlet names (Table 5-17). -/
def targetChk (c : Cmd) (s : State) : Option Nat :=
  if p16 c.d 2 = 0 ∧ lgTarget (legImg s.imgs (inletSlot s.plant (p8 c.d 0))) = 0 then some stTargetRange else none
def setTargetChk (c : Cmd) (s : State) : Option Nat := match dryerChk c s with | some st => some st | none => targetChk c s
def setTargetEff : Effect := onDryer fun _ x c s =>
  match targetChk c s with
  | some st => refuse st s
  | none => doneE c (s.putDryer { x with dis := { x.dis with target := some (p16 c.d 2) } })

/-! Heat (R167-R169). -/

def zoneChk (c : Cmd) (s : State) : Option Nat := if p8 c.d 0 < (s.datum.recs tyHeat).length then none else some stZoneUndefined

/-- An effect on the heat-zone record that byte 0 names. -/
def onZone (f : Bytes → HeatZone → Cmd → State → Next) : Effect := fun _ c s =>
  match (s.datum.recs tyHeat)[p8 c.d 0]?, s.plant.zones[p8 c.d 0]? with
  | some r, some z => f r z c s
  | _, _ => refuse stZoneUndefined s
def State.putZone (s : State) (i : Nat) (z : HeatZone) : State := s.setPlant { s.plant with zones := setAt i z s.plant.zones }

/-- HEAT_PERMIT is critical when it grants (Table 5-16). -/
def specHeatPermit (d : Desc) : Spec := specTied 0x0406 (u8 d.params 1 == 1)
def heatPermitEff : Effect := onZone fun r z c s =>
  if p8 c.d 1 ≠ 1 then doneE c (s.putZone (p8 c.d 0) { z with permit := false })
  else match s.dryer (hzMap r) with
    | none => refuse stNotDryer s
    | some x =>
      if x.sup.trip ≠ 0 then refuse stTripped s
      else if s.plant.safeHeld then refuse stSafeHeld s
      else
        let s1 := s.putZone (p8 c.d 0) { z with permit := true }
        doneE c (s1.putDryer (dryAgain s.datum s1.plant x))

def specHeatOverride : Spec := specTied 0x0407 true
def heatOverrideEff : Effect := onZone fun _ z c s =>
  doneE c (s.putZone (p8 c.d 0) { z with ovr := if p8 c.d 1 = 0 then none else some (p16 c.d 2) })

def specSetPlenum : Spec := specTied 0x0408 false
def plenumChk (c : Cmd) (s : State) : Option Nat :=
  match (s.datum.recs tyHeat)[p8 c.d 0]? with
  | none => some stZoneUndefined
  | some r => if s16 c.d.params 2 < hzMin r ∨ hzMax r < s16 c.d.params 2 then some stSpRange else none
def setPlenumEff : Effect := effIf plenumChk (onZone fun _ z c s =>
  doneE c (s.putZone (p8 c.d 0) { z with sp := s16 c.d.params 2 }))

/-! Routes (R178, R179, R181). -/

def routeChk (c : Cmd) (s : State) : Option Nat := if (s.datum.routeRec (p8 c.d 0)).isSome then none else some stRouteUndefined
def State.route (s : State) (n : Nat) : Option Route := s.plant.routes.find? fun r => r.num == n

def specRouteStart : Spec := specTied 0x0409 true
def routeStartEff : Effect := fun n c s =>
  match s.datum.routeRec (p8 c.d 0), s.route (p8 c.d 0) with
  | some rr, some r =>
    match routeRefusal n s.datum s.plant rr r with
    | some st => refuse st s
    | none => doneE c (s.setPlant (setRoute s.plant (startRoute n r)))
  | _, _ => refuse stRouteUndefined s

def specRouteStop : Spec := specTied 0x040A false
/-- ROUTE_STOP: a FAULTED route goes to IDLE (Table 5-10). -/
def routeStopped (n : Nat) (now : Bool) (r0 : Route) : Route :=
  let r := { r0 with stopped := some n }
  if r.state = 4 then { r with state := 0, changed := n, fault := false } else if now then stopNow n r else beginStop n r
def routeStopEff : Effect := fun n c s =>
  match s.route (p8 c.d 0) with
  | some r => doneE c (s.setPlant (setRoute s.plant (routeStopped n (bit (p8 c.d 1) 0) r)))
  | none => refuse stRouteUndefined s

/-! Batch machines (R172, R175). -/

/-- BATCH_CONTROL is critical for START, NEXT and RESUME. -/
def specBatchControl (d : Desc) : Spec := specTied 0x040B (u8 d.params 1 == 1 || u8 d.params 1 == 2 || u8 d.params 1 == 4)

/-- A transition that a command makes; the Routes do their work later in the frame. -/
def batchJump (n : Nat) (d : Datum) (s : Nat) (x : Dryer) (p : Plant) : Plant :=
  let old := batchRoutes d x.map x.bat.state
  let new := batchRoutes d x.map s
  let p := stopRoutes n (old.filter fun k => !new.contains k) p
  let p := startListed n d setRoute new p
  setDryer p { x with bat := { x.bat with state := s, frames := 0, filled := 0, next := false, aborting := false } }

def batchControlEff : Effect := fun n => onDryer (fun _ x c s =>
  let kind := match s.datum.mapRec x.map with | some r => mapKind r | none => 0
  let act := p8 c.d 1
  let b := x.bat
  if kind = kCont then refuse stBatchState s
  else if act = 1 then
    if b.state ≠ 0 then refuse stBatchState s
    else if s.plant.safeHeld then refuse stSafeHeld s
    else doneE c (s.setPlant (freeFans s.datum x.map (batchJump n s.datum 1 { x with bat := { b with held := false } } s.plant)))
  else if act = 4 then
    if b.held = false then refuse stBatchState s
    else if s.plant.safeHeld then refuse stSafeHeld s
    else doneE c (s.setPlant (freeFans s.datum x.map (setDryer s.plant { x with bat := { b with held := false } })))
  else if b.state = 0 ∨ b.held = true then refuse stBatchState s
  else if act = 2 then doneE c (s.putDryer { x with bat := { b with next := true } })
  else if act = 3 then
    if b.state = 2 ∨ b.state = 3 then doneE c (s.setPlant (batchJump n s.datum 4 x s.plant))
    else
      doneE c (s.setPlant (setDryer (stopRoutes n (batchRoutes s.datum x.map b.state) s.plant) { x with bat := { b with aborting := true } }))
  else refuse stBatchState s) n

/-! Re-arm (R186). -/

def specDryRearm : Spec := specTied 0x040C true
def dryRearmEff : Effect := onDryer fun _ x c s =>
  let need := match s.datum.superOf x.map with | some su => suRearm su | none => 0
  if x.sup.trip = 0 then refuse stNotTripped s
  else if x.sup.clear < need then refuse stRearmNotClear s
  else doneE c (s.putDryer { x with sup := { x.sup with trip := 0 }, dis := if x.dis.mode = 3 then disStop x.dis else x.dis })

/-! Queries. -/

def dryStatusResult (p : Plant) (x : Dryer) : Nat :=
  x.dis.q + 2 ^ 32 * x.dis.mode + 2 ^ 40 * x.bat.state + 2 ^ 48 * x.sup.trip + 2 ^ 56 * b2n x.dis.kernel + 2 ^ 57 * b2n x.dis.rateLim +
    2 ^ 58 * b2n x.dis.fault + 2 ^ 59 * b2n p.hostSilent + 2 ^ 60 * b2n x.bat.held

def specDryStatus : Spec := specQuery 0x0401
def dryStatus (c : Cmd) (s : State) : Next :=
  match s.dryer (p8 c.d 0) with
  | some x => okResult (dryStatusResult s.plant x) s
  | none => refuse stNotDryer s

def choiceBytes (x : Choice) : Bytes :=
  leBytes 2 x.factor ++ leBytes 2 x.excl ++ leBytes 8 x.e ++ leBytes 8 x.o ++ leBytes 8 x.r ++ leBytes 4 x.d ++ zeros 4 ++
  leBytes 8 x.cost ++ zeros 4

/-- DECISION_READ writes 16 entries; before the first choice they are zero (notes/assumptions/40.md). -/
def specDecisionRead : Spec := specQuery 0x040D
def decisionRead (c : Cmd) (s : State) : Next :=
  match s.dryer (p8 c.d 0) with
  | some x => answer c (padTo 768 (x.choices.map choiceBytes).flatten) x.choiceFrame s
  | none => refuse stNotDryer s

def specRouteStatus : Spec := specQuery 0x040E
def routeStatus (c : Cmd) (s : State) : Next :=
  match s.route (p8 c.d 0) with
  | some r => okResult (r.state + 256 * r.cause + 65536 * r.elem + 2 ^ 32 * (r.changed % 2 ^ 32)) s
  | none => refuse stRouteUndefined s

/-! Meanings of the rows. -/

def execDryStatus (t : Nat) (d : Desc) (s : State) := run t (command specDryStatus dryStatus d) s
def execDischargeStart (t : Nat) (d : Desc) (s : State) := run t (command specDischargeStart (tieIf dischargeStartChk) d) s
def execDischargeStop (t : Nat) (d : Desc) (s : State) := run t (command specDischargeStop (tieIf dryerChk) d) s
def execSetRate (t : Nat) (d : Desc) (s : State) := run t (command specSetRate (tieIf setRateChk) d) s
def execSetTarget (t : Nat) (d : Desc) (s : State) := run t (command specSetTarget (tieIf setTargetChk) d) s
def execHeatPermit (t : Nat) (d : Desc) (s : State) := run t (command (specHeatPermit d) (tieIf zoneChk) d) s
def execHeatOverride (t : Nat) (d : Desc) (s : State) := run t (command specHeatOverride (tieIf zoneChk) d) s
def execSetPlenum (t : Nat) (d : Desc) (s : State) := run t (command specSetPlenum (tieIf plenumChk) d) s
def execRouteStart (t : Nat) (d : Desc) (s : State) := run t (command specRouteStart (tieIf routeChk) d) s
def execRouteStop (t : Nat) (d : Desc) (s : State) := run t (command specRouteStop (tieIf routeChk) d) s
def execBatchControl (t : Nat) (d : Desc) (s : State) := run t (command (specBatchControl d) (tieIf dryerChk) d) s
def execDryRearm (t : Nat) (d : Desc) (s : State) := run t (command specDryRearm (tieIf dryerChk) d) s
def execDecisionRead (t : Nat) (d : Desc) (s : State) := run t (command specDecisionRead decisionRead d) s
def execRouteStatus (t : Nat) (d : Desc) (s : State) := run t (command specRouteStatus routeStatus d) s

end Sys2Proof.Machine
end

