-- ==== Sys2Proof/Machine/StoCmds.lean ====
section
/-!
DEFINITION. Storage block commands, the cable-node profile and the start of the cable reads (06 R194-R197, R200, R201, R205,
R206, R213, R214).
-/
namespace Sys2Proof.Machine

/-! Status codes (Table 6-15). -/
def stNotBin : Nat := 0x0501
def stModeRange : Nat := 0x0502
def stNotRaised : Nat := 0x0503
def stSensorIndex : Nat := 0x0504
def stForceRange : Nat := 0x0505
def stNoCableCan : Nat := 0x0506

def State.bin (s : State) (map : Nat) : Option BinSt := s.plant.bins.find? fun b => b.map == map
def State.putBin (s : State) (x : BinSt) : State := s.setPlant (setBin s.plant x)
def binChk (c : Cmd) (s : State) : Option Nat := if (s.bin (p8 c.d 0)).isSome then none else some stNotBin

/-- An effect on the bin that byte 0 names. -/
def onBin (f : BinSt → Cmd → State → Next) : Effect := fun _ c s =>
  match s.bin (p8 c.d 0) with
  | some x => f x c s
  | none => refuse stNotBin s

/-! STO_STATUS, SENSOR_READ, BUDGET_READ (Table 6-14). -/

/-- The last frame decided. -/
def State.lastFrame (s : State) : Nat := s.frm.next - 1
def forcedNow (n : Nat) (x : BinSt) : Bool := match x.force with | some e => decide (n < e) | none => false

def stoStatusResult (s : State) (x : BinSt) : Nat :=
  x.mode + 256 * b2n (binOn s.lastFrame x) + 512 * b2n x.ambStale + 1024 * b2n (x.sensors.any SensSt.hot) +
    2048 * b2n (x.sensors.any SensSt.cannot) + 4096 * b2n (x.sensors.any SensSt.lost) + 8192 * b2n (forcedNow s.lastFrame x) +
    16384 * b2n s.sto.leaseExpired + 65536 * x.coolF + 2 ^ 32 * x.dryF + 2 ^ 48 * (x.sensors.filter SensSt.lost).length

def specStoStatus : Spec := specQuery 0x0501
def stoStatus (c : Cmd) (s : State) : Next :=
  match s.bin (p8 c.d 0) with
  | some x => okResult (stoStatusResult s x) s
  | none => refuse stNotBin s

def sensBytes (x : SensSt) : Bytes :=
  leBytes 2 (ofS 16 x.last) ++ leBytes 2 x.status ++ leBytes 2 x.since ++ leBytes 2 (b2n x.lost + 2 * b2n x.hot + 4 * b2n x.cannot) ++
  leBytes 8 x.lastFrame

def specSensorRead : Spec := specQuery 0x0505
def sensorRead (c : Cmd) (s : State) : Next :=
  match s.bin (p8 c.d 0) with
  | some x => answer c (x.sensors.map sensBytes).flatten x.sensors.length s
  | none => refuse stNotBin s

def budgetResult (x : BinSt) : Nat :=
  x.budget + 2 ^ 32 * x.worst + 2 ^ 56 * b2n x.lowConf + 2 ^ 57 * b2n x.warn + 2 ^ 58 * b2n x.spent

def specBudgetRead : Spec := specQuery 0x0506
def budgetRead (c : Cmd) (s : State) : Next :=
  match s.bin (p8 c.d 0) with
  | some x => okResult (budgetResult x) s
  | none => refuse stNotBin s

/-! AERATION_MODE, AERATION_FORCE, STO_ACK (R200, R201, R205, R206, R214). -/

def specAerationMode : Spec := specTied 0x0502 false
def modeChk (c : Cmd) (s : State) : Option Nat := match binChk c s with | some st => some st | none => if 3 < p8 c.d 1 then some stModeRange else none
def aerationModeEff : Effect := onBin fun x c s => doneE c (s.putBin { x with mode := p8 c.d 1 })

def specAerationForce : Spec := specTied 0x0503 true
def forceChk (c : Cmd) (s : State) : Option Nat :=
  match binChk c s with
  | some st => some st
  | none => if p8 c.d 1 ≠ 0 ∧ (p16 c.d 2 = 0 ∨ 7200 < p16 c.d 2) then some stForceRange else none
def aerationForceEff : Effect := onBin fun x c s =>
  doneE c (s.putBin { x with force := if p8 c.d 1 = 0 then none else some (c.eff + p16 c.d 2) })

def specStoAck : Spec := specTied 0x0504 false
def ackChk (c : Cmd) (s : State) : Option Nat :=
  match s.bin (p8 c.d 0) with
  | none => some stNotBin
  | some x => if x.sensors.length ≤ p16 c.d 2 then some stSensorIndex else none
/-- The alarms that byte 4 names of a sensor are cleared; one that is not raised refuses all. -/
def stoAckEff : Effect := effIf ackChk (onBin fun x c s =>
  let i := p16 c.d 2
  let cc := bit (p8 c.d 4) 0
  let hs := bit (p8 c.d 4) 1
  let y := x.sensors.getD i newSens
  if (cc && !y.cannot) || (hs && !y.hot) then refuse stNotRaised s
  else
    let z := { y with cannot := y.cannot && !cc, hot := y.hot && !hs, calm := if cc then 0 else y.calm, cool := if hs then 0 else y.cool }
    doneE c (s.putBin { x with sensors := setAt i z x.sensors }))

/-! The cable-node profile (R194-R197). -/

/-- A firmware frame for a CAN channel (12 R350). -/
def canSend (ch : Nat) (f : CanFrame) (s : State) : State :=
  match s.datum.canRec ch with
  | some r => setCan (pushFw (fwFrame r s.now f none ch) (s.canCh ch)) s
  | none => s

/-- CABLE_CAN, where the Datum names one. -/
def State.cableCan (s : State) : Option Nat :=
  match s.datum.stoGlob with | some g => if sgCan g = 0xFF then none else some (sgCan g) | none => none

/-- A REQUEST broadcast: SEQ rises by 1 (Table 6-7). -/
def cableRequest (cmd : Nat) (s : State) : State :=
  match s.cableCan with
  | none => s
  | some ch =>
    let q := (s.sto.seq + 1) % 256
    canSend ch { id := 0x500, dlc := 4, data := leBytes 1 q ++ leBytes 1 cmd ++ zeros 2 } { s with sto := { s.sto with seq := q } }

def noNode : NodeSt := { silent := false, answered := false, scan := none }
/-- The node record of an address, with its index. -/
def Datum.nodeAt (d : Datum) (a : Nat) : Option (Nat × Bytes) := (d.nodes.zipIdx.find? fun p => ndAddr p.1 == a).map fun p => (p.2, p.1)
def State.putNode (s : State) (i : Nat) (f : NodeSt → NodeSt) : State := { s with sto := { s.sto with nodes := modifyAt f i s.sto.nodes } }

/-- Status and value of a reading (Table 6-8, R196). -/
def readingOf (v : Nat) : Nat × Int :=
  if v = 0x8000 then (1, 0) else if v = 0x8001 then (2, 0) else if v = 0x8002 then (3, 0)
  else if toS 16 v < -6400 ∨ 12800 < toS 16 v then (3, 0) else (0, toS 16 v)

/-- A DATA frame's readings as samples. -/
def nodeSamples (r : Bytes) (stamp : Nat) (b : Bytes) : List Sample :=
  (List.range (u8 b 2)).map fun k => let v := readingOf (u16 b (4 + 2 * k)); mkSample stamp (ndSrc r + u8 b 1 + k) v.1 v.2

/-- A DATA frame that is discarded (R196). -/
def staleFrame (s : State) : State := { s with sto := { s.sto with stale := sat 65535 (s.sto.stale + 1) } }

/-- The frame belongs to the profile: a standard identifier 0x600 to 0x77F on CABLE_CAN (12 R341). -/
def cableFrame (ch : Nat) (f : CanFrame) (s : State) : Bool :=
  s.cableCan == some ch && !ideOf f && !remoteOf f && decide (0x600 ≤ f.id % 2048) && decide (f.id % 2048 ≤ 0x77F)

/-- A DATA or STATUS frame comes (R196, R213). -/
def cableReceive (stamp : Nat) (f : CanFrame) (s : State) : State :=
  let id := f.id % 2048
  match s.datum.nodeAt (if 0x700 ≤ id then id - 0x700 else id - 0x600) with
  | none => staleFrame s
  | some (i, r) =>
    if u8 f.data 0 ≠ s.sto.seq then staleFrame s
    else if 0x700 ≤ id then s.putNode i fun x => { x with scan := some (padTo 7 (f.data.drop 1)) }
    else if ndSensors r < u8 f.data 1 + u8 f.data 2 then staleFrame s
    else (nodeSamples r stamp f.data).foldl (fun a x => intake (rcMark stamp x a) a) (s.putNode i fun x => { x with answered := true })

/-- NODE_SILENT and NODE_BACK at a step for which the cables were read (R197). -/
def nodesJudge (s : State) : State :=
  if s.sto.readFor.isNone then s
  else
    let evs := (s.datum.nodes.zip s.sto.nodes).filterMap fun p =>
      if p.2.answered = p.2.silent then some (if p.2.answered then 0x0506 else 0x0505, leBytes 1 (ndAddr p.1)) else none
    raises evs { s with sto := { s.sto with readFor := none, nodes := s.sto.nodes.map fun x => { x with silent := !x.answered } } }

/-! NODE_SCAN (R213). -/

def specNodeScan : Spec := specPlain 0x0507
def nodeScan (c : Cmd) (s : State) : Next :=
  if s.cableCan.isNone then refuse stNoCableCan s
  else
    let s1 := { s with sto := { s.sto with nodes := s.sto.nodes.map fun x => { x with scan := none }, scanEnd := some (s.now + 2 ^ 24) } }
    .wait (cableRequest 2 s1) c

/-- The bytes that a scan writes: address, then STATUS bytes 1 to 7, of each node that answered. -/
def scanBytes (s : State) : List Bytes :=
  (s.datum.nodes.zip s.sto.nodes).filterMap fun p => p.2.scan.map fun b => leBytes 1 (ndAddr p.1) ++ b

/-- One second after its request the scan completes. -/
def finishScan (c : Cmd) (s : State) : State :=
  let l := scanBytes s
  if fits c.d l.flatten then finish c stOk l.length l.length (putData c.d l.flatten s) else finish c stPayloadError 0 0 s

def scanOver (s : State) : State :=
  match s.sto.scanEnd with
  | none => s
  | some e =>
    if s.now < e then s
    else (s.cmds.filter fun c => c.op == 0x0507).foldl (fun a c => finishScan c a) { s with sto := { s.sto with scanEnd := none } }

/-! The start of the cable reads (R194). -/

/-- A BIN map steps in frame n + READ_LEAD - 1. -/
def readDue (d : Datum) (n : Nat) : Option Nat :=
  match d.stoGlob with
  | none => none
  | some g =>
    let w := n + sgLead g - 1
    if (d.recs tyMap).any fun r => mapKind r == kBin && mapStep r != 0 && (w + 1) % mapStep r == 0 then some w else none

/-- The frame that runs starts the reads of a BIN step: REQUEST CONVERT goes out, and the analog string sequences are
requested. -/
def cableStart (s : State) : State :=
  match readDue s.datum (frameOf s.now) with
  | none => s
  | some w =>
    let s1 := cableRequest 1 { s with sto := { s.sto with readFor := some w, nodes := s.sto.nodes.map fun x => { x with answered := false } } }
    let srcs := (s.datum.recs tySensor).map snSrc
    let seqs := (s.datum.recs tySeq).zipIdx.filterMap fun p =>
      if sqTrig p.1 = 3 ∧ ((List.range (sqCount p.1)).any fun k =>
          match s.datum.chanRec (sqFirst p.1 + k) with | some r => srcs.contains (chSrc r) | none => false) then some p.2 else none
    { s1 with senLog := { s1.senLog with requests := s1.senLog.requests ++ seqs.filter fun q => !s1.senLog.requests.contains q } }

/-! Meanings of the rows. -/

def execStoStatus (t : Nat) (d : Desc) (s : State) := run t (command specStoStatus stoStatus d) s
def execAerationMode (t : Nat) (d : Desc) (s : State) := run t (command specAerationMode (tieIf modeChk) d) s
def execAerationForce (t : Nat) (d : Desc) (s : State) := run t (command specAerationForce (tieIf forceChk) d) s
def execStoAck (t : Nat) (d : Desc) (s : State) := run t (command specStoAck (tieIf ackChk) d) s
def execSensorRead (t : Nat) (d : Desc) (s : State) := run t (command specSensorRead sensorRead d) s
def execBudgetRead (t : Nat) (d : Desc) (s : State) := run t (command specBudgetRead budgetRead d) s
def execNodeScan (t : Nat) (d : Desc) (s : State) := run t (command specNodeScan nodeScan d) s
def execNodeScanEnd (t : Nat) (s : State) := run t (fun s => if s.awake then scanOver s else s) s
def execCableReadStart (t : Nat) (s : State) := run t (fun s => if s.awake then cableStart s else s) s

end Sys2Proof.Machine
end

