-- ==== Sys2Proof/Machine/CanCmds.lean ====
section
/-!
DEFINITION. CAN block commands, and what a change of a channel does outside it (12 R341, R343, R345, R347-R355, R358).
-/
namespace Sys2Proof.Machine

/-! Status codes (Table 12-11). -/
def stCanChannel : Nat := 0x0A01
def stTagUnknown : Nat := 0x0A02
def stNotBusOff : Nat := 0x0A03
def stCannotClaim : Nat := 0x0A04
def stClaimBusy : Nat := 0x0A07

/-! A channel's effects on the rest of the block. -/

/-- Records of a channel's receive ring, in order: FRAME, CONT and TX_REPORT records (R344, R347). -/
def canRecords (ch : Nat) (b : List Bytes) (s : State) : State := devPut (37 + ch) (match b with | r :: _ => u64 r 0 | [] => 0) 0 b s

/-- DMA moves the frames of a channel's receive FIFO on, in reception order (R344). -/
def rxDrain (ch : Nat) (s : State) : State :=
  let c := s.canCh ch
  c.rx.foldl (fun a b => canRecords ch b a) (setCan { c with rx := [] } s)

/-- A mirrored buffer store (R345): the buffer already holds the frame and its count. -/
def mirror (ch b : Nat) (s : State) : State :=
  let c := s.canCh ch
  match c.bufs[b]? with
  | none => s
  | some m => if mbBase c = 0 then s else (slotWrites (mbBase c) b ((m.count + 65535) % 65536) m).foldl (fun a w => post w.1 w.2 a) s

/-- What a channel's step does outside it: samples, buffer stores, reports, frames, events. `stamp` dates the samples. -/
def canEffects (ch stamp : Nat) (e : CanEff) (s : State) : State :=
  let s1 := e.samples.foldl (fun a x => intake (rcMark stamp (mkSample stamp x.1 x.2.1 x.2.2) a) a) s
  let s2 := e.stores.foldl (fun a b => mirror ch b a) s1
  let s3 := e.recs.foldl (fun a r => canRecords r.1 r.2 a) s2
  raises e.evs (rxDrain ch s3)

/-- A step of a channel. -/
def canStep (ch stamp : Nat) (f : CanCh → CanCh × CanEff) (s : State) : State :=
  let q := f (s.canCh ch)
  canEffects ch stamp q.2 (setCan q.1 s)

/-! Commands that a channel's step completes. -/

/-- Waiting commands of an opcode for a channel. -/
def waiting (op ch : Nat) (s : State) : List Cmd := s.cmds.filter fun c => c.op == op && p8 c.d 0 == ch && !c.tied

/-- The outcome that a channel, or the partner a frame was moved to, noted for a tag (R348, R352). -/
def tagOutcome (ch tag : Nat) (s : State) : Option Nat :=
  let key := noteKey ch tag
  match s.can.findSome? fun c => if c.ch = ch then none else lookupKey key c.outcomes with
  | some o => some o
  | none => lookupKey key (s.canCh ch).outcomes

/-- The end of a cancel whose frame has an outcome. -/
def cancelEnd (o : Nat) : Nat := if o = 1 ∨ o = 2 then stOk else stAlreadyDone

/-- Cancels that waited for their frame's outcome complete. -/
def cancelsDone (s : State) : State :=
  (s.cmds.filter fun c => c.op == 0x0A02).foldl (fun a c =>
    match tagOutcome (p8 c.d 0) (p32 c.d 4) a with
    | some o => finish c (cancelEnd o) 0 o a
    | none => a) s

/-- A claim that has ended in Cannot Claim completes its command. -/
def claimsLost (ch : Nat) (s : State) : State :=
  if (s.canCh ch).claim.isSome then s else (waiting 0x0A04 ch s).foldl (fun a c => finish c stCannotClaim 0 0 a) s

/-! CAN_STATUS, CAN_STRANGERS. -/

/-- The channel record that byte 0 names. -/
def canRecOf (c : Cmd) (s : State) : Option Bytes := s.datum.canRec (p8 c.d 0)
/-- The same for a transmit action: not LISTEN_ONLY (R358). -/
def canSendRec (c : Cmd) (s : State) : Option Bytes := (canRecOf c s).filter fun r => cnMode r != 3

def canStatusResult (c : CanCh) : Nat :=
  c.state + 4 * b2n c.recovering + 256 * min 255 c.tec + 65536 * min 255 c.rec' + 2 ^ 24 * c.fifo.length + 2 ^ 32 * c.busOffs +
    2 ^ 48 * (claimedAddr c).getD 0xFE

def specCanStatus : Spec := specQuery 0x0A01
def canStatus (c : Cmd) (s : State) : Next :=
  if (canRecOf c s).isNone then refuse stCanChannel s else okResult (canStatusResult (s.canCh (p8 c.d 0))) s

def strangerBytes (x : Stranger) : Bytes := leBytes 4 x.id ++ leBytes 4 x.count ++ leBytes 8 x.latest

def specCanStrangers : Spec := specQuery 0x0A06
def canStrangers (c : Cmd) (s : State) : Next :=
  let x := s.canCh (p8 c.d 0)
  let b := (x.table.map strangerBytes).flatten
  if (canRecOf c s).isNone then refuse stCanChannel s
  else if fits c.d b = false then refuse stPayloadError s
  else answer c b x.table.length (if bit (p8 c.d 1) 0 then setCan { x with table := [] } s else s)

/-! CAN_TX_CANCEL (R348). -/

/-- The frame of a tag in a FIFO, by its place. -/
def tagPlace (ch tag : Nat) (c : CanCh) : Option (Nat × TxFrame) :=
  (c.fifo.zipIdx.find? fun p => !p.1.fw && p.1.origin == ch && p.1.tag == tag).map fun p => (p.2, p.1)

/-- The channel that holds the frame of a tag: its own, or the partner (R352). -/
def tagHolder (ch tag : Nat) (s : State) : Option (CanCh × Nat × TxFrame) :=
  ((s.canCh ch) :: s.can).findSome? fun c => (tagPlace ch tag c).map fun p => (c, p.1, p.2)

/-- A frame leaves its FIFO before arbitration: CANCELLED, with its report in the ring of its channel. -/
def cancelNow (x : TxFrame) (c : CanCh) : CanCh × CanEff :=
  (noteOutcome 1 x { c with fifo := c.fifo.erase x }, { noEff with recs := outcomeRecs 0 1 c.ch x })

def specCanTxCancel : Spec := specPlain 0x0A02
def canTxCancel (c : Cmd) (s : State) : Next :=
  let ch := p8 c.d 0
  let tag := p32 c.d 4
  if (canSendRec c s).isNone then refuse stCanChannel s
  else match tagHolder ch tag s with
    | some (h, i, x) =>
      if i = 0 ∧ (txHead h).isSome then .wait (setCan { h with fifo := setAt 0 { x with cancel := some s.now } h.fifo } s) c
      else okResult 1 (canStep h.ch s.now (cancelNow x) s)
    | none =>
      match tagOutcome ch tag s with
      | some o => .done s stAlreadyDone 0 o
      | none => refuse stTagUnknown s

/-! CAN_RECOVER, CAN_CLAIM, CAN_RELEASE (R351, R354, R355). -/

def specCanRecover : Spec := specPlain 0x0A03
def canRecover (c : Cmd) (s : State) : Next :=
  match canRecOf c s with
  | none => refuse stCanChannel s
  | some r =>
    let x := s.canCh (p8 c.d 0)
    if x.state ≠ 2 ∨ cnAuto r = true then refuse stNotBusOff s else okResult 0 (setCan { x with recovering := true } s)

/-- A claim begins: Address Claimed for the preferred address. -/
def startClaim (r : Bytes) (now : Nat) (d : Desc) (x : CanCh) : CanCh :=
  let k : Claim := { name := p64 d 8, addr := p8 d 1, lo := p8 d 2, hi := p8 d 3, since := now, holding := false, others := [] }
  pushFw (fwFrame r now (claimFrame k.name k.addr) none x.ch) { x with claim := some k }

def specCanClaim : Spec := specPlain 0x0A04
def canClaim (c : Cmd) (s : State) : Next :=
  match canSendRec c s with
  | none => refuse stCanChannel s
  | some r =>
    let x := s.canCh (p8 c.d 0)
    if x.claim.any fun k => !k.holding then refuse stClaimBusy s
    else .wait (setCan (startClaim r s.now c.d x) s) c

def specCanRelease : Spec := specPlain 0x0A05
def canRelease (c : Cmd) (s : State) : Next :=
  if (canRecOf c s).isNone then refuse stCanChannel s
  else okResult 0 (claimsLost (p8 c.d 0) (setCan { s.canCh (p8 c.d 0) with claim := none } s))

/-! Meanings of the rows. -/

def execCanStatus (t : Nat) (d : Desc) (s : State) := run t (command specCanStatus canStatus d) s
def execCanTxCancel (t : Nat) (d : Desc) (s : State) := run t (command specCanTxCancel canTxCancel d) s
def execCanRecover (t : Nat) (d : Desc) (s : State) := run t (command specCanRecover canRecover d) s
def execCanClaim (t : Nat) (d : Desc) (s : State) := run t (command specCanClaim canClaim d) s
def execCanRelease (t : Nat) (d : Desc) (s : State) := run t (command specCanRelease canRelease d) s
def execCanStrangers (t : Nat) (d : Desc) (s : State) := run t (command specCanStrangers canStrangers d) s

end Sys2Proof.Machine
end

