-- ==== Sys2Proof/Machine/LinkFrame.lean ====
section
/-!
DEFINITION. Link frames as bytes: header, short stamp, payload, CRC-16, and what a receiver makes of the bytes that reach it (01
R12-R15).
-/
namespace Sys2Proof

/-- The 89 payload bytes of a frame in each direction: their layout belongs to the die and the firmware build (01 Table 1-2;
notes/assumptions/12.md). -/
opaque Config.outPayload : Machine.OutFrame → Bytes
opaque Config.inPayload : Machine.InFrame → Bytes
/-- What bytes 1-93 spell that no sender sent: line errors that the CRC does not show. -/
opaque Config.outSpelt : Bytes → Option Machine.OutFrame
opaque Config.inSpelt : Bytes → Option Machine.InFrame

end Sys2Proof

namespace Sys2Proof.Machine

/-- Byte 1: link, direction (1 to LOGIC), SAFE, sequence. -/
def linkHeader (k : Nat) (toLogic safe : Bool) (seq : Nat) : Nat := 64 * k + 32 * b2n toLogic + 16 * b2n safe + seq % 16

/-- Bytes 1-93: header, short stamp, payload. -/
def linkBytes (header short : Nat) (payload : Bytes) : Bytes := leBytes 1 header ++ leBytes 3 short ++ padTo 89 payload

/-- Frames without their CRC; SAFE goes on ILP and ILI (R30), and a far die sends it as 0. -/
def outBytes (k : Nat) (f : OutFrame) : Bytes :=
  linkBytes (linkHeader k false (f.safe && k != 0) f.seq) f.short (Config.outPayload { f with crc := 0 })
def inBytes (k : Nat) (f : InFrame) : Bytes := linkBytes (linkHeader k true false f.seq) f.short (Config.inPayload { f with crc := 0 })

/-- The sender puts the CRC over bytes 1-93 into bytes 94-95 (R14). -/
def sealOut (k : Nat) (f : OutFrame) : OutFrame := { f with crc := crc16 (outBytes k f) }
def sealIn (k : Nat) (f : InFrame) : InFrame := { f with crc := crc16 (inBytes k f) }

/-- Bytes with some of their bits inverted. -/
def flipBits (flips : List Nat) (b : Bytes) : Bytes :=
  b.zipIdx.map fun p => p.1 ^^^ BitVec.ofNat 8 (maskOf 8 fun i => flips.contains (8 * p.2 + i))

/-- The receiver's checks of bytes 1-95 (R15): start, coding, CRC, link number, direction. -/
def linkGood (k : Nat) (toLogic : Bool) (dmg : Damage) (r : Bytes) : Bool :=
  !dmg.noStart && !dmg.violation && leNat (slice r 93 2) == crc16 (r.take 93) && u8 r 0 / 64 == k && bit (u8 r 0) 5 == toLogic

/-- The bytes 1-95 that reach the receiver. -/
def outArrived (k : Nat) (dmg : Damage) (f : OutFrame) : Bytes := flipBits dmg.flips (outBytes k f ++ leBytes 2 f.crc)
def inArrived (k : Nat) (dmg : Damage) (f : InFrame) : Bytes := flipBits dmg.flips (inBytes k f ++ leBytes 2 f.crc)

/-- A frame that reaches the receiver as it was sent. -/
def cleanLine : Damage := { noStart := false, violation := false, flips := [] }

/-- The frame that a far die, or LOGIC, takes from the line; none where it discards it (R15). -/
def outTaken (k : Nat) (dmg : Damage) (f : OutFrame) : Option OutFrame :=
  if linkGood k false dmg (outArrived k dmg f) then (if dmg.flips = [] then some f else Config.outSpelt ((outArrived k dmg f).take 93)) else none
def inTaken (k : Nat) (dmg : Damage) (f : InFrame) : Option InFrame :=
  if linkGood k true dmg (inArrived k dmg f) then (if dmg.flips = [] then some f else Config.inSpelt ((inArrived k dmg f).take 93)) else none

end Sys2Proof.Machine
end

