-- ==== Sys2Proof/Machine/Check.lean ====
section
/-!
DEFINITION. The configuration checker, first part: the image's header and directory, the sources, the globals, the output
table, and the checks of the map and fusion chapters (13 R387, R539; 03 R85; 04 R124, R149).
-/
namespace Sys2Proof.Machine

/-- A refusal: status code, section type and record index (R387), and the failing map of the map and fusion checks (03 R85, 04
R124). -/
structure Bad where
  code : Nat
  ty : Nat
  idx : Nat
  map : Nat
deriving DecidableEq, Repr

/-- RESULT of a refusal: R387 lays bits 31:0 down; bits 39:32, which it leaves, carry the map number that 03 R85 and 04 R124 ask for
(notes/assumptions/21.md). -/
def Bad.result (b : Bad) : Nat := b.map * 2 ^ 32 + b.ty * 65536 + b.idx

/-- Rules in the order in which they are judged: broken or not, and the refusal. -/
abbrev Rules := List (Bool × Bad)
/-- The first broken rule. -/
def firstBad (l : Rules) : Option Bad := (l.find? fun e => e.1).map Prod.snd
def bad (c : Bool) (code ty idx : Nat) : Bool × Bad := (c, { code, ty, idx, map := 0 })
def badMap (c : Bool) (code ty idx map : Nat) : Bool × Bad := (c, { code, ty, idx, map })

/-- The records of a type with their indices. -/
def Datum.numbered (d : Datum) (ty : Nat) : List (Nat × Bytes) := (d.recs ty).zipIdx.map fun p => (p.2, p.1)
/-- The rules of every record of a type, in index order. -/
def rulesOf (d : Datum) (ty : Nat) (f : Nat → Bytes → List (Bool × Nat)) : Rules :=
  ((d.numbered ty).map fun p => (f p.1 p.2).map fun e => bad e.1 e.2 ty p.1).flatten
/-- The same for rules whose refusal names the record's map. -/
def rulesOfMap (d : Datum) (ty : Nat) (map : Bytes → Nat) (f : Nat → Bytes → List (Bool × Nat)) : Rules :=
  ((d.numbered ty).map fun p => (f p.1 p.2).map fun e => badMap e.1 e.2 ty p.1 (map p.2)).flatten
/-- An earlier record of the section has the same key. -/
def repeats (d : Datum) (ty i : Nat) (key : Bytes → Nat) (r : Bytes) : Bool := ((d.recs ty).take i).any fun q => key q == key r
/-- A number outside a range. -/
def out (v lo hi : Nat) : Bool := decide (v < lo) || decide (hi < v)

/-! Header and directory (Table 13-10, R386). -/

/-- REC_SIZE by section type (Table 13-11; 18 R485). -/
def recSizes : List (Nat × Nat) :=
  [(0x01, 32), (0x02, 8), (0x03, 8), (0x10, 64), (0x11, 16), (0x12, 16), (0x13, 12), (0x14, 16), (0x15, 8), (0x16, 48),
   (0x20, 64), (0x21, 24), (0x22, 8), (0x23, 16), (0x24, 16), (0x25, 32), (0x28, 16), (0x29, 8), (0x2A, 32), (0x30, 32),
   (0x31, 8), (0x32, 24), (0x33, 72), (0x34, 112), (0x35, 4), (0x36, 16), (0x40, 64), (0x48, 104), (0x50, 32), (0x51, 8),
   (0x58, 32), (0x59, 16), (0x5A, 20), (0x5B, 8), (0x68, 16)]

def datumFormatBad (img : Bytes) (plen : Nat) : Bool :=
  let n := datLength img
  u32 img 0 != 0x4D544144 || u16 img 4 != 1 || n % 8 != 0 || decide (131072 < n) || decide (plen < n) ||
  out (u16 img 6) 1 64 || decide (n < 64 + 16 * u16 img 6) || crc32 ((img.take n).drop 64) != u32 img 12

/-- A directory entry breaks a rule: type, repeat, record size, offset, end; a section of which one Datum has one record. -/
def dirBad (img : Bytes) (i : Nat) (e : Bytes) : Bool :=
  let size := lookupKey (deType e) recSizes
  size.isNone || size != some (deSize e) || (((dirOf img).take i).any fun q => deType q == deType e) ||
  deOffset e % 8 != 0 || decide (datLength img < deOffset e + deSize e * deCount e) ||
  ([0x01, 0x28, 0x35, 0x51].contains (deType e) && decide (1 < deCount e))

def checkHeader (img : Bytes) (plen : Nat) : Option Bad :=
  if datumFormatBad img plen then some { code := 0x0103, ty := 0, idx := 0, map := 0 }
  else firstBad ((dirOf img).zipIdx.map fun p => bad (dirBad img p.2 p.1) 0x0104 (deType p.1) p.2)

/-! Sources and their units (Table 13-8, R539). -/

def uTemp : Nat := 0x01
def uMoist : Nat := 0x02
def uRh : Nat := 0x03
def uVolume : Nat := 0x04
def uFlow : Nat := 0x05
def uState : Nat := 0x0D

/-- A source that a record produces. -/
structure Produced where
  src : Nat
  unit : Nat
  ty : Nat
  idx : Nat
deriving DecidableEq, Repr

/-- Sources of one record of a type: number and unit. -/
def producedBy (ty : Nat) (r : Bytes) : List (Nat × Nat) :=
  if ty = tyHostSrc then [(u16 r 0, u16 r 2)]
  else if ty = tyNode then (List.range (ndSensors r)).map fun i => (ndSrc r + i, uTemp)
  else if ty = tyChan then (if chReport r then [(chSrc r, chUnit r)] else [])
  else if ty = tyContour then [(coSrc r, uState)]
  else if ty = tyValve then (if vaEnabled r && vaMoveEn r then [(vaMoveSrc r, 0x0E)] else [])
  else if ty = tyFan then (if fnEnabled r then [(fnSrcBase r, 0x09), (fnSrcBase r + 1, 0x0A), (fnSrcBase r + 2, 0x0C)] else [])
  else if ty = tyUio then (if ucRole r = 4 then [] else [(ucSrc r, uState)] ++ if ucEdge r then [(ucSrc r + 1, uState)] else [])
  else if ty = tySignal then [(u16 r 4, u16 r 6)]
  else []

/-- Every source that the records of a Datum produce, by section type and index. -/
def produced (d : Datum) : List Produced :=
  ([tyHostSrc, tyNode, tyChan, tyContour, tyValve, tyFan, tyUio, tySignal].map fun ty =>
    ((d.numbered ty).map fun p => (producedBy ty p.2).map fun e => { src := e.1 % 65536, unit := e.2, ty, idx := p.1 }).flatten).flatten

def sourceRules (d : Datum) : Rules :=
  let l := produced d
  l.zipIdx.map fun p => bad (p.1.src == 0 || p.1.src == 0xFFFF || ((l.take p.2).any fun q => q.src == p.1.src)) 0x0105 p.1.ty p.1.idx

/-- A source field names a source that does not deliver the unit; 0 names none (R539). -/
def unitBad (d : Datum) (src unit : Nat) : Bool := src != 0 && !((produced d).any fun p => p.src == src && p.unit == unit)

/-! Globals (Table 13-12; 01 R33): the fixed regions take 49.5 MB of seven eighths of the fitted memory, which is 512 MB at
least. -/

def globalsRules (d : Datum) : Rules :=
  rulesOf d tyGlobals (fun _ r => [(decide (256 < u16 r 0), 0x0109)]) ++
  [bad (decide (896 < 99 + 2 * datCaptureMb d) && decide (clampN 512 4096 Config.memMb * 7 / 4 < 99 + 2 * datCaptureMb d)) 0x0109
    tyGlobals 0]

/-! Decision outputs (Table 13-13, R387). -/

/-- Section type of the owner of a kind. -/
def ownerType (kind : Nat) : Option Nat :=
  if kind = 0x0401 ∨ kind = 0x0406 ∨ kind = 0x0407 then some tyDryer
  else if kind = 0x0402 ∨ kind = 0x0403 then some tyHeat
  else if kind = 0x0404 then some tyDryFan
  else if kind = 0x0405 then some tyElem
  else if kind = 0x0501 ∨ kind = 0x0502 then some tyBinCtl
  else none

def elKey (r : Bytes) : Nat := elOutKind r * 256 + elOutCh r
/-- The record is the lowest-indexed of its physical element (05 R176). -/
def elFirst (d : Datum) (i : Nat) (r : Bytes) : Bool := !repeats d tyElem i elKey r

def outKey (r : Bytes) : Nat := (outKind r * 65536 + outOwner r) * 256 + if outKind r = 0x0501 then outSub r else 0

def outputRules (d : Datum) : Rules :=
  rulesOf d tyOutput (fun i r =>
    [(decide (1023 < outNum r) || repeats d tyOutput i outNum r ||
      (match ownerType (outKind r) with
       | some ty => decide ((d.recs ty).length ≤ outOwner r)
       | none => true) ||
      decide ((if outKind r = 0x0501 then 3 else 0) < outSub r) || repeats d tyOutput i outKey r ||
      (outKind r == 0x0405 && !elFirst d (outOwner r) ((d.recs tyElem).getD (outOwner r) [])), 0x0106)]) ++
  rulesOf d tyDryer (fun i r =>
    let k := match d.mapRec (dcMap r) with | some m => mapKind m | none => 0
    [(lacks 0x0407 i 0 || (k == kCont && lacks 0x0401 i 0) || ((k == kBatch || k == kRecirc) && lacks 0x0406 i 0), 0x0106)]) ++
  rulesOf d tyHeat (fun i _ => [(lacks 0x0402 i 0 || lacks 0x0403 i 0, 0x0106)]) ++
  rulesOf d tyDryFan (fun i _ => [(lacks 0x0404 i 0, 0x0106)]) ++
  rulesOf d tyElem (fun i r => [(elFirst d i r && lacks 0x0405 i 0, 0x0106)]) ++
  rulesOf d tyBinCtl (fun i r => [(lacks 0x0502 i 0 || (List.range (bcFans r)).any (fun k => lacks 0x0501 i k), 0x0106)])
where
  /-- No output record has this kind, owner and position. -/
  lacks (kind owner sub : Nat) : Bool :=
    !((d.recs tyOutput).any fun o => outKind o == kind && outOwner o == owner && (kind != 0x0501 || outSub o == sub))

/-! Grain Maps (03 R79, R81, R84, R85). -/

def mapCells (r : Bytes) : Nat := mapRows r * mapSlices r * mapSections r

/-- The zones of a dryer-kind map cover its rows in ascending order; a BIN map has one AERATION zone over all rows. -/
def zonesBad (d : Datum) (r : Bytes) : Bool :=
  let zs := d.zonesOf r
  out (mapZones r) 1 8 || zs.length != mapZones r ||
  (if mapKind r = kBin then zs.any (fun z => znKind z != 3 || znFirst z != 0 || znLast z + 1 != mapRows r) || zs.length != 1
   else
     (zs.any fun z => (znKind z != 1 && znKind z != 2) || decide (znLast z < znFirst z)) ||
     zs.foldl (fun (a : Option Nat) z => if a = some (znFirst z) then some (znLast z + 1) else none) (some 0) != some (mapRows r))

/-- Images of the Legend slots 0-14 that hold a Legend; empty for an empty slot. -/
abbrev Legends := List Bytes
def legEmpty (legs : Legends) (slot : Nat) : Bool := (legs.getD slot []).isEmpty

def mapRules (d : Datum) (legs : Legends) : Rules :=
  let ms := d.recs tyMap
  rulesOfMap d tyMap mapNum (fun i r =>
    let k := mapKind r
    let bin := k == kBin
    [(decide (63 < mapNum r) || out (mapRows r) 1 512 || out (mapSlices r) 1 32 || out (mapSections r) 1 16 || decide (16384 < mapCells r), 0x0310),
     (out k 1 4, 0x0318),
     (repeats d tyMap i mapNum r, 0x0317),
     (decide (262144 < ((ms.take (i + 1)).map mapCells).sum), 0x0310),
     (isDryerKind k && decide (4 < ((ms.take (i + 1)).filter fun q => isDryerKind (mapKind q)).length), 0x0311),
     (if bin then out (mapStep r) 120 14400 else out (mapStep r) 1 240, 0x0316),
     (mapRowVol r == 0, 0x0315),
     (legEmpty legs (mapLegend r), 0x0314),
     (zonesBad d r, 0x0312),
     ((mapRotSrc r != 0 && k != kRecirc) || (mapFillSrc r != 0 && k == kCont) ||
        (d.zonesOf r).any (fun z => znKind z != 1 && znTemp z != 0), 0x0319),
     (unitBad d (mapAdvSrc r) uVolume || unitBad d (mapRotSrc r) uVolume || unitBad d (mapFillSrc r) uVolume ||
        unitBad d (mapAmbT r) uTemp || unitBad d (mapAmbRh r) uRh ||
        (d.zonesOf r).any (fun z => unitBad d (znTemp z) uTemp || unitBad d (znFlow z) uFlow), 0x0313)])

/-! Fusion and prediction (04 R124, R149). -/

/-- The map of a number has a dryer kind, or is a BIN map. -/
def notDryer (d : Datum) (n : Nat) : Bool := match d.mapRec n with | some r => !isDryerKind (mapKind r) | none => true
def notBin (d : Datum) (n : Nat) : Bool := match d.mapRec n with | some r => mapKind r != kBin | none => true

/-- A position lies outside a map; slice 0xFF stands for all where `all` is set. -/
def posBad (d : Datum) (map row slc sec : Nat) (all : Bool) : Bool :=
  match d.mapRec map with
  | some r => decide (mapRows r ≤ row) || decide (mapSections r ≤ sec) || (decide (mapSlices r ≤ slc) && !(all && slc == 0xFF))
  | none => true

def fusionRules (d : Datum) : Rules :=
  rulesOfMap d tyFusion fuMap (fun i r =>
    [(notDryer d (fuMap r) || repeats d tyFusion i fuMap r, 0x0320),
     (decide (15 < fuOutRows r) || decide (32 < fuProbes r) || decide ((d.recs tyProbe).length < fuProbeBase r + fuProbes r), 0x032B),
     (unitBad d (fuOutM r) uMoist || unitBad d (fuInM r) uMoist || unitBad d (fuInT r) uTemp, 0x0321)]) ++
  ((d.numbered tyProbe).map fun p =>
    let owners := (d.recs tyFusion).filter fun f => decide (fuProbeBase f ≤ p.1) && decide (p.1 < fuProbeBase f + fuProbes f)
    let own := match owners with | f :: _ => fuMap f | [] => 0
    (owners.map fun f => badMap (posBad d (fuMap f) (pbRow p.2) (pbSlice p.2) (pbSection p.2) true) 0x0320 tyProbe p.1 (fuMap f)) ++
      [badMap (decide (15 < pbRadius p.2)) 0x032B tyProbe p.1 own, badMap (unitBad d (pbSrc p.2) uTemp) 0x0321 tyProbe p.1 own]).flatten ++
  rulesOfMap d tyGeom geMap (fun i r =>
    [(notBin d (geMap r) || repeats d tyGeom i geMap r, 0x0320),
     (decide (256 < geCount r), 0x0322),
     (geCount r == 0 || decide ((d.recs tySensor).length < geBase r + geCount r), 0x032B)]) ++
  ((d.numbered tySensor).map fun p =>
    let owners := (d.recs tyGeom).filter fun g => decide (geBase g ≤ p.1) && decide (p.1 < geBase g + geCount g)
    let own := match owners with | g :: _ => geMap g | [] => 0
    (owners.map fun g => badMap (posBad d (geMap g) (snRow p.2) (snSlice p.2) (snSection p.2) false) 0x0320 tySensor p.1 (geMap g)) ++
      [badMap (unitBad d (snSrc p.2) uTemp) 0x0321 tySensor p.1 own]).flatten ++
  [bad (decide (2048 < (d.recs tySensor).length)) 0x0322 tySensor 2048] ++
  rulesOfMap d tyPred prMap (fun i r =>
    let fs := prFactors r
    let st := match d.mapRec (prMap r) with | some m => mapStep m | none => 1
    [(notDryer d (prMap r) || repeats d tyPred i prMap r, 0x0320),
     (!([1, 2, 4, 8].contains (prMembers r)) || out (prPeriod r) 4 1200 || prPeriod r % st != 0 || out (prStep r) 4 40 ||
        out (prHorizon r) 1 240, 0x0323),
     (fs.any (fun f => out f 26214 39322) || (fs.zip (fs.drop 1)).any (fun p => decide (p.2 ≤ p.1)), 0x0324)]) ++
  ((d.numbered tyPred).map fun p =>
    badMap (decide (960000000 < ((d.recs tyPred).take (p.1 + 1)).foldl (fun a q => a + predLoad d q) (stepLoad d))) 0x0325 tyPred p.1
      (prMap p.2))

end Sys2Proof.Machine
end

