-- ==== Sys2Proof/Machine/CheckPlant.lean ====
section
/-!
DEFINITION. The configuration checker: the drying layer and the storage layer (05 R157, R158, R176; 06 R193).
-/
namespace Sys2Proof.Machine

/-! Channels and roles (05 R157). -/

/-- A channel that a role names: 0 universal, 1 FAN, 2 VLV; and its number. -/
abbrev Chan := Nat × Nat

/-- A universal channel that takes a role of its own: it has a record and is no FOLLOWER (11 R317). -/
def uioAbsent (d : Datum) (ch : Nat) : Bool := (d.uioLead ch).isNone
def fanAbsent (d : Datum) (ch : Nat) : Bool := (d.fanRec ch).isNone
def valveAbsent (d : Datum) (ch : Nat) : Bool := !((d.recs tyValve).any fun r => vaCh r == ch)
def canAbsent (d : Datum) (ch : Nat) : Bool := !((d.recs tyCan).any fun r => cnCh r == ch)
def chanAbsent (d : Datum) (c : Chan) : Bool :=
  match c.1 with
  | 0 => uioAbsent d c.2
  | 1 => fanAbsent d c.2
  | _ => valveAbsent d c.2

/-- The output that a discharge actuator, a heat zone, a drying fan or an element drives. -/
def disChan (r : Bytes) : List Chan := if dcDisKind r = 1 then [(1, dcDisCh r)] else if dcDisKind r = 2 then [(0, dcDisCh r)] else []
def heatChans (r : Bytes) : List Chan := (if hzDemKind r = 2 then [(0, hzDemCh r)] else []) ++ [(0, hzPermit r)]
def fanChan (r : Bytes) : List Chan := [(1, dfFan r)]
def elChan (r : Bytes) : List Chan := [(if elOutKind r = 1 then 0 else 2, elOutCh r)]
/-- The aeration outputs of a bin control record in use. -/
def binChans (r : Bytes) : List Chan :=
  ((List.range (bcFans r)).map (bcFanOut r)).map fun b => (if bit b 7 then 1 else 0, b % 32)

/-- Output roles of the drying and storage layers: section type, index, channel. The records of one physical element have
one role. -/
def outputRoles (d : Datum) : List (Nat × Nat × Chan) :=
  let of (ty : Nat) (f : Nat → Bytes → List Chan) : List (Nat × Nat × Chan) :=
    ((d.numbered ty).map fun p => (f p.1 p.2).map fun c => (ty, p.1, c)).flatten
  of tyDryer (fun _ r => disChan r) ++ of tyHeat (fun _ r => heatChans r) ++ of tyDryFan (fun _ r => fanChan r) ++
  of tyElem (fun i r => if elFirst d i r then elChan r else []) ++ of tyBinCtl (fun _ r => binChans r)

/-- A role of this record names a channel that an earlier role has. -/
def roleClash (d : Datum) (ty i : Nat) : Bool :=
  let l := outputRoles d
  l.zipIdx.any fun p => p.1.1 == ty && p.1.2.1 == i && ((l.take p.2).any fun q => q.2.2 == p.1.2.2)

/-- The safe state of a universal output is not OFF. -/
def safeNotOff (d : Datum) (ch : Nat) : Bool := match d.uioRec ch with | some r => ucSafe r != 0 | none => false

/-! The drying layer. -/

def heatZoneBad (d : Datum) (r : Bytes) : Bool :=
  match d.mapRec (hzMap r) with
  | some m => match (d.zonesOf m)[hzZone r]? with | some z => znKind z != 1 | none => true
  | none => true

/-- A heat-zone record outside its map's range. -/
def heatOutside (d : Datum) (i : Nat) (r : Bytes) : Bool :=
  match d.dryerOf (hzMap r) with
  | some c => decide (i < dcZoneBase c) || decide (dcZoneBase c + dcZoneCount c ≤ i)
  | none => true

def inputAbsent (d : Datum) (ch : Nat) : Bool := ch != 0xFF && uioAbsent d ch

/-- The full-level input that a dryer control record names: a batch field, so a continuous map's record names none. -/
def fullName (d : Datum) (r : Bytes) : Nat :=
  match d.mapRec (dcMap r) with
  | some m => if mapKind m = kCont then 0xFF else dcFullUio r
  | none => dcFullUio r

def dryerRules (d : Datum) (legs : Legends) : Rules :=
  rulesOf d tyDryer (fun i r =>
    let hor := match d.predOf (dcMap r) with | some p => prHorizon p | none => 0
    let zs := d.run tyHeat (dcZoneBase r) (dcZoneCount r)
    [(notDryer d (dcMap r) || repeats d tyDryer i dcMap r || (disChan r).any (chanAbsent d) ||
        (dcDisKind r == 3 && canAbsent d (dcDisCh r)) || inputAbsent d (fullName d r), 0x0410),
     ((d.predOf (dcMap r)).isNone || (d.superOf (dcMap r)).isNone, 0x0415),
     (dcQMin r == 0 || decide (dcQMax r < dcQMin r) || out (dcRateStep r) 1 200 || out (dcHStart r) 1 hor || out (dcDisKind r) 1 3 ||
        decide (2 < dcPolicy r) || decide (8 < dcZoneCount r) || (dcDisKind r == 3 && decide (0x7FF < dcCanId r)), 0x0413),
     (roleClash d tyDryer i, 0x0414),
     (dcDisKind r == 2 && safeNotOff d (dcDisCh r), 0x0411),
     (zs.length != dcZoneCount r || zs.any (fun z => hzMap z != dcMap r), 0x0410),
     (dcTarget r == 0 && (match d.mapRec (dcMap r) with | some m => lgTarget (legs.getD (mapLegend m) []) == 0 | none => false), 0x0404)]) ++
  rulesOf d tyPred (fun _ r => [((d.dryerOf (prMap r)).isNone, 0x0415)]) ++
  rulesOf d tyHeat (fun i r =>
    [(heatOutside d i r || heatZoneBad d r || uioAbsent d (hzPermit r) || (hzDemKind r == 2 && uioAbsent d (hzDemCh r)) ||
        (hzDemKind r == 1 && canAbsent d (hzDemCh r)) || inputAbsent d (hzReady r), 0x0410),
     (decide (hzMax r < hzMin r) || out (hzDemKind r) 1 2 || (hzDemKind r == 1 && decide (0x7FF < hzDemParam r)) ||
        (hzDemKind r == 2 && out (hzDemParam r) 1 1000), 0x0413),
     (roleClash d tyHeat i, 0x0414),
     (safeNotOff d (hzPermit r) || (hzDemKind r == 2 && safeNotOff d (hzDemCh r)), 0x0411)]) ++
  rulesOf d tyDryFan (fun i r =>
    [(notDryer d (dfMap r) || (d.dryerOf (dfMap r)).isNone || fanAbsent d (dfFan r), 0x0410),
     (decide (2 < dfFire r), 0x0413),
     (roleClash d tyDryFan i, 0x0414)])

def routeRules (d : Datum) : Rules :=
  [bad (decide (32 < (d.recs tyRoute).length)) 0x0412 tyRoute 32] ++
  rulesOf d tyRoute (fun i r =>
    [(decide (31 < rtNum r) || repeats d tyRoute i rtNum r || out (rtCount r) 1 16 || (d.elemsOf r).length != rtCount r ||
        decide (15 < rtFlags r), 0x0412),
     ((rtMap r != 0xFF && notDryer d (rtMap r)) || inputAbsent d (rtStopUio r), 0x0410)]) ++
  [bad (decide (128 < (d.recs tyElem).length)) 0x0412 tyElem 128] ++
  rulesOf d tyElem (fun i r =>
    [(out (elKind r) 1 3 || out (elOutKind r) 1 2 || decide (15 < elPos r) || out (elProve r) 1 240 || decide (2400 < elPurge r) ||
        out (elWin r) 1 40, 0x0412),
     ((elChan r).any (chanAbsent d) || inputAbsent d (elMotion r) || inputAbsent d (elPosUio r), 0x0410),
     (roleClash d tyElem i, 0x0414)])

def superRules (d : Datum) : Rules :=
  rulesOf d tySuper (fun i r =>
    [(notDryer d (suMap r) || repeats d tySuper i suMap r || (suFastCsw r != 0xFF && (d.cswRec (suFastCsw r)).isNone), 0x0410),
     ((d.dryerOf (suMap r)).isNone, 0x0415),
     (decide (4 < suCount r) || out (suRorWin r) 2 240, 0x0413),
     ((suExh r).any (fun s => unitBad d s uTemp), 0x0416)])

/-! The storage layer. -/

/-- Standard identifiers that other roles use on CABLE_CAN, in the cable-node range. -/
def cableIdClash (d : Datum) (ch id : Nat) : Bool :=
  match d.stoGlob with
  | some g => sgCan g != 0xFF && sgCan g == ch && !out id 0x500 0x77F
  | none => false

def storageRules (d : Datum) (legs : Legends) : Rules :=
  let w := sgWatch (d.stoGlob.getD (zeros 16))
  rulesOf d tyMap (fun _ r =>
    [(mapKind r == kBin && (d.binOf (mapNum r)).isNone, 0x0510),
     (mapKind r == kBin && (w == 0 || mapStep r % w != 0), 0x0511),
     (mapKind r == kBin && lgDmlLimit (legs.getD (mapLegend r) []) == 0, 0x0514)]) ++
  rulesOf d tyDryer (fun _ r => [(dcDisKind r == 3 && cableIdClash d (dcDisCh r) (dcCanId r), 0x0512)]) ++
  rulesOf d tyHeat (fun _ r => [(hzDemKind r == 1 && cableIdClash d (hzDemCh r) (hzDemParam r), 0x0512)]) ++
  rulesOf d tyStoGlob (fun _ g =>
    [(out (sgWatch g) 120 14400, 0x0511),
     (out (sgLease g) 240 7200 || out (sgLead g) 2 8 || (sgCan g != 0xFF && decide (3 < sgCan g)) || decide (1 < sgFlags g) ||
        decide (120 < sgNodes g) || decide ((d.recs tyNode).length < sgNodeBase g + sgNodes g), 0x0513),
     (sgCan g != 0xFF && canAbsent d (sgCan g), 0x0510)]) ++
  rulesOf d tyNode (fun i r =>
    [(out (ndAddr r) 1 120 || out (ndSensors r) 1 32, 0x0513),
     (repeats d tyNode i ndAddr r ||
        (List.range (ndSensors r)).any (fun k => !((d.recs tySensor).any fun q => snSrc q == ndSrc r + k)), 0x0512)]) ++
  rulesOf d tyBinCtl (fun i r =>
    [(notBin d (bcMap r) || repeats d tyBinCtl i bcMap r || (binChans r).any (chanAbsent d) || roleClash d tyBinCtl i, 0x0510),
     (decide (3 < bcMode r) || decide (bcDtOn r < bcDtOff r) || out (bcFans r) 1 4 || out (bcLost r) 1 8 || out (bcRecover r) 1 8, 0x0513)])

end Sys2Proof.Machine
end

