-- ==== Sys2Proof/Machine/CheckSense.lean ====
section
/-!
DEFINITION. The configuration checker: the front-end section (07 R247, 08 R260, R261, R267).
-/
namespace Sys2Proof.Machine

/-! Entries and their resources (07 Table 7-6). -/

def pinCodeBad (p : Nat) : Bool := decide (65 < p)
/-- A field of words 0 to 2 outside Table 7-6, or a reserved bit that is not 0. -/
def entryBad (r : Bytes) : Bool :=
  let w := chWord r
  pinCodeBad (chPinP r) || pinCodeBad (chPinN r) || bit w 7 || bit w 15 || bits w 31 29 != 0 || bit w 67 || bits w 95 94 != 0 ||
  decide (13 < chRate r) || chFilter r == 3 || decide (1 < chRef r) || decide (12 < chExaLvl r) || decide (12 < chExbLvl r)
/-- Fields of words 0 to 2 that a tone entry holds at 0: all but the pins, SETTLE, NCONV, the guard and REPORT (08 R249). -/
def toneRestBad (r : Bytes) : Bool :=
  let w := chWord r
  bits w 28 16 != 0 || bit w 60 || bits w 63 62 != 0 || bits w 87 64 != 0
/-- Word 3. -/
def word3 (r : Bytes) : Nat := bits (chWord r) 127 96
/-- A reserved code or bit of word 3 of a tone entry (08 Table 8-1). -/
def toneBad (r : Bytes) : Bool :=
  bit (chWord r) 107 || out (chLvl r) 1 7 || decide (9 < chTint r) || decide (2 < chMode r) || bits (chWord r) 127 118 != 0

def entryList (d : Datum) (r : Bytes) : Option Nat := d.listOf (chEntry r)

/-- Pins that one list only may use, as 0-63; excitation pair k as 64 + k; guard driver as 72 + its number. -/
def resources (r : Bytes) : List Nat :=
  (if chPinP r < 64 then [chPinP r] else []) ++ (if chExaLvl r = 0 then [] else [chExaPin r, 64 + chExc r]) ++
  (if chExbLvl r = 0 then [] else [chExbPin r, 64 + chExc r]) ++ (if chGuardEn r then [chGuardPin r, 72 + chGuard r] else [])

/-- An earlier record of another list uses a resource of this one. -/
def resourceClash (d : Datum) (i : Nat) (r : Bytes) : Bool :=
  ((d.recs tyChan).take i).any fun q =>
    (entryList d q).isSome && (entryList d r).isSome && entryList d q != entryList d r && (resources r).any (resources q).contains

/-! Passes (07 R227) and the sample-stream load (R247). -/

/-- Pass time, 1/3,072,000,000 s. -/
def passLen (d : Datum) (q : Bytes) : Nat :=
  ((List.range (sqCount q)).map fun k => match d.chanRec (sqFirst q + k) with | some r => entryLen (sqList q) r | none => 0).sum
/-- PERIOD in the same unit. -/
def periodLen (q : Bytes) : Nat := sqPeriod q * 192000000

def seqRules (d : Datum) : Rules :=
  [bad (decide (32 < (d.recs tySeq).length)) 0x0612 tySeq 32] ++
  rulesOf d tySeq (fun i q =>
    let es := (List.range (sqCount q)).map (sqFirst q + ·)
    [(decide (4 < sqList q) || out (sqTrig q) 1 3 || sqCount q == 0 || decide (256 < sqFirst q + sqCount q) ||
        es.any (fun e => (d.chanRec e).isNone) ||
        ((d.recs tySeq).take i).any (fun p => es.any fun e => decide (sqFirst p ≤ e) && decide (e < sqFirst p + sqCount p)) ||
        (sqTrig q == 1 && ((d.recs tySeq).take i).any (fun p => sqTrig p == 1 && sqList p == sqList q)) ||
        (sqTrig q == 2 && decide (sqPeriod q ≤ sqPhase q)) ||
        (sqTrig q != 1 && decide (periodLen q ≤ passLen d q)), 0x0612)])

/-- Samples a second that a record counts. -/
def loadOf (d : Datum) (ty : Nat) (r : Bytes) : Rat :=
  if ty = tyHostSrc then u16 r 4
  else if ty = tyChan then
    (if chReport r then
      match (d.recs tySeq).find? fun q => decide (sqFirst q ≤ chEntry r) && decide (chEntry r < sqFirst q + sqCount q) with
      | some q =>
        let n : Rat := (bits (chWord r) 55 48 + 1 : Nat)
        if sqTrig q = 1 then n * 3072000000 / (passLen d q : Nat) else n * 16 / (sqPeriod q : Nat)
      | none => 0
     else 0)
  else if ty = tyContour then 2
  else if ty = tyFan then (if fnEnabled r then 6 else 0)
  else if ty = tyUio then (if ucRole r = 4 then 0 else if ucEdge r then 22 else 2)
  else if ty = tySignal then u16 r 16
  else 0

/-- The record whose term takes the running sum above 50,000 a second. -/
def rateBad (d : Datum) : Option Bad :=
  let l := ([tyHostSrc, tyChan, tyContour, tyFan, tyUio, tySignal].map fun ty =>
    (d.numbered ty).map fun p => (ty, p.1, loadOf d ty p.2)).flatten
  (l.foldl (fun (a : Rat × Option Bad) e =>
    let sum := a.1 + e.2.2
    (sum, if a.2.isNone && decide (50000 < sum) then some { code := 0x0614, ty := e.1, idx := e.2.1, map := 0 } else a.2)) (0, none)).2

def uioOnBad (d : Datum) (m : Nat) : Bool := (List.range 32).any fun n => bit m n && (outputRoles d).any (fun q => q.2.2 == (0, n))

def senseRules (d : Datum) : Rules :=
  rulesOf d tyChan (fun i r =>
    let l := entryList d r
    [(repeats d tyChan i chEntry r || entryBad r || (l != some 4 && l.isSome && word3 r != 0) ||
        (l == some 4 && toneRestBad r), 0x0610),
     (chXslot r != 0xFFFF && (out (chXslot r) 256 767 || repeats d tyChan i chXslot r), 0x0610),
     (resourceClash d i r, 0x0611),
     (l == some 4 && decide (138240000 < entryLen 4 r), 0x0615)]) ++
  seqRules d ++
  rulesOf d tyContour (fun i r =>
    [(decide (63 < coCsw r) || repeats d tyContour i coCsw r || (d.chanRec (coEntry r)).isNone || out (coDebounce r) 1 15 ||
        decide (2 < coFault r) || bits (u8 r 2) 7 5 != 0 || uioOnBad d (coUioOn r), 0x0613)])

/-! Linearisation, tone entries, check records (08 R260, R261, R267). -/

/-- LIN_SRC or LIN_REF names no usable record, block or map. A MOISTURE entry without linearisation takes its block through
LIN_MAP (R259). -/
def linTargetBad (d : Datum) (legs : Legends) (r : Bytes) : Bool :=
  let block (slot : Nat) : Bool := legEmpty legs slot || u8 (legs.getD slot []) 0x180 == 0
  if chLinSrc r = 1 then decide ((d.recs tyLin).length ≤ chLinRef r)
  else if chLinSrc r = 2 then (if chLinRef r = 0xFF then notDryer d (chLinMap r) else block (chLinRef r))
  else decide (2 < chLinSrc r)

/-- A field of a linearisation record outside Table 8-5. -/
def linBad (b : Bytes) : Bool :=
  lnFormat b != 1 || decide (1 < lnXform b) || decide (4 < lnDx b) || decide (3 < lnDt b) || decide (31 < lnCsh b) ||
  decide (lnXsh b < -16) || decide (31 < lnXsh b) || decide (lnMax b < lnMin b)

def compBad (d : Datum) (r : Bytes) : Bool :=
  chCompEn r && (match d.chanRec (chComp r) with | some c => chUnit c != uTemp || chCompEn c | none => true)

/-- The bank that an entry selects on a string bank board: EXB level 5 + bank, into a pin that is no input of the entry (08
Table 8-7, R261). -/
def boardBank (r : Bytes) : Option Nat :=
  if 5 ≤ chExbLvl r ∧ chExbLvl r ≤ 12 ∧ chExbPin r ≠ chPinP r ∧ chExbPin r ≠ chPinN r then some (chExbLvl r - 5) else none

/-- An entry that starts its pass or selects another bank than the entry before it settles less than 1,000 µs. -/
def bankBad (d : Datum) (r : Bytes) : Bool :=
  match (d.recs tySeq).find? fun q => decide (sqFirst q ≤ chEntry r) && decide (chEntry r < sqFirst q + sqCount q) with
  | none => false
  | some q =>
    sqList q != 4 && (boardBank r).isSome && decide (chSettle r < 1000) &&
      (sqFirst q == chEntry r ||
        (match d.chanRec (chEntry r - 1) with | some p => boardBank p != boardBank r || chExbPin p != chExbPin r | none => true))

def probeRules (d : Datum) (legs : Legends) : Rules :=
  rulesOf d tyChan (fun i r =>
    let tone := entryList d r == some 4
    let ks := toneKs (chFmask r)
    [(linTargetBad d legs r, 0x0620),
     (compBad d r || decide (1 < u8 r 28), 0x0622),
     (tone && (toneBad r || (chMode r == 0 && decide (ks.length < 2)) || ks.isEmpty), 0x0623),
     (tone && chMode r == 0 &&
        (match d.cellRec (chEntry r) with | some c => ks.any (fun k => decide (clB0 c k ≤ 0)) | none => true), 0x0624),
     (chRef r == 1 && ((d.recs tyChan).take i).any (fun q =>
        chRef q == 1 && (entryList d q).isSome && (entryList d r).isSome && entryList d q != entryList d r), 0x0626),
     (bankBad d r, 0x0627)]) ++
  [bad (decide (64 < (d.recs tyLin).length)) 0x0621 tyLin 64] ++
  rulesOf d tyLin (fun _ r => [(linBad r, 0x0621)]) ++
  rulesOf d tyChkHdr (fun _ r => [(u16 r 0 != 0 && out (u16 r 0) 10 3600, 0x0625)]) ++
  [bad (decide (64 < (d.recs tyChkRec).length)) 0x0625 tyChkRec 64] ++
  rulesOf d tyChkRec (fun _ r =>
    [([ckPin r, ckPartner r].any (fun p => !((d.recs tyChan).any fun q => (entryPins q).contains p)) || out (ckKind r) 1 2 || decide (ckHi r < ckLo r), 0x0625)])

end Sys2Proof.Machine
end

