-- ==== Sys2Proof/Machine/CheckField.lean ====
section
/-!
DEFINITION. The configuration checker: valves, fans, universal channels, domain F and CAN (09 R271; 10 R296; 11 R316, R317;
12 R340), and the whole check of an image (13 R387).
-/
namespace Sys2Proof.Machine

/-- The channel that a decision output drives (R296, R317). -/
def outputChan (d : Datum) (o : Bytes) : List Chan :=
  let own (ty : Nat) : Bytes := (d.recs ty).getD (outOwner o) []
  if outKind o = 0x0401 then disChan (own tyDryer)
  else if outKind o = 0x0402 then (if hzDemKind (own tyHeat) = 2 then [(0, hzDemCh (own tyHeat))] else [])
  else if outKind o = 0x0403 then [(0, hzPermit (own tyHeat))]
  else if outKind o = 0x0404 then fanChan (own tyDryFan)
  else if outKind o = 0x0405 then elChan (own tyElem)
  else if outKind o = 0x0501 then ((binChans (own tyBinCtl)).drop (outSub o)).take 1
  else []

/-- Decision outputs that name a channel. -/
def named (d : Datum) (c : Chan) : Nat := (((d.recs tyOutput).map (outputChan d)).flatten.filter fun x => x == c).length

/-! Valves. -/

def valveRules (d : Datum) : Rules :=
  rulesOf d tyValve (fun i r =>
    [(decide (15 < vaCh r) || repeats d tyValve i vaCh r || bits (u8 r 1) 7 5 != 0 || vaSafe r == 3 || decide (3 < u8 r 2) ||
        out (vaChop r) 5 50 || out (vaShunt r) 5000 100000 || out (vaTPeakMax r) 1 5000 || decide (5000 < vaDwell r) ||
        decide (2000 < vaDefer r), 0x0710),
     (decide (vaIHold r < vaIHoldMin r) || decide (vaIPeak r < vaIHold r) || decide (vaOcLimit r ≤ vaIPeak r) ||
        decide (vaFull r < vaOcLimit r) || decide (vaTReduce r ≤ vaTWarn r) || decide (vaTCut r ≤ vaTReduce r), 0x0711),
     (!vaEnabled r && (outputRoles d).any (fun q => q.2.2 == (2, vaCh r)), 0x0712)])

/-! Fans. -/

/-- Two skip bands overlap, or one is empty or contains r_start. -/
def skipsBad (r : Bytes) : Bool :=
  let bs := (List.range 4).map fun k => (u16 r (48 + 4 * k), u16 r (50 + 4 * k))
  let used := bs.filter fun b => b.1 != 0 || b.2 != 0
  used.any (fun b => decide (b.2 ≤ b.1) || (decide (b.1 ≤ fnRStart r) && decide (fnRStart r ≤ b.2))) ||
  used.zipIdx.any fun p => (used.take p.2).any fun q => decide (q.1 ≤ p.1.2) && decide (p.1.1 ≤ q.2)

def fanRules (d : Datum) : Rules :=
  rulesOf d tyFan (fun i r =>
    let n := named d (1, fnCh r)
    let ts := (fnTable r).map Prod.fst
    [(decide (11 < fnCh r) || repeats d tyFan i fnCh r || bits (u8 r 1) 7 5 != 0 || decide (2 < fnSource r) || decide (4 < fnPpr r) ||
        decide (3 < fnSafe r) || out (fnBand r) 10 100 || out (fnFsw r) 100 250 || out (fnShunt r) 5000 20000 ||
        out (fnVMax r) 1000 39000 || out (fnILimit r) 500 10000 || fnSlew r == 0 || out (fnTStart r) 5 600 ||
        out (fnTRetry r) 5 3600 || out (fnTblN r) 2 8 || (slice r (68 + 4 * fnTblN r) (4 * (8 - fnTblN r))).any (fun b => b != 0), 0x0810),
     (decide (fnVMax r ≤ fnVStart r) || decide (fnIStall r ≤ fnIOpen r) || decide (fnILimit r < fnIStall r) ||
        decide (fnRMax r < fnRMin r) || decide (fnSlewMax r < fnSlew r) || skipsBad r ||
        (ts.zip (ts.drop 1)).any (fun p => decide (p.2 ≤ p.1)), 0x0811),
     ((fnSource r == 0 && n != 1) || (fnSource r != 0 && n != 0) || (fnSource r == 1 && fnXslot r == 0xFFFF) ||
        (fnHostTable r && fnSource r != 2) ||
        (!fnRef r && (d.recs tyDryer).any (fun q => disChan q == [(1, fnCh r)])), 0x0812)])

/-! Universal channels. -/

/-- Inputs that the records of other chapters name. -/
def inputNames (d : Datum) : List Nat :=
  ((d.recs tyDryer).map (fullName d) ++ (d.recs tyHeat).map hzReady ++ (d.recs tyRoute).map rtStopUio ++
    (d.recs tyElem).map elMotion ++ (d.recs tyElem).map elPosUio).filter fun c => c != 0xFF
/-- Universal outputs that carry a PWM value. -/
def pwmNames (d : Datum) : List Nat :=
  ((d.recs tyDryer).filter fun r => dcDisKind r == 2).map dcDisCh ++ ((d.recs tyHeat).filter fun r => hzDemKind r == 2).map hzDemCh
/-- Universal outputs that carry a level. -/
def levelNames (d : Datum) : List Nat :=
  (((outputRoles d).filter fun q => q.2.2.1 == 0).map fun q => q.2.2.2).filter fun c => !(pwmNames d).contains c

def uioGroupBad (d : Datum) (r : Bytes) : Bool :=
  let role (ch : Nat) : Nat := match d.uioRec ch with | some q => ucRole q | none => 0
  if ucRole r = 4 then
    !((d.recs tyUio).any fun q => ucRole q != 4 && decide (ucCh q < ucCh r) && decide (ucCh r < ucCh q + ucPar q))
  else ucCh r % ucPar r != 0 || (List.range (ucPar r - 1)).any (fun k => role (ucCh r + 1 + k) != 4)

def ratedSum (l : List Bytes) : Nat := ((l.filter ucIsOut).map ucRated).sum

def uioRules (d : Datum) : Rules :=
  rulesOf d tyUio (fun i r =>
    let n := named d (0, ucCh r)
    let upTo := (d.recs tyUio).take (i + 1)
    [(decide (31 < ucCh r) || repeats d tyUio i ucCh r || out (ucRole r) 1 4 || bit (u8 r 2) 7 || ucSafe r == 3 ||
        !([1, 2, 4].contains (ucPar r)) || decide (4 < ucSperiod r) || decide (2 < ucSource r) || (ucIsIn r && ucCeil r == 0) ||
        (ucIsOut r && (out (ucRated r) 1 (500 * ucPar r) || out (ucOlTime r) 1 100)), 0x0910),
     (uioGroupBad d r, 0x0911),
     (ucIsOut r && (decide (3000 < ratedSum (upTo.filter fun q => ucCh q / 8 == ucCh r / 8)) || decide (8000 < ratedSum upTo)), 0x0912),
     ((ucIsPwm r && (ucSource r != 0 || ucSafe r != 0 || ucPar r != 1)) ||
        (ucIsOut r && ((ucSource r == 0 && n != 1) || (ucSource r != 0 && n != 0) ||
          (ucSource r == 2 && !((d.recs tyContour).any fun c => bit (coUioOn c) (ucCh r))))) ||
        (ucIsOut r && (inputNames d).contains (ucCh r)) || (!ucIsPwm r && (pwmNames d).contains (ucCh r)) ||
        (ucRole r != 2 && (levelNames d).contains (ucCh r)) ||
        (!ucIsOut r && (d.recs tyContour).any (fun c => bit (coUioOn c) (ucCh r))), 0x0913)]) ++
  rulesOf d tyDomF (fun _ _ =>
    [(out d.uvWarn 9000 32000 || out d.uvOff 8000 20000 || decide (d.uvWarn ≤ d.uvOff + 1000), 0x0914)])

/-! CAN. -/

def nomBit (r : Bytes) : Nat := cnNbrp r * (1 + cnNseg1 r + cnNseg2 r)
def datBit (r : Bytes) : Nat := cnDbrp r * (1 + cnDseg1 r + cnDseg2 r)

/-- The channel record's fields and bit times (Table 12-1, R339, R340). A classical channel has no data phase. -/
def canTimingBad (r : Bytes) : Bool :=
  out (cnMode r) 1 3 || bits (u8 r 2) 7 6 != 0 || out (cnNbrp r) 1 32 || out (u8 r 5) 1 128 || out (cnNseg1 r) 2 256 ||
  out (cnNseg2 r) 2 128 ||
  (cnMode r != 1 && (out (cnDbrp r) 1 32 || out (cnDseg1 r) 1 32 || out (cnDseg2 r) 1 16 || out (u8 r 12) 1 16 || decide (63 < u8 r 13))) ||
  out (nomBit r) 80 640 || (cnMode r == 2 && (out (datBit r) 10 80 || (!cnSic r && decide (datBit r < 16))))

def filterBad (r : Bytes) : Bool :=
  decide (63 < flIdx r) || decide (3 < u8 r 1) || decide (31 < flBuffer r) || bits (flFlags r) 7 5 != 0 || bits (flFlags r) 3 2 == 3 ||
  decide (2 ^ 29 ≤ flId r) || decide (2 ^ 29 ≤ flMask r) || (flPeriod r != 0 && flBurst r == 0)

def signalBad (r : Bytes) : Bool :=
  let n := u8 r 2 % 8
  !([1, 2, 4].contains n) || bits (u8 r 2) 6 3 != 0 || bits (u8 r 3) 7 2 != 0 || decide (64 < sgStart r + n) || decide (63 < sgFilter r)

/-- F: decision outputs whose frames the channel carries. -/
def canF (d : Datum) (ch : Nat) : Nat :=
  ((d.recs tyHeat).filter fun r => hzDemKind r == 1 && hzDemCh r == ch).length +
  ((d.recs tyDryer).filter fun r => dcDisKind r == 3 && dcDisCh r == ch).length

def partnerOf (ch : Nat) : Nat := if ch % 2 = 0 then ch + 1 else ch - 1

def canRules (d : Datum) : Rules :=
  rulesOf d tyCan (fun i r =>
    let fs := d.run tyFilter (cnFilterBase r) (cnFilters r)
    let twice (key : Bytes → Nat) (l : List Bytes) : Bool := l.zipIdx.any fun p => (l.take p.2).any fun q => key q == key p.1
    [(decide (3 < cnCh r) || repeats d tyCan i cnCh r || canTimingBad r, 0x0A10),
     (decide (64 < cnFilters r) || fs.length != cnFilters r || twice flIdx fs || twice flBuffer (fs.filter flBuf) ||
        fs.any (fun f => !bit (flFlags f) 0 && cableIdClash d (cnCh r) (flId f)), 0x0A11),
     (decide (256 < cnSignals r) || (d.run tySignal (cnSignalBase r) (cnSignals r)).length != cnSignals r, 0x0A12),
     (cnPair r && !((d.recs tyCan).any fun q => cnCh q == partnerOf (cnCh r) && cnPair q), 0x0A14),
     (decide (14 < canF d (cnCh r)) || decide (30 < cnHostMax r) || (cnHostMax r != 0 && decide (30 - 2 * canF d (cnCh r) < cnHostMax r)), 0x0A15)]) ++
  rulesOf d tyFilter (fun _ r => [(filterBad r, 0x0A11)]) ++
  rulesOf d tySignal (fun _ r => [(signalBad r, 0x0A12)]) ++
  rulesOf d tyCanCmd (fun i r =>
    [(decide (3 < u8 r 0) || repeats d tyCanCmd i (fun q => u8 q 0) r || decide (0x7FF < u16 r 2) || decide (0x7FF < u16 r 4) ||
        u16 r 2 == u16 r 4 || !((d.recs tyCan).any fun q => cnCh q == u8 r 0 && cnMode q == 2) ||
        cableIdClash d (u8 r 0) (u16 r 2) || cableIdClash d (u8 r 0) (u16 r 4), 0x0A13)])

/-! The whole check. -/

/-- The configuration checks of a Datum against the Legends of the store, in the order of R387. -/
def checkRecords (d : Datum) (legs : Legends) : Option Bad :=
  (firstBad (sourceRules d)).or <| (firstBad (globalsRules d)).or <| (firstBad (outputRules d)).or <|
  (firstBad (mapRules d legs)).or <| (firstBad (fusionRules d)).or <| (firstBad (dryerRules d legs)).or <|
  (firstBad (routeRules d)).or <| (firstBad (superRules d)).or <| (firstBad (storageRules d legs)).or <|
  (firstBad (senseRules d)).or <| (rateBad d).or <| (firstBad (probeRules d legs)).or <| (firstBad (valveRules d)).or <|
  (firstBad (fanRules d)).or <| (firstBad (uioRules d)).or (firstBad (canRules d))

/-- An image: its header and directory, then its records. -/
def checkImage (img : Bytes) (plen : Nat) (legs : Legends) : Option Bad :=
  match checkHeader img plen with
  | some b => some b
  | none => checkRecords (datumOf img) legs

end Sys2Proof.Machine
end

