-- ==== Sys2Proof/Machine/Dies.lean ====
section
/-!
DEFINITION. The far dies as a command or a link frame meets them: their local copy of the Meridian, their record queues,
and the change of a die's state with the reports it makes (01 R13, R16, R17, R541, R542; 09 R289; 10 R306; 11 R328).
-/
namespace Sys2Proof.Machine

/-- A far die's local copy of Meridian bits 43:20 at an instant (R17). -/
def dieShort (x : FarLink) (t : Nat) : Nat := ((((x.short * 2 ^ 20 : Nat) : Int) + t - x.at') / 1048576 % 16777216).toNat
/-- The same at full length. -/
def State.dieNow (s : State) (k : Nat) : Nat := rebuildStamp s.now (dieShort (s.far k) s.now)

/-- A record enters a far die's output queue; a full queue discards it and counts it (R541, R542, 07 R238). -/
def pushRec (k t : Nat) (b : RecBody) (s : State) : State :=
  let x := s.far k
  if 64 ≤ x.queue.length then s.setFar k { x with drops := sat 0xFFFFFFFF (x.drops + 1) }
  else s.setFar k { x with recNo := (x.recNo + 1) % 256, queue := x.queue ++ [{ num := x.recNo, short := dieShort x t, body := b, took := t, sent := none }] }
def pushRecs (k t : Nat) (l : List RecBody) (s : State) : State := l.foldl (fun a b => pushRec k t b a) s

/-- The SENSE die changes and sends records. -/
def putSense (q : SenseSt × List RecBody) (s : State) : State := pushRecs 0 s.now q.2 { s with sense := q.1 }
def onSense (f : SenseSt → SenseSt) (s : State) : State := { s with sense := f s.sense }

/-- The oldest result is released; its records carry the stamp of its conversion's end (07 R234). -/
def senseRelease (s : State) : State :=
  let at' := releaseStamp s.sense
  let q := Sys2Proof.Machine.resultRelease s.now s.sense
  pushRecs 0 at' q.2 { s with sense := q.1 }
/-- Every result whose release has come is released: before a clear or a linearisation copy of the same cycle (07 R245, 08 R258). -/
def releaseDue (s : State) : State := s.sense.pend.foldl (fun a _ => senseRelease a) s

/-- What the fan rules read of the POWER die's link (10 R297, R300). -/
def State.fanEnv (s : State) : FanEnv := { now := s.now, loc := s.dieNow 1, linkUp := (s.far 1).up && (s.far 1).lease.isNone, safe := (s.far 1).safe }
/-- The POWER die changes: fans follow their targets, lifetime counters count, reports go out. -/
def putPower (p : PowerSt) (s : State) : State :=
  let q := (fansWake s.fanEnv p).setPoints.outputs
  pushRecs 1 s.now (valveReports s.power q ++ fanReports s.power q) { countPower s.power q s with power := q }
def onPower (f : PowerSt → PowerSt) (s : State) : State := putPower (f s.power) s

/-- The IO die changes, with samples that it sends. -/
def putIo (q : IoSt × List RecBody) (s : State) : State :=
  let p := uioSettle s.now (s.far 2).safe q.1
  let s1 := countIo s.now (s.far 2).safe (s.far 2).safe s.io p s
  pushRecs 2 s.now (q.2 ++ uioReports s.io p) { s1 with io := p }
def onIo (f : IoSt → IoSt) (s : State) : State := putIo (f s.io, []) s

/-- A command cannot reach a die that is down or whose link is silent in either direction (07 R248, 09 R294, 10 R314, 11 R336). -/
def State.senDown (s : State) : Bool := !s.sense.powered || !s.linkUp 0 || !(s.far 0).up
def State.powDown (s : State) : Bool := (s.far 1).down || !s.linkUp 1 || !(s.far 1).up
def State.ioDown (s : State) : Bool := (s.far 2).down || !s.linkUp 2 || !(s.far 2).up

/-- The running value of a fold over channels: state, channels cleared, a condition still holds. -/
structure Clearing where
  s : State
  n : Nat
  held : Bool

/-- A clear of one channel: `f` answers none where the condition still holds, by an open bit (notes/assumptions/4.md). -/
def clearOne (f : Bool → State → Option (State × Nat)) (x : Clearing) : Clearing :=
  match f x.s.openBit x.s.used with
  | some q => { x with s := q.1, n := x.n + q.2 }
  | none => { x with s := x.s.used, held := true }

/-- A clear of one channel or of all: CLEAR_PRESENT for a single channel whose condition holds. -/
def clearMany (present : Nat) (chs : List Nat) (f : Nat → Bool → State → Option (State × Nat)) (s : State) : Next :=
  let r := chs.foldl (fun a ch => clearOne (f ch) a) { s := s, n := 0, held := false }
  if r.held && chs.length == 1 then refuse present r.s else okResult r.n r.s

end Sys2Proof.Machine
end

