-- ==== Sys2Proof/Machine/FieldCmds.lean ====
section
/-!
DEFINITION. Valves, Fans and Universal IO block commands (09 R289, R294; 10 R297-R300, R304, R307, R314; 11 R326, R331, R336).
Forces and set values are decided with their frame and reach the field at its apply instant.
-/
namespace Sys2Proof.Machine

/-! Status codes (Tables 9-10, 10-9, 11-10). -/
def stVlvChannel : Nat := 0x0701
def stVlvDown : Nat := 0x0702
def stVlvPresent : Nat := 0x0703
def stVlvForce : Nat := 0x0704
def stFanChannel : Nat := 0x0801
def stFanDown : Nat := 0x0802
def stFanSource : Nat := 0x0803
def stFanPresent : Nat := 0x0804
def stFanForce : Nat := 0x0805
def stUioChannel : Nat := 0x0901
def stUioDown : Nat := 0x0902
def stUioPresent : Nat := 0x0903
def stUioSource : Nat := 0x0904
def stUioForce : Nat := 0x0905

/-! Host settings. -/

def FieldSet.fan (f : FieldSet) (ch : Nat) : FanCmd :=
  (f.fans.find? fun c => c.ch == ch).getD { ch, dec := 0, host := 0, force := none, tset := none, table := false }
def FieldSet.putFan (f : FieldSet) (c : FanCmd) : FieldSet := { f with fans := (f.fans.filter fun x => x.ch != c.ch) ++ [c] }
def FieldSet.uio (f : FieldSet) (ch : Nat) : UioCmd :=
  (f.uios.find? fun c => c.ch == ch).getD { ch, dec := 0, host := false, force := none, period := 100 }
def FieldSet.putUio (f : FieldSet) (c : UioCmd) : FieldSet := { f with uios := (f.uios.filter fun x => x.ch != c.ch) ++ [c] }
def FieldSet.putValve (f : FieldSet) (ch : Nat) (v : Option Bool) : FieldSet :=
  { f with valves := match v with | some b => insertKey ch b f.valves | none => eraseKey ch f.valves }
def State.setSets (s : State) (f : FieldSet) : State := { s with field := { s.field with sets := f } }

/-- Channels that a clear names. -/
def clearChs (n : Nat) (byte0 : Nat) : List Nat := if byte0 = 0xFF then List.range n else [byte0]

/-! Valves. -/

def valveChk (c : Cmd) (s : State) : Option Nat := if (s.datum.valveRec (p8 c.d 0)).isSome then none else some stVlvChannel

def vlvStatusResult (v : ValveSt) : Nat := v.state + 256 * v.fault + 65536 * v.warns + 2 ^ 32 * twWord v + 2 ^ 48 * v.moved
def specVlvStatus : Spec := specQuery 0x0701
def vlvStatus (c : Cmd) (s : State) : Next :=
  match valveChk c s with
  | some st => refuse st s
  | none => okResult (vlvStatusResult ((s.links.viewP.valve (p8 c.d 0)).getD (newValve (p8 c.d 0)))) s

def specVlvForce : Spec := specTied 0x0702 true
def vlvForceChk (c : Cmd) (s : State) : Option Nat :=
  match valveChk c s with | some st => some st | none => if 2 < p8 c.d 1 then some stVlvForce else none
def vlvForceEff : Effect := effIf vlvForceChk fun _ c s =>
  if s.powDown then refuse stVlvDown s
  else doneE c (s.setSets (s.field.sets.putValve (p8 c.d 0) (if p8 c.d 1 = 0 then none else some (p8 c.d 1 == 2))))

/-- VLV_CLEAR of one channel at the die. -/
def vlvClearAt (ch : Nat) (holds : Bool) (s : State) : Option (State × Nat) :=
  (valveClear s.now ch holds s.power).map fun q => (putPower q.1 s, q.2)

def specVlvClear : Spec := specPlain 0x0703
def vlvClear (c : Cmd) (s : State) : Next :=
  if p8 c.d 0 ≠ 0xFF ∧ (s.datum.valveRec (p8 c.d 0)).isNone then refuse stVlvChannel s
  else if s.powDown then refuse stVlvDown s
  else clearMany stVlvPresent (clearChs 16 (p8 c.d 0)) vlvClearAt s

def thermBytes (v : ValveSt) : Bytes :=
  leBytes 2 (tempWord v.tw) ++ leBytes 2 (tempWord v.th) ++ leBytes 2 (tempWord v.ta) ++ zeros 2 ++ leBytes 4 v.rm ++ leBytes 4 v.stress
def specVlvTherm : Spec := specQuery 0x0704
def vlvTherm (c : Cmd) (s : State) : Next :=
  match valveChk c s with
  | some st => refuse st s
  | none => if s.powDown then refuse stVlvDown s else answer c (thermBytes ((s.power.valve (p8 c.d 0)).getD (newValve (p8 c.d 0)))) 0 s

/-! Fans. -/

def fanChk (c : Cmd) (s : State) : Option Nat := if (s.datum.fanRec (p8 c.d 0)).isSome then none else some stFanChannel

def fanStatusResult (tab : Bool) (speed : Nat) (f : FanSt) : Nat :=
  f.state + 16 * f.attempts + 256 * f.fault + 65536 * f.warns + 2 ^ 24 * b2n tab + 2 ^ 32 * f.r + 2 ^ 48 * sat 65535 speed
def specFanStatus : Spec := specQuery 0x0801
def fanStatus (c : Cmd) (s : State) : Next :=
  match s.datum.fanRec (p8 c.d 0) with
  | none => refuse stFanChannel s
  | some r =>
    let f := (s.links.viewP.fan (p8 c.d 0)).getD (newFan r)
    okResult (fanStatusResult (fanTabled s.now (s.near 1).farSafe s.links.viewP f) (shownSpeed s.now r f).2 f) s

/-- A fan setting on a channel with a SOURCE. -/
def fanSourceChk (src : Nat) (c : Cmd) (s : State) : Option Nat :=
  match s.datum.fanRec (p8 c.d 0) with
  | none => some stFanChannel
  | some r => if fnSource r = src then none else some stFanSource
def onFan (f : FanCmd → FanCmd) (c : Cmd) (s : State) : Next :=
  if s.powDown then refuse stFanDown s else doneE c (s.setSets (s.field.sets.putFan (f (s.field.sets.fan (p8 c.d 0)))))

def specFanSet : Spec := specTied 0x0802 false
def fanSetEff : Effect := effIf (fanSourceChk 2) fun _ c s => onFan (fun f => { f with host := p16 c.d 2 }) c s

def specFanForce : Spec := specTied 0x0803 true
def fanForceChk (c : Cmd) (s : State) : Option Nat :=
  match fanChk c s with | some st => some st | none => if 1 < p8 c.d 1 then some stFanForce else none
def fanForceEff : Effect := effIf fanForceChk fun _ c s =>
  onFan (fun f => { f with force := if p8 c.d 1 = 0 then none else some (p16 c.d 2) }) c s

/-- A judgement of a channel's fan: of its START window or in RUN. -/
def fanJudged (c : Instr) (s : State) : State :=
  match c with
  | .fanStartWindowEnd _ ch i => onPower (fun p => match p.fan ch with
      | some v => p.setFan (startWindowEnd s.fanEnv p.supplyOff (p.fcmd ch) (p.frec ch) i v) | none => p) s
  | .fanRunJudge _ ch i => onPower (fun p => match p.fan ch with
      | some v => p.setFan (runJudge s.fanEnv p.supplyOff (p.fcmd ch) (p.frec ch) i (tachSilent s.now (p.frec ch) v) v) | none => p) s
  | _ => s
/-- Judgements of the present cycle that still wait in the queue are made before the clear (R308). -/
def fanJudgedFirst (ch : Nat) (s : State) : State :=
  (s.pending.filter fun c => match c with
    | .fanStartWindowEnd t k _ | .fanRunJudge t k _ => s.inCycle t && k == ch
    | _ => false).foldl (fun a c => fanJudged c a) s

/-- FAN_CLEAR of one channel at the die. -/
def fanClearAt (ch : Nat) (holds : Bool) (s0 : State) : Option (State × Nat) :=
  let s := fanJudgedFirst ch s0
  match s.power.fan ch with
  | none => some (s, 0)
  | some f =>
    (fanClear s.fanEnv s.power.supplyOff (s.power.fcmd ch) (s.power.frec ch) holds f).map fun q => (putPower (s.power.setFan q.1) s, q.2)

def specFanClear : Spec := specPlain 0x0804
def fanClearCmd (c : Cmd) (s : State) : Next :=
  if p8 c.d 0 ≠ 0xFF ∧ (s.datum.fanRec (p8 c.d 0)).isNone then refuse stFanChannel s
  else if s.powDown then refuse stFanDown s
  else clearMany stFanPresent (clearChs 12 (p8 c.d 0)) fanClearAt s

def specFanLoopSet : Spec := specTied 0x0805 false
def fanLoopSetEff : Effect := effIf (fanSourceChk 1) fun _ c s => onFan (fun f => { f with tset := some (s16 c.d.params 2) }) c s

/-- The learned bins of every channel at the die (R304). -/
def dieBins (p : PowerSt) : List (Nat × List FanBin) := p.fans.map fun f => (f.ch, f.bins)
/-- LOGIC reads the bins of a POWER die that it reaches and that holds its records, and commits them to the settings area in use; of
any other die it keeps what it has (10 R304). -/
def commitBins (s : State) : State × Bool :=
  match s.areaNo with
  | some k => if s.powDown || !s.power.cfgValid then (s, true) else storeFans k (dieBins s.power) s
  | none => (s, true)

def binBytes (b : FanBin) : Bytes := leBytes 2 (clampI 0 65535 b.l).toNat ++ leBytes 2 (clampI 0 65535 b.s).toNat ++ leBytes 1 b.n ++ zeros 3

def specFanLearn : Spec := specPlain 0x0806
def fanLearn (c : Cmd) (s : State) : Next :=
  let ch := p8 c.d 0
  match s.datum.fanRec ch, s.power.fan ch with
  | none, _ => refuse stFanChannel s
  | some _, none => refuse stFanDown s
  | some _, some f =>
    let out := (f.bins.map binBytes).flatten
    if s.powDown then refuse stFanDown s
    else if fits c.d out = false then refuse stPayloadError s
    else
      let q := commitBins (if bit (p8 c.d 1) 0 then putPower (s.power.setFan { f with bins := noBins }) s else s)
      if q.2 then answer c out 0 q.1 else refuse stNvsWrite q.1

/-! Universal channels. -/

def uioChk (c : Cmd) (s : State) : Option Nat := if (s.datum.uioLead (p8 c.d 0)).isSome then none else some stUioChannel

/-- Level and condition of a channel as UIO_STATUS reports them. -/
def uioShown (now : Nat) (safe : Bool) (p : IoSt) (v : UioSt) : Bool × Nat :=
  if ucIsOut (p.urec v.ch) then (uioOnNow now safe p v, (uioLevel now safe p v).2) else (v.filt, 0)
def uioStatusResult (now : Nat) (safe : Bool) (p : IoSt) (v : UioSt) : Nat :=
  let l := uioShown now safe p v
  v.fault + 256 * v.warns + 65536 * b2n l.1 + 2 ^ 17 * l.2 + 2 ^ 24 * (if bit v.warns 4 then v.partner else 0) +
    2 ^ 32 * sat 65535 (if ucIsOut (p.urec v.ch) then v.cur else v.openCur) + 2 ^ 48 * v.total
def specUioStatus : Spec := specQuery 0x0901
def uioStatus (c : Cmd) (s : State) : Next :=
  match uioChk c s with
  | some st => refuse st s
  | none => okResult (uioStatusResult s.now (s.near 2).farSafe s.links.viewI ((s.links.viewI.chan (p8 c.d 0)).getD (newUio (p8 c.d 0)))) s

def specUioSet : Spec := specTied 0x0902 false
def uioSetChk (c : Cmd) (s : State) : Option Nat :=
  match s.datum.uioLead (p8 c.d 0) with
  | none => some stUioChannel
  | some r => if ucIsOut r ∧ ucSource r = 1 then none else some stUioSource
def onUio (f : UioCmd → UioCmd) (c : Cmd) (s : State) : Next :=
  if s.ioDown then refuse stUioDown s else doneE c (s.setSets (s.field.sets.putUio (f (s.field.sets.uio (p8 c.d 0)))))
def uioSetEff : Effect := effIf uioSetChk fun _ c s => onUio (fun u => { u with host := p8 c.d 1 != 0 }) c s

def specUioForce : Spec := specTied 0x0903 true
def uioForceChk (c : Cmd) (s : State) : Option Nat :=
  match s.datum.uioLead (p8 c.d 0) with
  | none => some stUioChannel
  | some r => if 2 < p8 c.d 1 ∨ ucIsOut r = false then some stUioForce else none
def uioForceEff : Effect := effIf uioForceChk fun _ c s =>
  onUio (fun u => { u with force := if p8 c.d 1 = 0 then none else some (p8 c.d 1 == 2) }) c s

/-- UIO_CLEAR of one channel at the die. -/
def uioClearAt (ch : Nat) (holds : Bool) (s : State) : Option (State × Nat) :=
  (uioClear ch holds s.io).map fun q => (putIo (q.1, []) s, q.2)

def specUioClear : Spec := specPlain 0x0904
def uioClearCmd (c : Cmd) (s : State) : Next :=
  if p8 c.d 0 ≠ 0xFF ∧ (s.datum.uioLead (p8 c.d 0)).isNone then refuse stUioChannel s
  else if s.ioDown then refuse stUioDown s
  else clearMany stUioPresent (clearChs 32 (p8 c.d 0)) uioClearAt s

/-- A segment supply's voltage is measured when it is asked for; nothing else in the model holds it: an open value. -/
def segVolts (s : State) : Nat := (s.open' % 65536).toNat
def supplyBytes (s : State) : Bytes :=
  let v := segVolts s
  let b := segVolts s.used
  let c := segVolts s.used.used
  let d := segVolts s.used.used.used
  let sums := (List.range 4).map fun k => sat 65535 (segSum s.io k)
  leBytes 2 s.io.vfld ++ leBytes 2 v ++ leBytes 2 b ++ leBytes 2 c ++ leBytes 2 d ++ (sums.map (leBytes 2)).flatten ++
    leBytes 2 (sat 65535 (sumN ((List.range 4).map (segSum s.io)))) ++ zeros 4

def specUioSupply : Spec := specQuery 0x0905
def uioSupply (c : Cmd) (s : State) : Next :=
  if s.ioDown then refuse stUioDown s else answer c (supplyBytes s) 0 s.used.used.used.used

/-! Meanings of the rows. -/

def execVlvStatus (t : Nat) (d : Desc) (s : State) := run t (command specVlvStatus vlvStatus d) s
def execVlvForce (t : Nat) (d : Desc) (s : State) := run t (command specVlvForce (tieIf vlvForceChk) d) s
def execVlvClear (t : Nat) (d : Desc) (s : State) := run t (command specVlvClear vlvClear d) s
def execVlvTherm (t : Nat) (d : Desc) (s : State) := run t (command specVlvTherm vlvTherm d) s
def execFanStatus (t : Nat) (d : Desc) (s : State) := run t (command specFanStatus fanStatus d) s
def execFanSet (t : Nat) (d : Desc) (s : State) := run t (command specFanSet (tieIf (fanSourceChk 2)) d) s
def execFanForce (t : Nat) (d : Desc) (s : State) := run t (command specFanForce (tieIf fanForceChk) d) s
def execFanClear (t : Nat) (d : Desc) (s : State) := run t (command specFanClear fanClearCmd d) s
def execFanLoopSet (t : Nat) (d : Desc) (s : State) := run t (command specFanLoopSet (tieIf (fanSourceChk 1)) d) s
def execFanLearn (t : Nat) (d : Desc) (s : State) := run t (command specFanLearn fanLearn d) s
def execUioStatus (t : Nat) (d : Desc) (s : State) := run t (command specUioStatus uioStatus d) s
def execUioSet (t : Nat) (d : Desc) (s : State) := run t (command specUioSet (tieIf uioSetChk) d) s
def execUioForce (t : Nat) (d : Desc) (s : State) := run t (command specUioForce (tieIf uioForceChk) d) s
def execUioClear (t : Nat) (d : Desc) (s : State) := run t (command specUioClear uioClearCmd d) s
def execUioSupply (t : Nat) (d : Desc) (s : State) := run t (command specUioSupply uioSupply d) s

end Sys2Proof.Machine
end

