-- ==== Sys2Proof/Machine/SenseCmds.lean ====
section
/-!
DEFINITION. Sensors block commands (07 R228, R237, R245, R248; 08 R255-R268).
-/
namespace Sys2Proof.Machine

/-! Status codes (Tables 7-13, 8-14). -/
def stSenEntry : Nat := 0x0601
def stSeqIndex : Nat := 0x0602
def stSeqTrigger : Nat := 0x0603
def stSeqTooSoon : Nat := 0x0604
def stSeqBusy : Nat := 0x0605
def stCswIndex : Nat := 0x0606
def stCswNotLatched : Nat := 0x0607
def stCswActive : Nat := 0x0608
def stSenDown : Nat := 0x0609
def stLinTarget : Nat := 0x0620
def stNotTone : Nat := 0x0628
def stPinUnused : Nat := 0x0629

/-! Queries. -/

/-- The latest result of an entry as a sample record; zeros beside the source before the first result. -/
def latestRec (s : State) (r : Bytes) : Bytes :=
  match lookupKey (chEntry r) s.senLog.latest with
  | some x => sampleRec (mkSample x.1 (chSrc r) x.2.1 x.2.2)
  | none => sampleRec (mkSample 0 (chSrc r) 0 0)

def specSenRead : Spec := specQuery 0x0601
def senRead (c : Cmd) (s : State) : Next :=
  match s.datum.chanRec (p8 c.d 0) with
  | some r => answer c (latestRec s r) 0 s
  | none => refuse stSenEntry s

def specCswRead : Spec := specQuery 0x0604
def cswRead (_ : Cmd) (s : State) : Next := okResult s.senLog.active s

def senCountsResult (l : SenLog) : Nat := l.skipped + 65536 * l.opens + 2 ^ 32 * sat 65535 l.discard + 2 ^ 48 * l.checks
def specSenCounts : Spec := specQuery 0x0605
def senCounts (_ : Cmd) (s : State) : Next := okResult (senCountsResult s.senLog) s

/-- One pin of CHECK_READ. -/
def pinBytes (s : State) (n : Nat) : Bytes :=
  let base := leBytes 4 ((lookupKey n ((s.area.base.body).getD [])).getD 0)
  let rec' := 2 * b2n (s.datum.chkRec n).isSome
  match s.senLog.pins.find? fun p => p.pin == n with
  | some p => leBytes 1 p.outcome ++ leBytes 1 (b2n p.faulted + rec') ++ zeros 2 ++ leBytes 4 p.rl ++ leBytes 4 p.ri ++ base
  | none => zeros 1 ++ leBytes 1 rec' ++ zeros 10 ++ base

def specCheckRead : Spec := specQuery 0x0623
def checkRead (c : Cmd) (s : State) : Next := answer c ((List.range 64).map (pinBytes s)).flatten 0 s

/-! SEQ_REQUEST (R228). -/

/-- The sequence runs, is due, or has been requested. -/
def seqBusy (s : State) (i : Nat) (r : Bytes) : Bool :=
  s.senLog.requests.contains i || (s.sense.seq i).due || (s.sense.pass (sqList r)).any fun p => p.seq == i
/-- Within PERIOD of the previous start. -/
def seqTooSoon (s : State) (i : Nat) (r : Bytes) : Bool :=
  match (s.sense.seq i).lastStart with
  | some a => decide (s.now < a + sqPeriod r * 2 ^ 20)
  | none => false

def specSeqRequest : Spec := specPlain 0x0602
def seqRequest (c : Cmd) (s : State) : Next :=
  let i := p8 c.d 0
  match s.datum.seqRec i with
  | none => refuse stSeqIndex s
  | some r =>
    if sqTrig r ≠ 3 then refuse stSeqTrigger s
    else if s.senDown then refuse stSenDown s
    else if seqBusy s i r then refuse stSeqBusy s
    else if seqTooSoon s i r then refuse stSeqTooSoon s
    else .wait { s with senLog := { s.senLog with requests := s.senLog.requests ++ [i] } } c

/-! CSW_CLEAR (R245): the clear goes with the next ILS frame and is decided at the die. -/

def specCswClear : Spec := specPlain 0x0603
def cswClear (c : Cmd) (s : State) : Next :=
  let n := p8 c.d 0
  if (s.datum.cswRec n).isNone then refuse stCswIndex s
  else if s.senDown then refuse stSenDown s
  else .wait { s with senLog := { s.senLog with clears := s.senLog.clears ++ [n] } } c

/-- Status of a clear that reaches the die. -/
def cswClearStatus (n : Nat) (x : SenseSt) : Nat :=
  match x.csws.find? fun k => k.csw == n with
  | none => stCswIndex
  | some k => if !(k.active && k.latched) then stCswNotLatched else if k.deact then stOk else stCswActive

/-! Tone entries (08 R268). -/

/-- The channel record of a tone entry. -/
def toneRec (s : State) (e : Nat) : Nat ⊕ Bytes :=
  match s.datum.chanRec e with
  | none => .inl stSenEntry
  | some r => if s.datum.listOf e = some 4 then .inr r else .inl stNotTone

def spectrumBytes (ent : EntSt) (r : Bytes) : Bytes :=
  ((List.range 8).map fun k =>
    let x := rowAt ent.rows k
    leBytes 8 (ofS 64 x.g) ++ leBytes 8 (ofS 64 x.b) ++ leBytes 2 (trimTg k ent.tia).toNat ++ leBytes 2 (ofS 16 (trimTc k ent.tia)) ++
      leBytes 2 (ofS 16 (trimTs k ent.tia)) ++ leBytes 2 (b2n (bit (chFmask r) k) + 2 * b2n x.overrange)).flatten

def specMoistSpectrum : Spec := specQuery 0x0620
def moistSpectrum (c : Cmd) (s : State) : Next :=
  match toneRec s (p8 c.d 0) with
  | .inl st => refuse st s
  | .inr r => if s.senDown then refuse stSenDown s else answer c (spectrumBytes ((s.sense.ent (chEntry r)).getD (newEnt r none)) r) 0 s

def newEmpty (e : Nat) : EmptyRun :=
  { entry := e, seq := 0, active := false, n := 0, g := List.replicate 8 0, b := List.replicate 8 0, done := false }

def specMoistEmpty : Spec := specPlain 0x0621
def moistEmpty (c : Cmd) (s : State) : Next :=
  match toneRec s (p8 c.d 0) with
  | .inl st => refuse st s
  | .inr r =>
    if chMode r ≠ 0 then refuse stNotTone s
    else if s.senDown then refuse stSenDown s
    else if c.d.plen < 64 then refuse stPayloadError s
    else .wait (onSense (fun x => { x with empties := (x.empties.filter fun e => e.entry != chEntry r) ++ [newEmpty (chEntry r)] }) s) c

/-- B0 and G0 of the mean, as bytes 4 to 67 of Table 8-3. -/
def emptyBytes (e : EmptyRun) : Bytes :=
  ((List.range 8).map fun k =>
    leBytes 4 (ofS 32 (satS 32 (divr (e.b.getD k 0) (256 * e.n : Nat)))) ++ leBytes 4 (ofS 32 (satS 32 (divr (e.g.getD k 0) (256 * e.n : Nat))))).flatten

/-- MOIST_EMPTY ends with the pass of its entry. -/
def finishEmpty (c : Cmd) (s : State) : State :=
  match s.sense.empties.find? fun e => e.entry == p8 c.d 0 with
  | none => finish c stSenDown 0 0 s
  | some e =>
    if e.done then
      finish c stOk 0 e.n (putData c.d (emptyBytes e) (onSense (fun x => { x with empties := x.empties.filter fun y => y.entry != e.entry }) s))
    else s

/-! Checks (08 R262-R266). -/

def specCheckRun : Spec := specPlain 0x0622
def checkRun (c : Cmd) (s : State) : Next :=
  let pin := p8 c.d 0
  match (s.datum.recs tyChan).find? fun r => (entryPins r).contains pin with
  | none => refuse stPinUnused s
  | some r =>
    if s.senDown then refuse stSenDown s
    else .wait (onSense (fun x => queueChk (chkFor x pin (partnerFor x r pin) 2) x) s) c

/-- The baselines that a CHECK_BASELINE of a pin, or of all, leaves (R265). -/
def dropBase (pin : Nat) (l : List (Nat × Nat)) : List (Nat × Nat) := if pin = 0xFF then [] else eraseKey pin l
/-- The settings area's baselines follow; nothing is stored where none goes. -/
def storeDropBase (pin : Nat) (s : State) : State :=
  match s.areaNo with
  | some k =>
    let old := (s.area.base.body).getD []
    if dropBase pin old = old then s else (storeBase k (dropBase pin old) s).1
  | none => s

def specCheckBaseline : Spec := specPlain 0x0624
def checkBaseline (c : Cmd) (s : State) : Next :=
  let pin := p8 c.d 0
  if s.senDown then refuse stSenDown s
  else okResult 0 (storeDropBase pin (onSense (fun x => { x with base := dropBase pin x.base }) s))

/-! LIN_TEST (R255, R256, R268). -/

/-- The density term is that of a Legend moisture block alone (R255). -/
def linTestResult (rec' blk : Bytes) (d : Desc) : Nat :=
  let t := if bit (p8 d 1) 0 then some (s16 d.params 2) else none
  let r := if bit (p8 d 1) 1 && chLinSrc rec' == 2 then some (s32 d.params 4) else none
  match linEval blk (s64 d.params 8) t r with
  | some v => ofS 32 v
  | none => 5 * 2 ^ 32

def specLinTest : Spec := specQuery 0x0625
def linTest (c : Cmd) (s : State) : Next :=
  match s.datum.chanRec (p8 c.d 0) with
  | none => refuse stSenEntry s
  | some r =>
    if s.senDown then refuse stSenDown s
    else if chLinSrc r = 0 then refuse stLinTarget s
    else okResult (linTestResult r ((lookupKey (chEntry r) s.sense.lin).getD []) c.d) s

/-! What the die's way down does to waiting commands (R248). -/

/-- A waiting command of the Sensors block that the die will still answer: its request or clear is to go with a frame, its pass, its
MOIST_EMPTY or its check is to come, or the answer is under way. -/
def senseAwaits (s : State) (c : Cmd) : Bool :=
  let n := p8 c.d 0
  if c.op = 0x0602 then
    s.senLog.requests.contains n || (s.sense.seq n).due || (s.sense.started ++ s.links.viewS.started).any fun p => p.1 == n
  else if c.op = 0x0603 then s.senLog.clears.contains n
  else if c.op = 0x0621 then s.sense.empties.any fun e => e.entry == n
  else if c.op = 0x0622 then
    (s.sense.chkQ ++ (s.sense.chk.map fun c => c.1).toList).any (fun q => q.pin == n && q.origin == 2) ||
      (s.far 0).queue.any fun r => match r.body with | .check p _ _ _ o _ _ => p == n && o == 2 | _ => false
  else true
/-- Those that it will not answer complete with SEN_DOWN. -/
def senseSweep (s : State) : State :=
  (s.cmds.filter fun c => [0x0602, 0x0603, 0x0621, 0x0622].contains c.op && !c.internal && !senseAwaits s c).foldl (fun a c => finish c stSenDown 0 0 a) s
/-- Requests and clears that have not reached the die while it is down or ILS is silent do not reach it. -/
def dropRequests (s : State) : State :=
  if s.senDown then senseSweep { s with senLog := { s.senLog with requests := [], clears := [] } } else senseSweep s

/-! Meanings of the rows. -/

def execSenRead (t : Nat) (d : Desc) (s : State) := run t (command specSenRead senRead d) s
def execSeqRequest (t : Nat) (d : Desc) (s : State) := run t (command specSeqRequest seqRequest d) s
def execCswClear (t : Nat) (d : Desc) (s : State) := run t (command specCswClear cswClear d) s
def execCswRead (t : Nat) (d : Desc) (s : State) := run t (command specCswRead cswRead d) s
def execSenCounts (t : Nat) (d : Desc) (s : State) := run t (command specSenCounts senCounts d) s
def execMoistSpectrum (t : Nat) (d : Desc) (s : State) := run t (command specMoistSpectrum moistSpectrum d) s
def execMoistEmpty (t : Nat) (d : Desc) (s : State) := run t (command specMoistEmpty moistEmpty d) s
def execCheckRun (t : Nat) (d : Desc) (s : State) := run t (command specCheckRun checkRun d) s
def execCheckRead (t : Nat) (d : Desc) (s : State) := run t (command specCheckRead checkRead d) s
def execCheckBaseline (t : Nat) (d : Desc) (s : State) := run t (command specCheckBaseline checkBaseline d) s
def execLinTest (t : Nat) (d : Desc) (s : State) := run t (command specLinTest linTest d) s

end Sys2Proof.Machine
end

