-- ==== Sys2Proof/Machine/Settings.lean ====
section
/-!
DEFINITION. The settings items and the Datum in force: what LEARN, STORE and FANS commit, what SETTINGS_COMMIT clears, and what
a Datum that comes into force changes (16 R439, R440; 13 R387, R543; 03 R86; 04 R126, R135; 06 R208; 10 R304).
-/
namespace Sys2Proof.Machine

/-! Items 2 to 4 (Table 16-5). -/

def learnOf (p : Plant) : Learn :=
  { bias := p.bias, inlets := (p.maps.filter fun m => isDryerKind m.shape.kind).map fun m => (m.shape.num, m.inlet) }
/-- The storage records of the BIN maps, with the last frame (06 R208). -/
def storeRecs (s : State) : List StoreRec :=
  (s.datum.recs tyMap).filterMap fun mr =>
    if mapKind mr = kBin then (s.map (mapNum mr)).map (storeRecOf mr s.lastFrame) else none

/-- One item's commit into the area in use; without an area nothing is committed. -/
def commitLearn (s : State) : State × Bool := match s.areaNo with | some k => storeLearn k (learnOf s.plant) s | none => (s, false)
def commitStore (s : State) : State × Bool := match s.areaNo with | some k => storeStore k (storeRecs s) s | none => (s, false)
def commitFans (bins : List (Nat × List FanBin)) (s : State) : State × Bool :=
  match s.areaNo with | some k => storeFans k bins s | none => (s, false)

/-- The commits of the entry to sleep and before a reset of cause 5 (04 R135, 06 R208, 10 R304). -/
def commitItems (s : State) : State := (commitBins (commitStore (commitLearn s).1).1).1

/-- 7,200 frames have passed since READY or the last such commit (notes/assumptions/42.md). -/
def commitDue (s : State) : Bool :=
  s.awake && s.hif.ready && s.pwr.cycle.isNone && decide (s.pwr.commitAt + 7200 ≤ frameOf s.now)
/-- The commits of every 7,200 frames: STORE in RUN only (04 R135, 06 R208, 10 R304). -/
def periodicCommit (s : State) : State :=
  if commitDue s then
    let s1 := (commitLearn { s with pwr := { s.pwr with commitAt := frameOf s.now } }).1
    (commitBins (if s.pwr.state = 0 then (commitStore s1).1 else s1)).1
  else s

/-- SETTINGS_COMMIT's stores in ascending item number until one fails: the state and the items committed (R440). -/
def commitAll (bins : List (Nat × List FanBin)) (s : State) : State × Nat :=
  match commitLearn s with
  | (s1, false) => (s1, 0)
  | (s1, true) =>
    match commitStore s1 with
    | (s2, false) => (s2, 1)
    | (s2, true) => match commitFans bins s2 with | (s3, ok) => (s3, if ok then 3 else 2)

/-- CLEAR_LEARNED: biases to 0 with BIAS_P0, inlet estimates to their load values, learned bins empty (R440). -/
def clearLearned (s : State) : State :=
  let bias := s.plant.bias.zipIdx.map fun p => { p.1 with b := 0, p := lgBiasP0 (legImg s.imgs p.2) }
  let maps := s.plant.maps.map fun m =>
    match s.mapRecs m.shape.num with
    | some r =>
      let l := loadInlet s.imgs r
      if isDryerKind m.shape.kind then { m with inlet := { m.inlet with est := l.est, pIn := l.pIn, valid := l.valid } } else m
    | none => m
  let s1 := { s with plant := { s.plant with bias := bias, maps := maps } }
  if s.powDown then s1 else onPower (fun p => { p with fans := p.fans.map fun f => { f with bins := noBins } }) s1

/-! A Datum comes into force at the start of the decisions of its E. -/

/-- The plant under a new Datum (03 R86; 13 R543). -/
def plantUnder (d : Datum) (imgs : List Bytes) (p : Plant) : Plant :=
  { p with maps := datumMaps d imgs p.maps, dryers := (d.recs tyDryer).map (fun r => newDryer (p.safeHeld && batchMap d (dcMap r)) r), zones := (d.recs tyHeat).map newZone
           fans := (d.recs tyDryFan).map (fun _ => { val := 0, hold := 0, off := p.safeHeld }), routes := (d.recs tyRoute).map (newRoute d), pulses := []
           bins := (d.recs tyBinCtl).map (newBin d), outs := [], canOut := [] }

/-- A CAN channel under a new Datum: a channel without a record is off (12 Table 12-13). -/
def canUnder (d : Datum) (c : CanCh) : CanCh :=
  match d.canRec c.ch with
  | some _ => { c with state := if c.state = 3 then 0 else c.state, buckets := [] }
  | none => { c with state := 3, recovering := false, fifo := [], rx := [], claim := none, reqs := [], buckets := [] }

/-- BASE and FANS are cleared at a Datum load (16 Table 16-5, 10 R304). -/
def clearDies (k : Nat) (s : State) : State :=
  let s1 := if ((s.areaAt k).base.body).getD [] = [] then s else (storeBase k [] s).1
  if ((s1.areaAt k).fans.body).getD [] = [] then s1 else (storeFans k [] s1).1

def datumGovern (d : Datum) (s0 : State) : State :=
  let s := cutPeriods s0
  let s1 := match s.areaNo with | some k => clearDies k s | none => s
  let s2 := { s1 with store := { s1.store with datum := some d }, plant := plantUnder d s1.imgs s1.plant
                      can := s1.can.map (canUnder d), sto := { s1.sto with nodes := d.nodes.map fun _ => noNode }
                      senLog := { s1.senLog with gains := [], govAt := s1.now }, sense := { senseHold s1.sense with base := [] }
                      power := { s1.power with cfgValid := false, fans := s1.power.fans.map fun f => { f with bins := noBins } }
                      io := { s1.io with cfgValid := false } }
  let s3 := loadMaint d s2
  chainRestart (linRefresh { s3 with frm := { s3.frm with inForce := [], canForce := [] } })

/-- The stored configurations whose frame E is n or earlier come into force: those of one E in the order of their commits, which
stand for their acceptance (02 R57; 03 R116). -/
def configsGovern (n : Nat) (s : State) : State :=
  let due := sortBy (fun a b => decide (waitEff a < waitEff b)) (s.store.waits.filter fun w => decide (waitEff w ≤ n))
  due.foldl (fun a w => match w with | .datum _ d => datumGovern d a | .legend l => legendGovern l a)
    { s with store := { s.store with waits := s.store.waits.filter fun w => decide (n < waitEff w) } }

end Sys2Proof.Machine
end

