-- ==== Sys2Proof/Machine/Update.lean ====
section
/-!
DEFINITION. Firmware update: the container, the delta, download, application and verification, activation, trial,
confirmation and fallback, the staged path, the settings' migration, and what a start does with the boot record (17).
-/
namespace Sys2Proof.Machine

/-! Status codes (Table 17-11). -/
def stUpdHeader : Nat := 0x0D01
def stUpdPart : Nat := 0x0D02
def stUpdType : Nat := 0x0D03
def stUpdLength : Nat := 0x0D04
def stUpdRollback : Nat := 0x0D05
def stUpdBase : Nat := 0x0D06
def stUpdTrialActive : Nat := 0x0D07
def stUpdNoSession : Nat := 0x0D08
def stUpdOffset : Nat := 0x0D09
def stUpdIncomplete : Nat := 0x0D0A
def stUpdBodyDigest : Nat := 0x0D0B
def stUpdDelta : Nat := 0x0D0C
def stUpdImageDigest : Nat := 0x0D0D
def stUpdSignature : Nat := 0x0D0E
def stUpdCosign : Nat := 0x0D0F
def stUpdImage : Nat := 0x0D10
def stUpdNotVerified : Nat := 0x0D11
def stUpdNotTrial : Nat := 0x0D12
def stUpdNotHealthy : Nat := 0x0D13
def stUpdArmed : Nat := 0x0D14
def stUpdBusy : Nat := 0x0D15
def stStageBadHeader : Nat := 0x0D20
def stStageBadOffset : Nat := 0x0D21
def stStageIncomplete : Nat := 0x0D22
def stStageBusy : Nat := 0x0D23

/-! The header (Table 17-1). -/
def hdType (h : Bytes) : Nat := u8 h 8
def hdSec (h : Bytes) : Nat := u16 h 0x0A
def hdFmt (h : Bytes) : Nat := u16 h 0x0C
def hdBuild (h : Bytes) : Nat := u64 h 0x10
def hdBase (h : Bytes) : Nat := u64 h 0x18
def hdBody (h : Bytes) : Nat := u32 h 0x20
def hdImage (h : Bytes) : Nat := u32 h 0x24
def hdImageDigest (h : Bytes) : Bytes := slice h 0x30 32
def hdBodyDigest (h : Bytes) : Bytes := slice h 0x50 32
def hdHash (h : Bytes) : Bytes := slice h 0x70 32
def hdRoot (h : Bytes) : Bytes := slice h 0xC0 64
def hdOwner (h : Bytes) : Bytes := slice h 0x100 64

/-- Offset of the header in its slot, and the largest image (R450). -/
def headerAt : Nat := 0x27F000
/-- Start of a delta body (R450). -/
def deltaBase (body : Nat) : Nat := headerAt - (body + 4095) / 4096 * 4096
/-- Blocks of a body (R451). -/
def blocksOf (body : Nat) : Nat := (body + 4095) / 4096

def headerFormatBad (h : Bytes) : Bool :=
  u32 h 0 != 0x4E4F4D42 || u16 h 4 != 1 || hdHash h != sha256 (h.take 0x70) || u8 h 9 != 0 || u16 h 0x0E != 0 ||
  slice h 0x28 8 != zeros 8 || slice h 0x90 48 != zeros 48

def lengthsBad (h : Bytes) : Bool :=
  let b := hdBody h
  let n := hdImage h
  b == 0 || b % 8 != 0 || n % 8 != 0 || decide (headerAt < b) ||
  (if hdType h = 1 then n != b else decide (deltaBase b < n))

/-- The first failing check of Table 17-5; path 2 is the staged one. -/
def headerCheck (h : Bytes) (path : Nat) (s : State) : Option Nat :=
  if headerFormatBad h then some stUpdHeader
  else if u16 h 6 ≠ 0x9600 then some stUpdPart
  else if hdType h ≠ 1 ∧ (hdType h ≠ 2 ∨ path = 2) then some stUpdType
  else if lengthsBad h then some stUpdLength
  else if hdSec h < s.secFloor then some stUpdRollback
  else if hdType h = 2 ∧ hdBase h ≠ s.boot.build then some stUpdBase
  else if s.boot.state ≠ 1 then some stUpdTrialActive
  else none

/-! Image slots (R450). -/

def slotAddr (k : Nat) : Nat := 0x280000 * k
def slotMem (k : Nat) (s : State) : List Host.Cell := if k = 0 then s.upd.slotA else s.upd.slotB
/-- Bytes of a slot; slot A may still hold the factory image (notes/assumptions/16.md). -/
def slotRead (k a n : Nat) (s : State) : Bytes :=
  if k = 0 ∧ s.upd.factoryA = true then (List.range n).map fun i => Config.factoryByte (a + i) else memRead (slotMem k s) a n
/-- An uncorrectable word in a range of a slot. -/
def slotUe (k a n : Nat) (s : State) : Option Nat :=
  s.nvs.ueWords.find? fun w => decide (slotAddr k + a ≤ w) && decide (w < slotAddr k + a + n)
/-- A write into a slot, read back; the first one into slot A ends what the factory left there. -/
def slotWrite (k a : Nat) (b : Bytes) (s : State) : State × Bool :=
  let q := writeRange (slotAddr k + a) b.length s
  let s1 := q.1
  ({ s1 with upd := if k = 0 then { s1.upd with slotA := memWrite s1.upd.slotA a b, factoryA := false }
                    else { s1.upd with slotB := memWrite s1.upd.slotB a b } }, q.2)
/-- The header stored in a slot. -/
def slotHeader (k : Nat) (s : State) : Bytes := slotRead k headerAt 320 s

/-! The image directory (R448). -/

def imageCompBad (img e : Bytes) : Bool :=
  let o := u32 e 4
  let n := u32 e 8
  decide (img.length < o + n) || crc32 (slice img o n) != u32 e 12

/-- Components 1 to 6 exactly once, and every component's CRC. -/
def directoryBad (img : Bytes) : Bool :=
  let es := (chunks 16 16 (img.take 256)).filter fun e => u16 e 0 != 0
  decide (img.length < 256) || es.any (imageCompBad img) ||
  (List.range 6).any fun k => (es.filter fun e => u16 e 0 == k + 1).length != 1

/-! Signatures (R447). -/

def rootKeyBytes : Bytes := beBytes 64 Config.rootKey
def rootOk (h : Bytes) : Bool := ecdsaOk rootKeyBytes (sha256 (h.take 0xC0)) (hdRoot h)
/-- The co-signature rule in force (15 R426). -/
def ownerOk (h : Bytes) (s : State) : Bool :=
  if s.cosign.require then
    (match s.cosign.key with | some k => ecdsaOk k (sha256 (h.take 0xC0)) (hdOwner h) | none => false)
  else true

/-! The delta (R449). -/

/-- The image that operations write, as far as they are well formed, and whether the delta is whole. `n` bounds the records;
`src` reads the active image, `act` is its length, `want` is IMAGE_LENGTH. -/
def deltaRun (src : Nat → Nat → Bytes) (act want : Nat) : Nat → Bytes → Bytes → Bytes × Bool
  | 0, _, out => (out, false)
  | k + 1, b, out =>
    let op := u8 b 0
    let n := u32 b 4
    let r := b.drop 16
    if b.length < 16 ∨ 3 < op ∨ n % 8 ≠ 0 then (out, false)
    else if op = 0 then (out, r.isEmpty && out.length == want)
    else if want < out.length + n then (out, false)
    else if op = 1 then
      (if u32 b 8 % 8 ≠ 0 ∨ act < u32 b 8 + n then (out, false) else deltaRun src act want k r (out ++ src (u32 b 8) n))
    else if op = 2 then (if r.length < n then (out, false) else deltaRun src act want k (r.drop n) (out ++ r.take n))
    else deltaRun src act want k r (out ++ (List.replicate (n / 8) (slice b 8 8)).flatten)

def applyDelta (body : Bytes) (s : State) (want : Nat) : Bytes × Bool :=
  deltaRun (fun a n => slotRead s.boot.slot a n s) s.boot.len want (body.length / 16 + 1) body []

/-! Stores of the update structures. -/

def storeBoot (b : BootRec) (s : State) : State × Bool :=
  let q := storeTwo placeBoot s.upd.boot b s
  ({ q.1 with upd := { q.1.upd with boot := q.2.1 } }, q.2.2)
def storeFloor (v : Nat) (s : State) : State × Bool :=
  let q := storeTwo placeFloor s.upd.floor v s
  ({ q.1 with upd := { q.1.upd with floor := q.2.1 } }, q.2.2)
def storeSession (x : Session) (s : State) : State × Bool :=
  let q := storeTwo placeSession s.upd.session x s
  ({ q.1 with upd := { q.1.upd with session := q.2.1 } }, q.2.2)
/-- The whole bitmap, and the word of one block's bit. -/
def storeBitmap (v : Nat) (s : State) : State × Bool :=
  let q := writeRange 0x7C2200 80 s
  (if q.2 then { q.1 with upd := { q.1.upd with bitmap := v } } else q.1, q.2)
def storeBit (k : Nat) (s : State) : State × Bool :=
  let q := writeRange (0x7C2200 + k / 64 * 8) 8 s
  (if q.2 then { q.1 with upd := { q.1.upd with bitmap := q.1.upd.bitmap + 2 ^ k } } else q.1, q.2)

/-- Ledger TARGETs of the boot and session records (numbers by notes/assumptions/19.md). -/
def bootTarget : Nat := 0xA100
def sessionTarget : Nat := 0xA101

/-! Download. -/

def otherSlot (s : State) : Nat := 1 - s.boot.slot
/-- Blocks stored and BLOCKS of the session. -/
def beginResult (s : State) : Nat := s.session.blocks + 65536 * blocksStored s
def bitmapFull (s : State) : Bool := blocksStored s == s.session.blocks

/-- The session that a header opens (R450, R453). -/
def newSession (h : Bytes) (path : Nat) (s : State) : Session :=
  { state := 0, path, slot := otherSlot s, blocks := blocksOf (hdBody h), base := if hdType h = 2 then deltaBase (hdBody h) else 0
    hash := hdHash h }

/-- R453: the four stores of a new session. -/
def openSession (h : Bytes) (path : Nat) (s : State) : State × Bool :=
  let x := newSession h path s
  match storeSession x s with
  | (s1, false) => (s1, false)
  | (s1, true) =>
    match storeBitmap 0 s1 with
    | (s2, false) => (s2, false)
    | (s2, true) =>
      match slotWrite x.slot headerAt h s2 with
      | (s3, false) => (s3, false)
      | (s3, true) => storeSession { x with state := 1 } s3

/-- The header is resumed or opens a session. -/
def beginSession (path : Nat) (c : Cmd) (s : State) : Next :=
  let x := s.session
  if x.state ≠ 0 ∧ x.hash = hdHash c.d.data ∧ x.path = path then okResult (beginResult s) s
  else
    let q := openSession c.d.data path s
    if q.2 then okResult (beginResult q.1) q.1 else refuse stNvsWrite q.1

def specUpdBegin : Spec := { specPlain 0x0D02 with need := 320, exact := true }
def updBegin (c : Cmd) (s : State) : Next :=
  if s.upd.applyBusy then refuse stUpdBusy s
  else match headerCheck c.d.data 1 s with
    | some st => refuse st s
    | none => beginSession 1 c s

/-- Bytes of block k of the session's body. -/
def blockLen (k : Nat) (s : State) : Nat := min 4096 (hdBody (slotHeader s.session.slot s) - 4096 * k)

/-- R454: a block's words, then its bit. The answer: the block was there already, or the write's state and success. -/
def putBlock (k : Nat) (b : Bytes) (s : State) : State × Bool :=
  match slotWrite s.session.slot (s.session.base + 4096 * k) b s with
  | (s1, false) => (s1, false)
  | (s1, true) => storeBit k s1

def specUpdBlock : Spec := specPlain 0x0D03
def updBlock (c : Cmd) (s : State) : Next :=
  let k := p16 c.d 0
  if s.upd.applyBusy then refuse stUpdBusy s
  else if s.session.state ≠ 1 ∨ s.session.path ≠ 1 then refuse stUpdNoSession s
  else if s.session.blocks ≤ k ∨ c.d.plen ≠ blockLen k s then refuse stUpdOffset s
  else if bit s.upd.bitmap k then okResult (2 ^ 32) s
  else
    let q := putBlock k c.d.data s
    if q.2 then okResult 0 q.1 else refuse stNvsWrite q.1

/-! Queries. -/

def updStatusResult (s : State) : Nat :=
  s.secFloor + 65536 * s.boot.secVer + 2 ^ 32 * b2n (onTrial s.boot) + 2 ^ 33 * b2n s.upd.healthy +
    2 ^ 34 * (if onTrial s.boot then s.boot.boots else 0) + 2 ^ 36 * s.session.state + 2 ^ 40 * s.boot.slot + 2 ^ 48 * blocksStored s
def specUpdStatus : Spec := specQuery 0x0D01
def updStatus (_ : Cmd) (s : State) : Next := okResult (updStatusResult s) s

def specUpdBitmap : Spec := specQuery 0x0D04
def updBitmap (c : Cmd) (s : State) : Next := answer c (leBytes 80 s.upd.bitmap) (blocksStored s) s

/-! UPD_APPLY (R455). -/

def applyTotal (s : State) : Nat :=
  let h := slotHeader s.session.slot s
  2 * hdImage h + hdBody h

def specUpdApply : Spec := { specPlain 0x0D05 with long := true }
def updApply (c : Cmd) (s : State) : Next :=
  if s.upd.applyBusy then refuse stUpdBusy s
  else if s.session.state ≠ 1 ∨ s.session.path ≠ 1 ∨ bitmapFull s = false then refuse stUpdIncomplete s
  else
    .wait (ledgerMap c.led (fun e => { e with total := applyTotal s }) { s with upd := { s.upd with applyBusy := true } })
      { c with aux := applyTotal s }

/-- An unreadable word of a range is found by the read. -/
def readSlot (k a n : Nat) (s : State) : State × Bool :=
  match slotUe k a n s with
  | some w => (ueFound (regionOf w) w s, false)
  | none => (s, true)

/-- Step 2: a delta writes the image from offset 0; a full body is the image. -/
def buildImage (h : Bytes) (s : State) : State × Option Nat :=
  let x := s.session
  if hdType h = 2 then
    let q := applyDelta (slotRead x.slot x.base (hdBody h) s) s (hdImage h)
    match slotWrite x.slot 0 q.1 s with
    | (s1, false) => (s1, some stNvsWrite)
    | (s1, true) => (s1, if q.2 then none else some stUpdDelta)
  else (s, none)

/-- Steps 3 to 5 over the image in the session's slot. -/
def imageStatus (h : Bytes) (ok : Bool) (s : State) : Option Nat :=
  let img := slotRead s.session.slot 0 (hdImage h) s
  if ok = false ∨ sha256 img ≠ hdImageDigest h then some stUpdImageDigest
  else if rootOk h = false then some stUpdSignature
  else if ownerOk h s = false then some stUpdCosign
  else if directoryBad img then some stUpdImage
  else none

/-- The work of UPD_APPLY up to its completion point, step 6. -/
def applyWork (c : Cmd) (s0 : State) : Next :=
  let s := { s0 with upd := { s0.upd with applyBusy := false } }
  let x := s.session
  let h := slotHeader x.slot s
  let r := readSlot x.slot x.base (hdBody h) s
  if r.2 = false ∨ sha256 (slotRead x.slot x.base (hdBody h) s) ≠ hdBodyDigest h then refuse stUpdBodyDigest (storeBitmap 0 r.1).1
  else match buildImage h r.1 with
    | (s1, some st) => refuse st s1
    | (s1, none) =>
      let q := readSlot x.slot 0 (hdImage h) s1
      match imageStatus h q.2 q.1 with
      | some st => refuse st q.1
      | none =>
        let z := storeSession { x with state := 2 } (ledTarget c.led sessionTarget q.1.upd.session.nextGen q.1)
        if z.2 then .done z.1 stOk c.aux 0 else refuse stNvsWrite z.1

/-! Activation, confirmation, fallback. -/

/-- 100 ms in ticks. -/
def ticks100ms : Nat := 1677722

/-- An ordered reset falls due (19 Table 19-2). -/
def orderReset (at' : Nat) (s : State) : State := { s with pwr := { s.pwr with resetDue := some at', resetCause := 5 } }

/-- The boot record that puts the session's image on trial (R457, R466). -/
def trialRec (window flags : Nat) (s : State) : BootRec :=
  let h := slotHeader s.session.slot s
  let b := s.boot
  { slot := s.session.slot, state := 2, boots := 0, flags, secVer := hdSec h, fmt := hdFmt h, build := hdBuild h, window
    len := hdImage h, digest := hdImageDigest h, prevBuild := b.build, prevSec := b.secVer, prevFmt := b.fmt }

def trialWindow (v : Nat) : Nat := clampN 60 3600 (dflt v 900)

def specUpdActivate : Spec := specCrit 0x0D06
def updActivate (c : Cmd) (s : State) : Next :=
  let fl := p8 c.d 2
  if s.session.state ≠ 2 ∨ s.session.path ≠ 1 then refuse stUpdNotVerified s
  else if bit fl 1 = true ∧ s.armed = true then refuse stUpdArmed s
  else match storeBoot (trialRec (trialWindow (p16 c.d 0)) (2 * b2n (bit fl 0)) s) (ledTarget c.led bootTarget s.upd.boot.nextGen s) with
    | (s1, false) => refuse stNvsWrite s1
    | (s1, true) =>
      let s2 := (storeSession { s1.session with state := 0 } s1).1
      okResult 0 (if bit fl 1 then orderReset (s.now + ticks100ms) s2 else s2)

/-- Confirmation (R463): the state and whether the boot record's store completed. -/
def confirm (s : State) : State × Bool :=
  let b := { s.boot with state := 1, boots := 0 }
  match storeBoot b s with
  | (s1, false) => (s1, false)
  | (s1, true) => (raise 0x0D02 [] (storeFloor b.secVer { s1 with upd := { s1.upd with run := b, trialEnd := none } }).1, true)

def specUpdConfirm : Spec := specCrit 0x0D07
def updConfirm (c : Cmd) (s : State) : Next :=
  if onTrial s.boot = false then refuse stUpdNotTrial s
  else if s.upd.healthy = false then refuse stUpdNotHealthy s
  else match confirm (ledTarget c.led bootTarget s.upd.boot.nextGen s) with
    | (s1, true) => okResult s1.secFloor s1
    | (s1, false) => refuse stNvsWrite s1

/-- The boot record of a fallback: the other slot, CONFIRMED, image and PREV fields swapped (R465). -/
def fallbackRec (b : BootRec) (s : State) : BootRec :=
  let k := 1 - b.slot
  let fac := k == 0 && s.upd.factoryA
  let h := slotHeader k s
  { slot := k, state := 1, boots := 0, flags := 0, secVer := b.prevSec, fmt := b.prevFmt, build := b.prevBuild, window := 0
    len := if fac then Config.factoryLen else hdImage h, digest := if fac then Config.factoryDigest else hdImageDigest h
    prevBuild := b.build, prevSec := b.secVer, prevFmt := b.fmt }

/-- A fallback with a cause: the record, the event, then a reset (R465). -/
def fallBack (cause : Nat) (b : BootRec) (s : State) : State :=
  let s1 := (storeBoot (fallbackRec b s) s).1
  orderReset s.now (raise 0x0D03 (leBytes 1 cause) { s1 with upd := { s1.upd with lastCause := cause, trialEnd := none } })

def specUpdFallback : Spec := specPlain 0x0D08
def updFallback (_ : Cmd) (s : State) : Next :=
  if onTrial s.boot = false then refuse stUpdNotTrial s
  else if s.armed then refuse stUpdArmed s
  else okResult 0 (fallBack 5 s.boot s)

def specUpdCancel : Spec := specPlain 0x0D09
def updCancel (_ : Cmd) (s : State) : Next :=
  if s.upd.applyBusy then refuse stUpdBusy s
  else if s.session.state = 0 then refuse stUpdNoSession s
  else match storeSession { s.session with state := 0 } s with
    | (s1, true) => okResult 0 s1
    | (s1, false) => refuse stNvsWrite s1

/-- The trial window's end (R464). -/
def trialEnd (s : State) : State := if trialOver s then fallBack 1 s.boot s else s

/-- A confirmation that comes at the deciding instant or later finds the fallback in its place (R464). -/
def confirmCommand (d : Desc) (s : State) : State := if trialOver s then trialEnd s else command specUpdConfirm updConfirm d s

/-! The staged path (R466). -/

/-- A staged refusal: RESULT carries the code of the failing check. -/
def stageRefuse (st code : Nat) (s : State) : Next := .done s st 0 code

/-- A session of the other path is open, or an application runs. -/
def stageBusy (s : State) : Bool := s.upd.applyBusy || (s.session.state != 0 && s.session.path == 1)

def specStageBegin : Spec := { specPlain 0x0D10 with need := 320, exact := true }
def stageBegin (c : Cmd) (s : State) : Next :=
  if stageBusy s then stageRefuse stStageBusy 0 s
  else match headerCheck c.d.data 2 s with
    | some st => stageRefuse stStageBadHeader st s
    | none => beginSession 2 c s

def specStageWrite : Spec := specPlain 0x0D11
def stageWrite (c : Cmd) (s : State) : Next :=
  let k := p32 c.d 0 / 4096
  if stageBusy s then stageRefuse stStageBusy 0 s
  else if s.session.state ≠ 1 then stageRefuse stStageBadOffset stUpdNoSession s
  else if p32 c.d 0 % 4096 ≠ 0 ∨ s.session.blocks ≤ k ∨ c.d.plen ≠ blockLen k s then stageRefuse stStageBadOffset stUpdOffset s
  else if bit s.upd.bitmap k then okResult (blocksStored s) s
  else
    let q := putBlock k c.d.data s
    if q.2 then okResult (blocksStored q.1) q.1 else refuse stNvsWrite q.1

def specStageCommit : Spec := specCrit 0x0D12
def stageCommit (c : Cmd) (s : State) : Next :=
  if s.armed then stageRefuse stStageBusy stUpdArmed s
  else if stageBusy s then stageRefuse stStageBusy 0 s
  else if s.session.state ≠ 1 then stageRefuse stStageIncomplete stUpdNoSession s
  else if bitmapFull s = false then stageRefuse stStageIncomplete stUpdIncomplete s
  else match storeBoot (trialRec 900 3 s) (ledTarget c.led bootTarget s.upd.boot.nextGen s) with
    | (s1, false) => refuse stNvsWrite s1
    | (s1, true) => okResult 0 (orderReset (s.now + ticks100ms) s1)

def specStageStatus : Spec := specQuery 0x0D13
def stageStatus (_ : Cmd) (s : State) : Next := okResult (updStatusResult s) s

/-! A start (R458-R460). -/

/-- Step 3: SLOT's image verifies. -/
def verifySlot (b : BootRec) (s : State) : Bool :=
  if (slotUe b.slot 0 b.len s).isSome ∨ (slotUe b.slot headerAt 320 s).isSome then false
  else if b.slot = 0 ∧ s.upd.factoryA = true then decide (s.secFloor ≤ b.secVer)
  else
    let h := slotHeader b.slot s
    let img := slotRead b.slot 0 b.len s
    !headerFormatBad h && rootOk h && ownerOk h s && decide (s.secFloor ≤ hdSec h) && sha256 img == b.digest && !directoryBad img

/-- A session whose SLOT is the active slot is closed. -/
def closeSession (s : State) : State :=
  if s.session.state ≠ 0 ∧ s.session.slot = s.boot.slot then (storeSession { s.session with state := 0 } s).1 else s

def runBy (b : BootRec) (s : State) : State :=
  closeSession { s with upd := { s.upd with run := b, recovery := false, healthy := false, trialEnd := none } }

/-- The boot ROM's work at a start: the record in force, the trial count, verification, fallback, recovery. -/
def bootStart (s0 : State) : State :=
  let s := { s0 with upd := { s0.upd with applyBusy := false } }
  let b := s.bootRec
  if b.state = 2 then
    if 3 < b.boots + 1 then fallBack 2 b s
    else
      let b1 := { b with boots := b.boots + 1 }
      let s1 := (storeBoot b1 s).1
      if verifySlot b1 s1 then runBy b1 s1
      else if bit b1.flags 0 then fallBack 3 b1 (raise 0x0D05 [] s1) else fallBack 3 b1 s1
  else if verifySlot b s then runBy b s
  else if bit b.flags 0 then fallBack 3 b (raise 0x0D05 [] s)
  else
    let b2 := fallbackRec b s
    if verifySlot b2 s then
      let s1 := (storeBoot b2 s).1
      runBy b2 (raise 0x0D03 (leBytes 1 3) { s1 with upd := { s1.upd with lastCause := 3 } })
    else { s with upd := { s.upd with recovery := true } }

/-- R460. -/
def raiseFloor (s : State) : State :=
  if s.boot.state = 1 ∧ s.secFloor < s.boot.secVer then (storeFloor s.boot.secVer s).1 else s

/-! Migration (R461), and the creation of S0 (16 R437). -/

/-- An item converted into the new area: none to convert leaves the new area without one. -/
def migrateItem {α : Type} (get : Area → Two α) (clear : Area → Area) (put : Nat → α → State → State × Bool) (o n : Nat)
    (q : State × Bool) : State × Bool :=
  if q.2 then
    match (get (q.1.areaAt o)).body with
    | some x => put n x q.1
    | none => (q.1.setArea n (clear (q.1.areaAt n)), true)
  else q

/-- The Datum and items 2 to 6, then the AREA item. -/
def migrateInto (o n : Nat) (s : State) : State × Bool :=
  let q0 := migrateItem Area.datum (fun a => { a with datum := noTwo }) storeDatum o n (s, true)
  let q1 := migrateItem Area.learn (fun a => { a with learn := noTwo }) storeLearn o n q0
  let q2 := migrateItem Area.store (fun a => { a with store := noTwo }) storeStore o n q1
  let q3 := migrateItem Area.fans (fun a => { a with fans := noTwo }) storeFans o n q2
  let q4 := migrateItem Area.base (fun a => { a with base := noTwo }) storeBase o n q3
  let q5 := migrateItem Area.plan (fun a => { a with plan := noTwo }) storePlan o n q4
  if q5.2 then storeArea n (s.boot.fmt, s.boot.slot) q5.1 else q5

/-- The area of the image that ran before: it names the other slot and the previous format. -/
def oldArea (s : State) : Option Nat :=
  let b := s.boot
  if areaIs s.store.s0 b.prevFmt (1 - b.slot) then some 0 else if areaIs s.store.s1 b.prevFmt (1 - b.slot) then some 1 else none

/-- The settings of a start: S0 is created at the first start of the device's life, and a trial start migrates. False:
MIGRATION_FAILED. -/
def settleArea (s : State) : State × Bool :=
  if s.areaNo.isSome then (s, true)
  else if onTrial s.boot then
    match oldArea s with
    | none => (s, false)
    | some o =>
      if s.boot.fmt = s.boot.prevFmt ∨ Config.converts s.boot.prevFmt s.boot.fmt = true then migrateInto o (1 - o) s else (s, false)
  else if s.store.s0.area.body = none ∧ s.store.s1.area.body = none then storeArea 0 (s.boot.fmt, s.boot.slot) s
  else (s, true)

/-! HEALTHY (R462). -/

def dieReady (k : Nat) (s : State) : Bool :=
  let cfg := if k = 0 then s.sense.cfgValid else if k = 1 then s.power.cfgValid else s.io.cfgValid
  (k == 0 && !s.sense.powered) || (s.upd.seqRun.getD k false && (cfg || s.store.datum.isNone))

def healthyNow (s : State) : Bool :=
  s.hif.ready && s.areaNo.isSome && (List.range 3).all (fun k => dieReady k s) && s.upd.selfTest &&
  (s.store.datum.isSome || s.area.datum.body.isNone)

/-- HEALTHY is set when its conditions hold; with AUTO_CONFIRM the image confirms at that instant. -/
def healthCheck (s : State) : State :=
  if s.upd.healthy = false ∧ healthyNow s = true then
    let s1 := { s with upd := { s.upd with healthy := true } }
    if onTrial s1.boot ∧ bit s1.boot.flags 1 ∧ !trialOver s1 then (confirm s1).1 else s1
  else s

/-! Meanings of the rows. -/

def execUpdStatus (t : Nat) (d : Desc) (s : State) := run t (command specUpdStatus updStatus d) s
def execUpdBegin (t : Nat) (d : Desc) (s : State) := run t (command specUpdBegin updBegin d) s
def execUpdBlock (t : Nat) (d : Desc) (s : State) := run t (command specUpdBlock updBlock d) s
def execUpdBitmap (t : Nat) (d : Desc) (s : State) := run t (command specUpdBitmap updBitmap d) s
def execUpdApply (t : Nat) (d : Desc) (s : State) := run t (command specUpdApply updApply d) s
def execUpdActivate (t : Nat) (d : Desc) (s : State) := run t (command specUpdActivate updActivate d) s
def execUpdConfirm (t : Nat) (d : Desc) (s : State) := run t (confirmCommand d) s
def execUpdFallback (t : Nat) (d : Desc) (s : State) := run t (command specUpdFallback updFallback d) s
def execUpdCancel (t : Nat) (d : Desc) (s : State) := run t (command specUpdCancel updCancel d) s
def execStageBegin (t : Nat) (d : Desc) (s : State) := run t (command specStageBegin stageBegin d) s
def execStageWrite (t : Nat) (d : Desc) (s : State) := run t (command specStageWrite stageWrite d) s
def execStageCommit (t : Nat) (d : Desc) (s : State) := run t (command specStageCommit stageCommit d) s
def execStageStatus (t : Nat) (d : Desc) (s : State) := run t (command specStageStatus stageStatus d) s
def execTrialWindowEnd (t : Nat) (s : State) := run t (fun s => if s.awake then trialEnd s else s) s

end Sys2Proof.Machine
end

