-- ==== Sys2Proof/Machine/SafeCmds.lean ====
section
/-!
DEFINITION. Safe-state line and power commands of the System block (19 R491, R494-R497, R504; 20 R505-R511, R515).
-/
namespace Sys2Proof.Machine

/-! Status codes (Tables 19-11, 20-9). -/
def stPwrBusy : Nat := 0x0120
def stPwrClock : Nat := 0x0121
def stPwrArmed : Nat := 0x0122
def stPwrCode : Nat := 0x0123
def stPlanRange : Nat := 0x0124
def stSafeNotSet : Nat := 0x0130
def stSafeInputLow : Nat := 0x0131
def stSafeThermal : Nat := 0x0132
def stSafeLinkDown : Nat := 0x0133
def stSafeNoDatum : Nat := 0x0134
def stSafeSuperseded : Nat := 0x0135

/-! The line. -/

/-- The line is released in the decisions of frame n: it clears, and LOGIC's release number rises (20 R511). -/
def releaseLine (n : Nat) (s : State) : State :=
  raise 0x010A (leBytes 8 n)
    { s with safe := { s.safe with set := false, count := 0, release := s.safe.release + 1 }, plant := { s.plant with safeHeld := false, safeSeen := false } }

/-- A far die reports FAR_SAFE. -/
def anyFarSafe (s : State) : Bool := s.links.near.any fun x => x.farSafe
/-- A die is in thermal shutdown: LOGIC, or a bit of THM_STAT.FAR_SHUT. -/
def anyShut (s : State) : Bool := s.pwr.shutdown || (List.range 3).any fun k => (s.pwr.sites.getD (k + 4) siteReset).shut

/-- The first failing check of R510 at acceptance. -/
def releaseBad (s : State) : Option Nat :=
  if s.safe.set = false ∧ anyFarSafe s = false then some stSafeNotSet
  else if s.safe.fsafeLow then some stSafeInputLow
  else if anyShut s then some stSafeThermal
  else if s.linkUp 1 = false ∨ s.linkUp 2 = false then some stSafeLinkDown
  else if s.store.datum.isNone then some stSafeNoDatum
  else if s.rpl.active then some 0x0208
  else none

/-- R510 judges REPLAY last, so the common check leaves it to `releaseBad`. -/
def specSafeRelease : Spec := { specTied opSafeRelease true with query := true }
def safeRelease (c : Cmd) (s : State) : Next := match releaseBad s with | some st => refuse st s | none => waitFrame c s
/-- At the start of the decisions of E (R511). -/
def safeReleaseEffect (n : Nat) (c : Cmd) (s : State) : Next :=
  if c.acc ≤ s.safe.at' then refuse stSafeSuperseded s else okResult n (releaseLine n s)

def specSafeSet : Spec := specPlain 0x0131
def safeSet (_ : Cmd) (s : State) : Next := okResult s.now (setLine 3 s)

def specSafeStatus : Spec := specQuery 0x0132
def safeStatus (_ : Cmd) (s : State) : Next := okResult (safeWord s + 2 ^ 32 * maskOf 3 fun k => (s.near k).farSafe) s

/-! PLAN (19 R494-R496). -/

/-- The 64-byte body (Table 19-4). -/
def planBytes (p : Plan) : Bytes :=
  leBytes 1 p.armed ++ leBytes 1 p.causes ++ leBytes 2 p.delay ++ leBytes 2 p.secVer ++ zeros 2 ++ padTo 32 p.hash ++ zeros 24

def specPlanSet : Spec := specCrit 0x0122
def planSet (c : Cmd) (s : State) : Next :=
  let delay := p16 c.d 2
  let causes := p8 c.d 1
  if delay < 20 ∨ 7200 < delay ∨ 64 ≤ causes then refuse stPlanRange s
  else match s.areaNo with
    | none => refuse stNvsWrite s
    | some k =>
      let g := (s.areaAt k).plan.nextGen
      let q := storePlan k { armed := p8 c.d 0, causes, delay, secVer := s.boot.secVer, hash := configHash s }
        (ledTarget c.led (0x3006 + 0x1000 * k) g s)
      if q.2 then okResult g q.1 else refuse stNvsWrite q.1

def specPlanRead : Spec := specQuery 0x0123
def planRead (c : Cmd) (s : State) : Next := answer c (match s.area.plan.body with | some p => planBytes p | none => zeros 64) 0 s

/-- What READY finds against the plan, numbered by the conditions of R495: ARMED and the cause bit 1, hash 2, trial 3, thermal
shutdown or SUPPLY_OFF 4. -/
def planBad (p : Plan) (s : State) : Option Nat :=
  if p.armed ≠ 1 ∨ s.pwr.cause = 0 ∨ bit p.causes (s.pwr.cause - 1) = false then some 1
  else if p.hash ≠ configHash s then some 2
  else if onTrial s.boot then some 3
  else if anyShut s = true ∨ s.links.viewP.supplyOff = true ∨ s.links.viewI.supplyOff = true then some 4
  else none

/-- R495 at READY. A device without a stored PLAN has no plan to skip. -/
def planAtReady (s : State) : State :=
  match s.area.plan.body with
  | none => s
  | some p =>
    match planBad p s with
    | some k => raise 0x0114 (leBytes 1 k) s
    | none =>
      let e := s.n0 s.now + p.delay
      internalCmd opPlanArm [] e { s with pwr := { s.pwr with plan := some e, planAt := s.now } }

/-- PLAN_ARM in the decisions of its frame: no effect when a cause other than start-up came since READY (R495, R496). -/
def planArmEffect (n : Nat) (_ : Cmd) (s : State) : Next :=
  let s1 := { s with pwr := { s.pwr with plan := none } }
  if s.pwr.planAt ≤ s.safe.at' ∧ ¬(s.safe.first = 1 ∧ s.safe.count = 1) then okResult n s1 else okResult n (releaseLine n s1)

/-! Power states and the ordered reset. -/

/-- What bars a move to WATCH or HALT with PWR_BUSY (R497). -/
def pwrBusy (e : Nat) (s : State) : Bool :=
  s.plant.dryers.any (fun d => d.dis.mode != 0) || s.plant.zones.any (fun z => z.permit) ||
    s.plant.routes.any (fun r => r.state != 0) || s.upd.applyBusy || onTrial s.boot ||
    s.cmds.any (fun c => c.tied && decide (e < c.eff))

def specPwrState : Spec := specTied 0x0120 false
def pwrState (c : Cmd) (s : State) : Next :=
  let st := p8 c.d 0
  if 3 < st ∨ (st ≠ 3 ∧ p32 c.d 4 ≠ 0) then refuse stPwrCode s
  else if st < 2 then waitFrame c s
  else if pwrBusy c.eff s then refuse stPwrBusy s
  else if s.clk.lfProven = false then refuse stPwrClock s
  else waitFrame c { s with pwr := { s.pwr with move := some (st, c.eff), moved := false } }

/-- The move in the decisions of E; WATCH and HALT follow at E's apply instant (R497). -/
def pwrStateEffect (n : Nat) (c : Cmd) (s : State) : Next :=
  let st := p8 c.d 0
  okResult n (if st < 2 then { s with pwr := { s.pwr with state := st } }
    else if st = 3 then { s with pwr := { s.pwr with haltSeconds := p32 c.d 4 } } else s)

def specPwrReset : Spec := specCrit 0x0121
def resetOrder (_ : Cmd) (s : State) : Next :=
  if s.armed then refuse stPwrArmed s else okResult 0 (orderReset (s.now + ticks100ms) s)

/-! Meanings of the rows. -/

def execSafeRelease (t : Nat) (d : Desc) (s : State) := run t (command specSafeRelease safeRelease d) s
def execSafeSet (t : Nat) (d : Desc) (s : State) := run t (command specSafeSet safeSet d) s
def execSafeStatus (t : Nat) (d : Desc) (s : State) := run t (command specSafeStatus safeStatus d) s
def execPlanSet (t : Nat) (d : Desc) (s : State) := run t (command specPlanSet planSet d) s
def execPlanRead (t : Nat) (d : Desc) (s : State) := run t (command specPlanRead planRead d) s
def execPwrState (t : Nat) (d : Desc) (s : State) := run t (command specPwrState pwrState d) s
def execPwrReset (t : Nat) (d : Desc) (s : State) := run t (command specPwrReset resetOrder d) s

end Sys2Proof.Machine
end

