-- ==== Sys2Proof/Machine/Start.lean ====
section
/-!
DEFINITION. Resets of domain L, the boot and READY (01 R27, R544; 02 R45, R63, R70; 13 R384; 14 R411; 16 R444; 17 R458-R464;
18 R470, R476, R483; 19 R490-R496, R504; 20 R507, R513).
-/
namespace Sys2Proof.Machine

/-! What a reset leaves (19 R490, 20 R513). -/

/-- The Time state of domain L returns to its reset values; the count, slew and wall clock stay (R44, R61). -/
def timeAfter (m : Meridian) : Meridian := { m with hiPcie := 0, hiSpi := 0, late := 0, future := 0, ovr := 0, dups := 0 }

/-- A site's registers return to their reset values; a far die keeps its own judgement (R490, R502). -/
def siteAfter (far : Bool) (x : Site) : Site := if far then { x with temp := some 0, peak := 0 } else siteReset

def pwrAfter (cause : Nat) (p : Pwr) : Pwr :=
  { p with state := if cause = 6 then 3 else 0, memKept := false, reset := true, plan := none, planAt := 0, move := none, moved := false
           haltSeconds := if cause = 6 then p.haltSeconds else 0, resetDue := none, resetCause := cause
           wakeSrc := 0, wakeStamp := 0, rails := List.replicate 8 0, railOut := List.replicate 8 0, roundAt := 0
           sites := p.sites.zipIdx.map fun x => siteAfter (decide (4 ≤ x.2)) x.1, throttle := false, shutdown := false
           cycle := none, nextWake := none, renewAt := none }

def nvsAfter (n : Nvs) : Nvs :=
  { n with verifyFail := false, ue := false, bank1Fail := false, lastRegion := 0, scrubBusy := false, ueCnt := 0, ceCnt := 0
           passes := 0, ledSel := 0, ledValid := false, ledData := List.replicate 56 0 }

def updAfter (u : Upd) : Upd :=
  { u with applyBusy := false, recovery := false, healthy := false, trialEnd := none, selfTest := false
           seqRun := [false, false, false], seqRetry := [none, none, none], seqWanted := [true, true, true] }

def gazAfter (g : Gaz) : Gaz :=
  { g with memFail := false, lwFail := false, clearing := false, bHours := 4
           perA := { periodReset (2 ^ 43) with bench := g.perA.bench }
           perB := { periodReset (4 * 3600 * 2 ^ 24) with bench := g.perB.bench }, errs := [0, 0, 0], errRun := [0, 0, 0], csw := 0, inno := [], plen := [] }

/-- External memory kept by R491: the maps and the capture's records up to END. The live state returns from a replay (R513). -/
def plantAfter (kept : Bool) (s : State) : Plant :=
  { plantReset with maps := if kept then (s.rpl.saved.getD s.plant).maps else [] }
def capAfter (kept : Bool) (s : State) : Capture := if kept then (captureEnd 5 s).cap else captureReset

/-- LOGIC's end of a link; what it has reported of the far die's expiries stays reported (01 R18). -/
def nearAfter (x : NearLink) : NearLink := { nearReset with expiries := x.expiries, leases := x.leases, errSeen := x.errSeen }

/-- A reset of domain L. External memory keeps its contents only with the marker (R491); the controller's retained state
outlives a start of cause 6 (14 R409). -/
def resetL (cause : Nat) (s : State) : State :=
  let kept := s.pwr.marker
  { s with
    time := timeAfter s.time, clk := { clocksReset with onRc := s.clk.onRc, lfProven := s.clk.lfProven, rcSpans := s.clk.rcSpans, rcFrom := s.clk.rcFrom }
    frm := framesReset (configHash { s with store := { s.store with datum := none, legGov := List.replicate 15 [] } })
    cap := capAfter kept s, rpl := replayReset, exch := []
    links := { s.links with near := s.links.near.map nearAfter, far := s.links.far.map fun x => { x with wire := [] }
                            viewS := senseUnseen, viewP := powerReset, viewI := ioReset }
    senLog := senLogReset, field := fieldReset, can := (List.range 4).map canReset, plant := plantAfter kept s, svy := svyReset
    sto := stoReset, hif := hifReset, spi := spiReset, cmds := []
    ic := if cause = 6 then s.ic else { icReset with gpl := s.ic.gpl }
    nvs := nvsAfter s.nvs, store := { s.store with datum := none, waits := [], legGov := List.replicate 15 [] }
    upd := updAfter s.upd, gaz := gazAfter s.gaz, pwr := pwrAfter cause s.pwr
    safe := { s.safe with set := true, count := 1, first := 1, last := 1, at' := s.now } }

/-! The ledger (16 R444). -/

/-- Table 16-10. -/
def stRestarted : Nat := 0x0C04

/-- The generation in force of a ledger TARGET (numbers by notes/assumptions/19.md). -/
def targetGen (target : Nat) (s : State) : Nat :=
  let n := target % 4096
  if target = 0x3000 then s.store.s0.datum.gen
  else if target = 0x4000 then s.store.s1.datum.gen
  else if target = 0x3006 then s.store.s0.plan.gen
  else if target = 0x4006 then s.store.s1.plan.gen
  else if target / 4096 = 5 then (match legArea s.store.legs n with | some p => p.2.gen | none => 0)
  else if target = 0xA001 then s.gaz.g0.gen
  else if target = 0xA100 then s.upd.boot.gen
  else if target = 0xA101 then s.upd.session.gen
  else if target = 0xA208 then s.auth.cosign.gen
  else if 0xA200 ≤ target ∧ target < 0xA208 then (s.kslot (target - 0xA200)).key.gen
  else 0

/-- An entry that a start finds: one still ACCEPTED or RUNNING ends. -/
def reconcileOne (n : Nat) (s : State) : State :=
  match s.led n with
  | none => s
  | some e =>
    if e.state = 1 ∨ e.state = 2 then
      if e.target ≠ 0 ∧ targetGen e.target s = e.tgtGen then ledgerPut n { e with state := 3, status := stOk } s
      else ledgerPut n { e with state := 4, status := stRestarted } s
    else s
/-- Every entry, in ascending number. -/
def reconcile (s : State) : State := (List.range 64).foldl (fun a n => reconcileOne n a) s

/-! The Datum at a start (R491, R492). -/

/-- The map after a start: a kept one goes on; without the marker a BIN map waits for its reseed. Inlets return from LEARN. -/
def startMap (old : List GMap) (l : Option Learn) (m : GMap) : GMap :=
  let kept := old.any fun x => sameShape x.shape m.shape
  let m1 := if !kept && m.shape.kind == kBin then { m with invalid := true } else m
  match l with
  | some l => (match lookupKey m.shape.num l.inlets with | some i => if isDryerKind m.shape.kind then { m1 with inlet := i } else m1 | none => m1)
  | none => m1

def startBias (imgs : List Bytes) (l : Option Learn) : List BiasSt :=
  match l with
  | some l => l.bias
  | none => (List.range 15).map fun n => if imgs.getD n [] = [] then biasReset else biasStart (imgs.getD n []) 0

/-- A Datum that the checker accepts at a start is in force: the plant under it, the channels, the nodes, the items. -/
def startDatum (d : Datum) (s : State) : State :=
  let old := s.plant.maps
  let l := s.area.learn.body
  let p := plantUnder d s.imgs s.plant
  linRefresh (loadMaint d
    { s with store := { s.store with datum := some d }, can := s.can.map (canUnder d), sto := { s.sto with nodes := d.nodes.map fun _ => noNode }
             plant := { p with maps := p.maps.map (startMap old l), bias := startBias s.imgs l } })

/-- Of two areas that claim a slot the later generation wins, and the device clears the other's commit word (03 R115). -/
def settleLegends (s : State) : State :=
  (List.range 16).foldl (fun a k =>
    match a.store.legs.getD k none with
    | none => a
    | some x => if (legArea a.store.legs x.slot).any (fun p => p.1 != k) then (clearArea k a).1 else a) s

/-- The stored Datum and Legends at a start (R492). -/
def loadStored (s1 : State) : State :=
  let s0 := settleLegends s1
  let s := { s0 with store := { s0.store with legGov := legImages s0 } }
  match s.area.datum.body with
  | none => { s with plant := { plantReset with bias := startBias s.imgs s.area.learn.body } }
  | some img =>
    match checkImage img img.length s.imgs with
    | some b => raise 0x0115 (leBytes 2 b.code) { s with plant := { plantReset with bias := startBias s.imgs s.area.learn.body } }
    | none => startDatum (datumOf img) s

/-! The boot (R492, Table 19-3). -/

/-- The always-on domain after it lost its power: the count resumes at the floor, the slew is 0, an era opens (02 R44, R45,
R63; 18 Table 18-14). -/
def aoLost (s : State) : State :=
  let f := (s.time.floor.body).getD 0
  let s1 := { s with time := { s.time with acc := max s.time.acc (f * 2 ^ 32), slew := 0, wallValid := false }
                     pwr := { s.pwr with ao := true, haltSr := false, marker := false }, clk := clocksReset
                     gaz := { s.gaz with aoCount := 0, aoFirst := 0, aoLast := 0 } }
  (openEra 2 s1.time.offset s1).1

/-- The work of core M between the boot ROM and READY. -/
def coreStart (s : State) : State :=
  let q := settleArea (raiseFloor (reconcile s))
  let s1 := q.1
  if q.2 then
    let s2 := loadStored s1
    { s2 with frm := { s2.frm with chain := configHash s2 } }
  else fallBack 4 s1.boot (raise 0x0D04 [] s1)

/-- A start of domain L: the safe-state line is set before any link frame, and the boot ROM and core M do their work. -/
def startUp (s0 : State) : State :=
  let p := s0.pwr
  let s1 := hitIf (decide (p.resetCause = 6)) 0x1000 15 { s0 with
    time := { s0.time with asleep := false }
    ic := if p.resetCause = 6 then icRestore s0.now (s0.now - p.sleepAt) s0.ic else s0.ic
    pwr := { p with reset := false, porn := false, pwrEn := true, senseGate := true, cause := p.resetCause, memKept := p.marker, marker := false
                    resetDue := none, haltAt := none }
    safe := { s0.safe with set := true, count := 1, first := 1, last := 1, at' := s0.now } }
  let s2 := if s1.pwr.ao then s1 else aoLost s1
  let s3 := { s2 with gaz := { s2.gaz with next := s2.g0.seqFloor, life := lifeRestore s2, lifeAt := s2.now
                                           secAt := if s1.pwr.ao then s2.gaz.secAt else s2.now / 2 ^ 24
                                           hourAt := s2.now / (3600 * 2 ^ 24) } }
  let s4 := bootStart (raise 0x0109 (leBytes 1 1) (irq 34 s3))
  if s4.upd.recovery ∨ s4.pwr.resetDue ≠ none then s4 else coreStart s4

/-- READY (R492): heartbeat, frames, periods, the plan, the trial. -/
def readyUp (selfTest : Bool) (s0 : State) : State :=
  let s := if s0.pwr.cause = 1 then relock s0 else s0
  let l := s.gaz.life
  let s1 := startPeriods { s with
    hif := { s.hif with ready := true, hbStart := s.now }, frm := { s.frm with next := s.n0 s.now }
    pwr := { s.pwr with commitAt := frameOf s.now }
    upd := { s.upd with selfTest := selfTest
                        trialEnd := if onTrial s.boot then some (s.now + s.boot.window * 2 ^ 24) else none }
    gaz := { s.gaz with life := { l with starts := sat (2 ^ 48 - 1) (l.starts + 1) } } }
  let s2 := benchB 4 (raise 0x0110 (leBytes 1 s1.pwr.cause) s1)
  let s3 := if onTrial s2.boot then raise 0x0D01 [] s2 else s2
  let s4 := if s3.pwr.cause = 6 then raise 0x0116 (leBytes 1 s3.pwr.wakeSrc) s3 else s3
  healthCheck (planAtReady s4)

/-- A far die whose link is up has its sequencer and configuration, or core M has tried (R492); a die that sends no good frame holds up
no start. -/
def dieTried (k : Nat) (s : State) : Bool :=
  !s.linkUp k || dieReady k s || ((s.upd.seqRetry[k]?).join).isSome

/-- A start can reach READY (R492). -/
def canReady (s : State) : Bool :=
  s.awake && !s.hif.ready && !s.upd.recovery && !s.resetNow && (List.range 3).all fun k => dieTried k s

/-! Causes (Table 19-2). -/

/-- A cause whose reset does not wait for PORN: the device starts again at once, unless PORN is low. -/
def warmReset (cause : Nat) (s : State) : State :=
  let s1 := resetL cause s
  if s1.pwr.porn then s1 else startUp s1

/-- VIO18 falls: the always-on domain loses its state as well. -/
def losePower (s : State) : State :=
  let s1 := resetL 1 { s with pwr := { s.pwr with marker := false } }
  { s1 with time := { s1.time with asleep := false }
            pwr := { s1.pwr with porn := true, ao := false, pwrEn := false, haltAt := none }, ic := { s1.ic with latched := [] } }

/-- PORN goes low. In HALT domain L has no power and stays as it is (R488, R498). -/
def pornLow (s : State) : State :=
  if s.pwr.porn then s
  else if s.pwr.reset ∧ s.time.asleep then { s with pwr := { s.pwr with porn := true } }
  else
    let s1 := resetL 2 { s with pwr := { s.pwr with marker := false } }
    { s1 with time := { s1.time with asleep := false }, pwr := { s1.pwr with porn := true } }

/-- The work that R491 lays before a reset of cause 5 and before HALT with HALT_SR. Before READY the items have not changed
since the start, or were not loaded. -/
def beforeReset (s : State) : State := lifeCommit (if s.hif.ready then commitItems s else s)

/-- An ordered reset whose time has come. -/
def orderedReset (s : State) : State :=
  match s.pwr.resetDue with
  | some e => if e ≤ s.now then warmReset 5 ((fun a => { a with pwr := { a.pwr with marker := true } }) (beforeReset s)) else s
  | none => s

/-! Meanings of the rows. -/

def execPowerLoss (t : Nat) (s : State) := run t losePower s
def execPornLow (t : Nat) (s : State) := run t Sys2Proof.Machine.pornLow s
def execSysrstNLow (t : Nat) (s : State) :=
  run t (fun s => if s.pwr.reset then s else
    warmReset 3 { s with pwr := { s.pwr with marker := false }, time := { s.time with asleep := false } }) s
def execWatchdogTimeout (t : Nat) (s : State) :=
  run t (fun s => if s.awake then warmReset 4 { s with pwr := { s.pwr with marker := false } } else s) s
def execOrderedReset (t : Nat) (s : State) := run t (fun s => if s.awake then Sys2Proof.Machine.orderedReset s else s) s
def execPornRelease (t : Nat) (s : State) :=
  run t (fun s => if s.pwr.porn = true ∧ s.pwr.reset = true ∧ s.pwr.state ≠ 3 then startUp s else s) s
def execStartupReady (t : Nat) (selfTest : Bool) (s : State) := run t (fun s => if canReady s then readyUp selfTest s else s) s

end Sys2Proof.Machine
end

