-- ==== Sys2Proof/Machine/Link.lean ====
section
/-!
DEFINITION. The isolation links: frames, sessions, records, silence and leases (01 R12-R25, R541, R542; 07 R237, R238, R244-R246;
08 R266; 20 R509, R511).
-/
namespace Sys2Proof.Machine

/-! The far dies. -/

/-- A die without supply neither sends nor receives. -/
def dieDown (k : Nat) (s : State) : Bool := if k = 0 then !s.sense.powered else (s.far k).down

/-- A die's safe state begins (R18, R23, R30): the cause stays the first one of this safe state (20 R509). The SENSE die has no
outputs and no release: it goes on measuring (07 R238), and its cause is the first one since its power-up
(notes/assumptions/63.md). -/
def enterSafe (k cause : Nat) (s : State) : State :=
  let x := s.far k
  if x.safe then s
  else if k = 0 then s.setFar 0 { x with cause := if x.cause = 0 then cause else x.cause }
  else
    let s1 := s.setFar k { x with safe := true, cause := cause }
    if k = 1 then
      let e := s.fanEnv
      onPower (fun p => valveSafe s.now { p with fans := p.fans.map fun f => fanSafeEntry e p.supplyOff p.cmd.slots (p.fcmd f.ch) (p.frec f.ch) f }) s1
    else onIo (ioSafeEntry s.now) s1

/-- A frame's commands reach the die: levels, edges at a release (09 R293, 20 R512). -/
def applyCmd (k : Nat) (c : FieldCmd) (released : Bool) (s : State) : State :=
  if k = 1 then
    let safe := (s.far 1).safe
    onPower (fun p => let q := { p with cmd := c }; if safe then q else valveLevels s.now c.valves released q) s
  else onIo (fun p => { p with cmd := c }) s

/-- Requests and clears of an ILS frame that are still to be done act at the die (07 R228, R245); they wait for a configuration load
under way (R224). -/
def applyRequests (c : FieldCmd) (s : State) : State :=
  if !s.sense.cfgValid then s else
  let s1 := (c.requests.filter s.senLog.requests.contains).foldl (fun a i =>
    onSense (requestDue a.now i) { a with senLog := { a.senLog with requests := a.senLog.requests.erase i } }) s
  (c.clears.filter s1.senLog.clears.contains).foldl (fun a n =>
    let st := cswClearStatus n a.sense
    let a1 := putSense (cswClearDie n a.sense) { a with senLog := { a.senLog with clears := a.senLog.clears.erase n } }
    match a1.cmds.find? fun q => q.op == 0x0603 && p8 q.d 0 == n with
    | some q => finish q st 0 0 a1
    | none => a1) s1

/-- The records that an acknowledgement covers leave the queue (R16). -/
def ackQueue (ack : Nat) (q : List QRec) : List QRec :=
  if q.any fun r => r.num == ack then (q.dropWhile fun r => r.num != ack).drop 1 else q

/-- A session number other than the die's own: the records kept are numbered from 0 (R541). -/
def takeSession (n : Nat) (x : FarLink) : FarLink :=
  if x.session = n then x
  else { x with session := n, recNo := x.queue.length % 256
                queue := x.queue.zipIdx.map fun p => { p.1 with num := p.2 % 256, sent := none } }

/-- Frames lost between the last one and this one (R15). -/
def seqGap (last : Option Nat) (n : Nat) : Nat := match last with | some q => (n + 31 - q % 16) % 16 | none => 0

/-- A good frame at the far die: errors, local stamp, session, acknowledgement, configuration windows, timer and lease (R13,
R15-R18, R23, R24, R541). The restart by the frame that brings a new TIMEOUT already uses it: its CRC pass is both instants of R24
(notes/assumptions/63.md). -/
def farTake (f : OutFrame) (now : Nat) (x : FarLink) : FarLink :=
  let x := takeSession f.session { x with errs := x.errs + seqGap x.seqIn f.seq, seqIn := some f.seq, short := f.short, at' := now }
  { x with queue := ackQueue f.ack x.queue, timeout := f.timeout, up := true, window := f.window
           timer := if f.lease = 0 then some (now, f.timeout) else none
           lease := if f.lease = 0 then none else some (now + f.lease * 2 ^ 23) }

/-- What the SAFE bit and the release number do at the die (20 R509, R511): the link's state and whether it is released. A die
that has applied no number since its power-up takes the first one as applied (notes/assumptions/20.md). -/
def farRelease (safe : Bool) (n : Nat) (x : FarLink) : FarLink × Bool :=
  if safe then ({ x with release := some (x.release.getD n) }, false)
  else ({ x with release := some n, safe := x.safe && (x.release.isNone || x.release == some n) }, x.safe && x.release.isSome && x.release != some n)

/-- The order to power down: the SENSE die loses its state (R23). -/
def senseDown (s : State) : State := dropRequests { (s.setFar 0 (farReset false 0)) with sense := senseOff s.sense.pins }

/-- What a good frame does at the die. A result released in its cycle is released before its copies and clears act (07 R245, 08
R258). -/
def farGood (k : Nat) (f : OutFrame) (s : State) : State :=
  if k = 0 then
    let s0 := releaseDue s
    let s1 := s0.setFar 0 (farTake f s0.now (s0.far 0))
    let s2 := if s1.sense.cfgValid then onSense (fun d => { d with lin := f.cmd.lin }) s1 else s1
    if f.down then senseDown s2 else applyRequests f.cmd s2
  else
    let q := farRelease f.safe f.cmd.release (farTake f s.now (s.far k))
    let s1 := s.setFar k q.1
    applyCmd k f.cmd q.2 (if f.safe then enterSafe k 3 s1 else s1)

/-! Silence and lease expiry at the die (R18, R19, R21, R23). -/

/-- Ticks × 10^7 from the start of a period of n units of 10 µs to p hundredths of its end. -/
def timerSpan (n p : Nat) : Nat := n * p * 2 ^ 24
/-- The far die's own clock is accurate to 1 % of the timeout plus one frame period of 10 µs (R21): the timer may have reached the
timeout, -/
def farTimerUp (now : Nat) (a : Option (Nat × Nat)) : Bool :=
  match a with | some (t, n) => decide (t * 10000000 + timerSpan n 99 ≤ now * 10000000 + timerSpan 1 100) | none => false
/-- or has certainly reached it in an earlier cycle. -/
def farTimerPast (now : Nat) (a : Option (Nat × Nat)) : Bool :=
  match a with | some (t, n) => decide (t * 10000000 + timerSpan n 101 + timerSpan 1 100 < now * 10000000) | none => false

/-- The silence timer expires. -/
def silenceExpires (k : Nat) (s : State) : State :=
  let x := s.far k
  let s1 := enterSafe k 1 (s.setFar k { x with timer := none, up := false, expiries := x.expiries + 1 })
  if k = 0 then dropRequests s1 else s1
/-- The hold lease expires. -/
def leaseExpires (k : Nat) (s : State) : State :=
  let x := s.far k
  enterSafe k 2 (s.setFar k { x with lease := none, up := false, leases := x.leases + 1 })

/-- An expiry whose cycle has passed has taken place (R19, R23). -/
def farLapse (k : Nat) (s : State) : State :=
  if farTimerPast s.now (s.far k).timer then silenceExpires k s
  else match (s.far k).lease with
    | some e => if e < s.now then leaseExpires k s else s
    | none => s

/-- A good frame whose CRC check passes in the present cycle still waits in the queue: it wins over an expiry (R19). -/
def frameWaits (k : Nat) (s : State) : Bool :=
  match (s.near k).wire, s.pending.find? (fun c => match c with | .farFrameReceive t l _ => l == k && s.inCycle t | _ => false) with
  | f :: _, some (.farFrameReceive _ _ dmg) => (outTaken k dmg f).isSome
  | _, _ => false

def farSilence (k : Nat) (s : State) : State :=
  if dieDown k s || !farTimerUp s.now (s.far k).timer || frameWaits k s then s else silenceExpires k s

def leaseExpiry (k : Nat) (s : State) : State :=
  match (s.far k).lease with
  | some e => if dieDown k s ∨ s.now < e ∨ (s.now = e ∧ frameWaits k s = true) then s else leaseExpires k s
  | none => s

/-- A fault judgement of the IO die that waits in the queue for the present cycle. -/
def ioJudged (c : Instr) (s : State) : State :=
  let safe := (s.far 2).safe
  match c with
  | .uioOverload _ x => onIo (overload s.now safe x.ch x.ms x.curs) s
  | .uioBudgetOverload _ x => onIo (budgetOverload x.what x.sums) s
  | .uioCrossfeedPulse _ pin => onIo (crossPulse s.now safe pin) s
  | _ => s
/-- Fault judgements of a cycle are made before the commands that its frame brings (11 R331). -/
def judgedFirst (k : Nat) (s : State) : State :=
  if k ≠ 2 ∨ dieDown 2 s = true then s
  else (s.pending.filter fun c => match c with
    | .uioOverload t _ | .uioBudgetOverload t _ | .uioCrossfeedPulse t _ => s.inCycle t
    | _ => false).foldl (fun a c => ioJudged c a) s

/-- A frame from LOGIC reaches the die (R15). A discarded one counts once: the sequence goes on over it. -/
def farFrame (k : Nat) (dmg : Damage) (s : State) : State :=
  match (s.near k).wire with
  | [] => s
  | f :: rest =>
    let s1 := s.setNear k { s.near k with wire := rest }
    if dieDown k s then s1
    else match outTaken k dmg f with
      | some g => farGood k g (farLapse k s1)
      | none =>
        let x := s1.far k
        s1.setFar k { x with errs := x.errs + 1, seqIn := x.seqIn.map fun q => (q + 1) % 16 }

/-- Records of a frame: due resends oldest first, then new ones, seven at most (R13, R16). -/
def dueRecs (now : Nat) (q : List QRec) : List QRec :=
  let due := q.filter fun r => match r.sent with | some a => decide (a + usTicks 30 ≤ now) | none => false
  (due ++ q.filter fun r => r.sent.isNone).take 7

def dieView (k : Nat) (s : State) : DieView := if k = 0 then .sense s.sense else if k = 1 then .power s.power else .io s.io

/-- The die sends a frame. -/
def farSend (k : Nat) (s0 : State) : State :=
  if dieDown k s0 then s0
  else
    let s := farLapse k s0
    let x := s.far k
    let recs := dueRecs s.now x.queue
    let f := sealIn k { seq := x.seqOut, short := dieShort x s.now, session := x.session, farSafe := x.safe, cause := x.cause
                        expiries := x.expiries, leases := x.leases, errs := x.errs, drops := x.drops, view := dieView k s, recs, crc := 0 }
    let queue := x.queue.map fun r => if recs.any (fun p => p.num == r.num) then { r with sent := some s.now } else r
    s.setFar k { x with seqOut := (x.seqOut + 1) % 16, queue, wire := x.wire ++ [f] }

/-! LOGIC's frames. -/

/-- LOGIC sends link frames: it runs from an image, and the link has not been stopped on purpose. -/
def linkRuns (k : Nat) (s : State) : Bool := s.awake && !s.upd.recovery && !s.resetNow && !(s.near k).stopped

/-- Exchange slots that a die's loops read, with the valid mark (R544). -/
def slotCopies (s : State) : List SlotCopy :=
  ((((s.datum.recs tyFan).map fnXslot) ++ (s.datum.recs tyValve).map vaAmb).filter fun x => x != 0xFFFF).eraseDups.map fun x =>
    match lookupKey x s.exch with
    | some e => { slot := x, value := e.value, stamp := e.stamp, valid := e.version != 0 }
    | none => { slot := x, value := 0, stamp := 0, valid := false }

/-- Contour states that LOGIC forwards: as received, or each switch's FAULT_STATE while ILS is silent (07 R246). -/
def forwarded (s : State) : Nat :=
  if (s.near 0).lost then
    maskOf 64 fun n => match s.datum.cswRec n with
      | some r => if coFault r = 1 then true else if coFault r = 2 then false else bit s.senLog.active n
      | none => bit s.senLog.active n
  else s.senLog.active

/-- The state part of LOGIC's frames now. -/
def liveCmd (s : State) : FieldCmd :=
  { s.field.cmd with slots := slotCopies s, cswActive := forwarded s, cswLatched := s.senLog.latched, requests := s.senLog.requests
                     clears := s.senLog.clears, lin := s.senLog.linOut }

/-- The configuration windows of the frames toward die k: what core M loads into it (R13; 07 R224, R225; 08 R265; 10 R304). -/
def windowOf (k : Nat) (s : State) : Option Window :=
  s.store.datum.map fun d =>
    { datum := d, gains := if k = 0 then s.senLog.gains else [], lin := if k = 0 then s.senLog.linOut else []
      base := if k = 0 then (s.area.base.body).getD [] else [], bins := if k = 1 then (s.area.fans.body).getD [] else [] }

/-- A frame toward die k, with a hold lease or the order to power down. Before the first good frame after a start the session
number is open (R541). -/
def outFrame (k lease : Nat) (down : Bool) (s : State) : OutFrame :=
  let x := s.near k
  { seq := x.seqOut, short := shortOf s.now, safe := s.safe.set || s.field.cmd.safe, ack := x.lastTaken
    session := x.session.getD (s.open' % 16).toNat, timeout := x.timeout, lease, down, cmd := liveCmd s
    window := windowOf k s, crc := 0 }

def sendFrame (k lease : Nat) (down : Bool) (s : State) : State :=
  let x := s.near k
  let s1 := s.setNear k { x with seqOut := (x.seqOut + 1) % 16, wire := x.wire ++ [sealOut k (outFrame k lease down s)] }
  if x.session.isNone then s1.used else s1

/-! What LOGIC takes. -/

/-- A SENSE result (07 R237): the latest result, the gain, the Exchange slot, the sample. A result of before the Datum in force
gives no gain (07 R225). -/
def takeResult (entry status : Nat) (v : Int) (stamp took : Nat) (s : State) : State :=
  let l := s.senLog
  let s1 := { s with senLog := { l with
    latest := insertKey entry (stamp, (rcMark took (mkSample stamp 0 status v) s).status, v) l.latest
    gains := if l.govAt ≤ took then insertKey entry (status / 1024 % 8) l.gains else l.gains } }
  match s.datum.chanRec entry with
  | none => s1
  | some r =>
    let s2 := if stCode status = 0 ∧ chXslot r ≠ 0xFFFF then publish (chXslot r) (chSrc r) v stamp s1 else s1
    if chReport r then frontEnd took (mkSample stamp (chSrc r) status v) s2 else s2

/-- A Contour crossing (07 R244). -/
def takeCrossing (n : Nat) (active : Bool) (stamp took : Nat) (s : State) : State :=
  match s.datum.cswRec n with
  | none => s
  | some r =>
    let s1 := frontEnd took (mkSample stamp (coSrc r) 0 (b2n active : Nat)) (gazCrossing n s)
    if active && coIrq r then irq (128 + n) s1 else s1

/-- A check outcome; `prev` is the pin's outcome before it (08 R265, R266, R268). -/
def takeCheck (pin outcome rl ri origin prev : Nat) (base : Option Nat) (stamp : Nat) (s : State) : State :=
  let s2 := match base, s.areaNo with
    | some b, some k => (storeBase k (insertKey pin b ((s.areaAt k).base.body.getD [])) s).1
    | _, _ => s
  let s3 := if origin = 0 ∨ outcome ≠ prev then raiseAt stamp 0x0601 (leBytes 1 pin ++ leBytes 1 outcome ++ zeros 2 ++ leBytes 4 rl ++ leBytes 4 ri) s2 else s2
  if origin = 2 then
    (s3.cmds.filter fun c => c.op == 0x0622 && p8 c.d 0 == pin).foldl (fun a c => finish c stOk 0 outcome a) s3
  else s3

def takeRec (link : Nat) (r : QRec) (s : State) : State :=
  let stamp := rebuildStamp s.now r.short
  let s1 := s.setNear link { s.near link with lastTaken := r.num }
  match r.body with
  | .result e st v => takeResult e st v stamp r.took s1
  | .crossing n a => takeCrossing n a stamp r.took s1
  | .check p o rl ri origin prev base => takeCheck p o rl ri origin prev base stamp s1
  | .sample src st v => frontEnd r.took (mkSample stamp src st v) s1
  | .report code params => raiseAt stamp code params s1

/-- Records enter in order, each once (R16). -/
def takeRecs (link : Nat) (l : List QRec) (s : State) : State :=
  l.foldl (fun a r => if r.num = ((a.near link).lastTaken + 1) % 256 then takeRec link r a else a) s

/-- Frames that the far die has discarded or lost since it was last heard: its own count starts at 0 with it (R25). -/
def errsSince (seen errs : Nat) : Nat := if errs < seen then errs else errs - seen

/-- A good frame's link fields at LOGIC (R13, R22, R24, R541). LOGIC opens a new session at its first good frame after a start, and
also when a die that had taken its session shows another one: the die alone has restarted (notes/assumptions/20.md). -/
def nearTake (f : InFrame) (now : Nat) (x : NearLink) : NearLink :=
  let fresh := x.session.isNone || (x.synced && x.session != some f.session)
  let x := if fresh then { x with session := some ((f.session + 1) % 16), lastTaken := 255, synced := false } else x
  { x with farCause := f.cause, farSafe := f.farSafe, up := true, lost := false, farErr := sat 65535 (x.farErr + errsSince x.errSeen f.errs), errSeen := f.errs
           farSilence := x.farSilence || decide (x.expiries < f.expiries) || decide (x.leases < f.leases)
           nearErr := sat 65535 (x.nearErr + seqGap x.seqIn f.seq), drop := f.drops, seqIn := some f.seq
           timer := some (now, x.timeout), synced := x.synced || x.session == some f.session
           expiries := f.expiries, leases := f.leases }

/-- What LOGIC receives of a die's state. -/
def takeView (link : Nat) (f : InFrame) (s : State) : State :=
  match f.view with
  | .sense v =>
    { s with links := { s.links with viewS := v }
             senLog := { s.senLog with
               active := maskOf 64 fun n => v.csws.any fun c => c.csw == n && c.active
               latched := maskOf 64 fun n => v.csws.any fun c => c.csw == n && c.latched
               pins := v.pins, skipped := v.skipped, opens := v.opens, checks := v.checks, discard := if link = 0 then f.drops else s.senLog.discard } }
  | .power v => { s with links := { s.links with viewP := v } }
  | .io v => hitIf (v.dieReset && !s.links.viewI.dieReset) 0x5814 2 { s with links := { s.links with viewI := v } }

/-- Far events that a good frame brings: expiries of the silence timer, of a lease, and the link's return (R18; 06 R212; 20 R509). -/
def linkEvents (link : Nat) (old : NearLink) (f : InFrame) (s : State) : State :=
  let s1 := if old.expiries < f.expiries then raise 0x0107 (leBytes 1 link ++ leBytes 1 1) s else s
  let s2 := if old.leases < f.leases then raise 0x0507 (leBytes 1 link) (hit 0x8800 2 { s1 with sto := { s1.sto with leaseExpired := true } }) else s1
  hitIf (decide (old.expiries < f.expiries) || decide (old.leases < f.leases)) (0x110 + 4 * link) 2 <|
  if old.lost = true ∨ old.expiries < f.expiries then raise 0x0108 (leBytes 1 link ++ leBytes 1 f.cause) s2 else s2

/-- Commands that wait for what the SENSE die's frames report: pass starts (07 R248), MOIST_EMPTY (08 R268). -/
def senseAnswers (s : State) : State :=
  let s1 := s.links.viewS.started.foldl (fun a p =>
    match a.cmds.find? fun c => c.op == 0x0602 && p8 c.d 0 == p.1 with
    | some c => onSense (fun x => { x with started := x.started.filter fun q => q != p }) (finish c stOk 0 p.2 a)
    | none => onSense (fun x => { x with started := x.started.filter fun q => q != p }) a) s
  (s1.cmds.filter fun c => c.op == 0x0621).foldl (fun a c => finishEmpty c a) s1

/-- LOGIC's inbound timer expires (R22). -/
def nearExpires (link : Nat) (s : State) : State :=
  let s1 := raise 0x0107 (leBytes 1 link ++ leBytes 1 0) (hit (0x110 + 4 * link) 3
    (s.setNear link { s.near link with nearSilence := true, up := false, lost := true, silentAt := s.now, timer := none }))
  if link = 0 then dropRequests s1 else s1
/-- An expiry whose cycle has passed has taken place. -/
def nearLapse (link : Nat) (s : State) : State :=
  if !(s.near link).stopped && timerPast s.now (s.near link).timer then nearExpires link s else s

def nearGood (link : Nat) (f : InFrame) (s0 : State) : State :=
  let s := nearLapse link s0
  let old := s.near link
  let s1 := takeView link f (s.setNear link (nearTake f s.now old))
  let s2 := linkEvents link old f s1
  let s3 := if (s2.near link).session = some f.session then takeRecs link f.recs s2 else s2
  if link = 0 then senseAnswers s3 else s3

/-- A frame from die k reaches LOGIC. -/
def nearFrame (link : Nat) (dmg : Damage) (s : State) : State :=
  match (s.far link).wire with
  | [] => s
  | f :: rest =>
    let s1 := s.setFar link { s.far link with wire := rest }
    if !s.awake || s.upd.recovery || s.resetNow then s1
    else match inTaken link dmg f with
      | some g => nearGood link g s1
      | none =>
        let x := s1.near link
        s1.setNear link { x with nearErr := sat 65535 (x.nearErr + 1), seqIn := x.seqIn.map fun q => (q + 1) % 16 }

/-- LOGIC's inbound timer reaches the timeout; a silence that R23 covers is not reported. -/
def nearSilence (link : Nat) (s : State) : State :=
  let x := s.near link
  if !s.awake || x.stopped || !timerUp s.now x.timer then s else nearExpires link s

/-- Sources of a silent die that LINK_LOST samples stand in for (07 R238, 10 R313, 11 R322). -/
def lostSources (link : Nat) (d : Datum) : List Nat :=
  if link = 0 then
    ((d.recs tySeq).filter fun q => sqTrig q == 1 || sqTrig q == 2).flatMap fun q =>
      ((d.recs tyChan).filter fun r => chReport r && decide (sqFirst q ≤ chEntry r) && decide (chEntry r < sqFirst q + sqCount q)).map chSrc
  else if link = 1 then ((d.recs tyFan).filter fnEnabled).flatMap fun r => [fnSrcBase r, fnSrcBase r + 1, fnSrcBase r + 2]
  else ((d.recs tyUio).filter fun r => ucRole r != 4).map ucSrc

/-- Those that have no such sample of the frame yet. -/
def lostNow (link : Nat) (s : State) : List Nat :=
  (lostSources link s.datum).filter fun src =>
    !(s.frm.collector ++ s.frm.queue).any fun c => c.src == src && c.stamp == frameStart (frameOf s.now) && stCode c.status == 4

/-- From the start of the first plant frame N after NEAR_SILENCE was set: one sample of each source and frame, stamped N × 2^23,
arriving at that instant (07 R238). -/
def synthLost (link : Nat) (s : State) : State :=
  let at' := frameStart (frameOf s.now)
  if s.awake ∧ (s.near link).lost = true ∧ (s.near link).silentAt < at' then
    (lostNow link s).foldl (fun a src => frontEndAt at' at' (mkSample at' src 4 0) a) s
  else s

/-! Meanings of the rows. -/

def execLogicFrameSend (t link : Nat) (s : State) := run t (fun s => if link < 3 ∧ linkRuns link s = true then sendFrame link 0 false s else s) s
def execFarFrameReceive (t link : Nat) (dmg : Damage) (s : State) := run t (fun s => if link < 3 then farFrame link dmg (judgedFirst link s) else s) s
def execFarFrameSend (t link : Nat) (s : State) := run t (fun s => if link < 3 then farSend link s else s) s
def execLogicFrameReceive (t link : Nat) (dmg : Damage) (s : State) := run t (fun s => if link < 3 then nearFrame link dmg s else s) s
def execFarSilenceTimeout (t link : Nat) (s : State) := run t (fun s => if link < 3 then farSilence link s else s) s
def execNearSilenceTimeout (t link : Nat) (s : State) := run t (fun s => if link < 3 then nearSilence link s else s) s
def execLeaseExpiry (t link : Nat) (s : State) := run t (fun s => if link < 3 then Sys2Proof.Machine.leaseExpiry link s else s) s
def execLinkLostSynth (t link : Nat) (s : State) := run t (fun s => if link < 3 then synthLost link s else s) s

end Sys2Proof.Machine
end

