-- ==== Sys2Proof/Machine/DieLoad.lean ====
section
/-!
DEFINITION. What core M loads into the far dies: sequencers and configuration records; the SENSE die's power (01 R23, R541; 07 R224,
R225; 08 R258, R265; 10 R304; 17 R458).
-/
namespace Sys2Proof.Machine

/-- Core M reaches die k: the link is up and the die has its supply. -/
def canLoad (k : Nat) (s : State) : Bool :=
  decide (k < 3) && s.awake && !s.upd.recovery && !s.resetNow && s.linkUp k && !dieDown k s

/-- A started sequencer waits for its configuration. -/
def cfgInvalid (k : Nat) (s : State) : State :=
  if k = 0 then onSense senseHold s
  else if k = 1 then onPower (fun p => { p with cfgValid := false }) s else onIo (fun p => { p with cfgValid := false }) s

/-- A sequencer load ends: the die runs it, or core M retries in 100 ms (17 R458). -/
def seqLoad (k : Nat) (ok : Bool) (s : State) : State :=
  if ok then healthCheck (cfgInvalid k { s with upd := { s.upd with seqRun := setAt k true s.upd.seqRun, seqRetry := setAt k none s.upd.seqRetry } })
  else raise 0x0D06 (leBytes 1 k)
    { s with upd := { s.upd with seqRun := setAt k false s.upd.seqRun, seqRetry := setAt k (some (s.now + ticks100ms)) s.upd.seqRetry } }

def retryDue (k : Nat) (s : State) : Bool := match (s.upd.seqRetry[k]?).join with | some e => decide (e ≤ s.now) | none => false

/-- POWER's records: the channels take their states under them and the fans their learned bins; in the safe state each new channel
takes its own (09 R293, 10 R304). -/
def loadPower (d : Datum) (bins : List (Nat × List FanBin)) (s : State) : State :=
  let safe := (s.far 1).safe
  onPower (fun p =>
    let q := { p with cfgValid := true, cfg := d, valves := loadValves d p.valves, fans := loadFans d bins p.fans }
    if safe then valveSafe s.now q else q) s

/-- Die k takes the configuration that the windows of LOGIC's frames hold; the SENSE die's free lists begin (07 R224, R228). -/
def loadDie (k : Nat) (w : Window) (s : State) : State :=
  if k = 0 then senseSweep (onSense (fun x => takePasses s.now (senseLoad s.now w.datum w.gains w.lin w.base x)) s)
  else if k = 1 then loadPower w.datum w.bins s
  else onIo (fun p => { p with cfgValid := true, cfg := w.datum, chans := loadUios w.datum p.chans }) s

/-- A load completes once the windows have brought the Datum in force to a die whose sequencer runs (01 R13, 07 R224, 17 R458). -/
def configLoad (k : Nat) (s : State) : State :=
  match (s.far k).window with
  | some w => if s.upd.seqRun.getD k false && s.store.datum == some w.datum then healthCheck (loadDie k w s) else s
  | none => s

/-- The SENSE die gets its supply while LOGIC holds it on: session 0, numbering 0, no configuration (R541, 20 R509). -/
def sensePowerUp (s : State) : State :=
  if s.sense.powered || !s.pwr.senseGate then s
  else
    let s1 := s.setFar 0 { farReset false 0 with at' := s.now }
    let s2 := s1.setNear 0 { s1.near 0 with stopped := !s.awake }
    { s2 with sense := { senseReset with pins := s.sense.pins }, upd := { s2.upd with seqRun := setAt 0 false s2.upd.seqRun } }

/-! Meanings of the rows. -/

def execDieConfigLoad (t link : Nat) (s : State) := run t (fun s => if canLoad link s then configLoad link s else s) s
def execSequencerLoad (t link : Nat) (crcOk : Bool) (s : State) :=
  run t (fun s => if canLoad link s = true ∧ s.upd.seqRun.getD link false = false then seqLoad link crcOk s else s) s
def execSeqLoadRetry (t link : Nat) (crcOk : Bool) (s : State) :=
  run t (fun s => if canLoad link s = true ∧ retryDue link s = true then seqLoad link crcOk s else s) s
def execSenseDiePowerUp (t : Nat) (s : State) := run t sensePowerUp s

end Sys2Proof.Machine
end

