-- ==== Sys2Proof/Machine/Power.lean ====
section
/-!
DEFINITION. Sleep, WATCH cycles, wakes and HALT (01 R23; 02 R42, R43, R45, R59, R60; 06 R210-R212; 12 R357; 13 R362; 14 R409, R410;
19 R497-R500).
-/
namespace Sys2Proof.Machine

/-! The WATCH schedule (06 R210, R211). -/

def State.stoGlob (s : State) : Bytes := s.datum.stoGlob.getD (zeros 16)
/-- Frames of a lease: LEASE_FRAMES, at most 7,200. -/
def leaseFrames (s : State) : Nat := min 7200 (sgLease s.stoGlob)

/-- Wake instant of the cycle that decides frame WATCH_FRAMES × k - 1. -/
def cycleWake (s : State) (k : Nat) : Nat := frameStart (sgWatch s.stoGlob * k - sgLead s.stoGlob) - 2 ^ 21
/-- The first cycle whose wake lies after now: its k. -/
def nextCycle (s : State) : Nat :=
  let k := frameOf s.now / sgWatch s.stoGlob
  if s.now < cycleWake s k then k else if s.now < cycleWake s (k + 1) then k + 1 else k + 2

/-- The wakes after a lease that begins now: the next cycle, and a renewal when the lease would end less than 1 s after it. -/
def schedule (s : State) : State :=
  let w := cycleWake s (nextCycle s)
  let e := s.now + leaseFrames s * 2 ^ 23
  { s with pwr := { s.pwr with nextWake := some w, renewAt := if e < w + 2 ^ 24 then some (e - 30 * 2 ^ 24) else none } }

/-! The final frames (01 R23, R497). -/

def stopLinks (s : State) : State := [0, 1, 2].foldl (fun (a : State) k => a.setNear k { a.near k with stopped := true, up := false }) s
/-- The SENSE die's supply is ordered on or off (R23, R210). -/
def senseGate (on : Bool) (s : State) : State := { s with pwr := { s.pwr with senseGate := on } }
/-- ILS orders a powered SENSE die down, and its supply stays off. -/
def senseOrder (s : State) : State := senseGate false (if s.sense.powered then sendFrame 0 0 true s else s)
/-- WATCH: ILP and ILI carry the outputs and a hold lease; ILS orders the SENSE die to power down. -/
def leaseOut (s : State) : State :=
  let l := leaseFrames s
  let s1 := sendFrame 2 l false (sendFrame 1 l false s)
  stopLinks (schedule (senseOrder s1))
/-- HALT: SAFE = 1 and no lease. -/
def safeOut (s : State) : State :=
  let s1 := sendFrame 2 0 false (sendFrame 1 0 false (setLine 5 s))
  stopLinks (senseOrder s1)

/-! Entry (R42, R43, R497, R498). -/

/-- Every transceiver goes to standby, the controllers stop; the PCIe link is lost, which disables every ring. -/
def quietHost (s : State) : State := { (hifResetOf false s) with can := s.can.map fun c => { c with standby := true, recovering := false } }
/-- The channels with WAKE_EN (12 R357). -/
def wakeChannels (s : State) : List Nat := ((s.datum.recs tyCan).filter cnWakeEn).map cnCh

/-- The Meridian goes to the 32.768 kHz clock: the fraction is discarded (R43). -/
def slowClock (s : State) : State :=
  { s with time := { s.time with asleep := true, acc := s.time.acc / 2 ^ 32 * 2 ^ 32 }, pwr := { s.pwr with sleepAt := s.now } }

/-- WATCH, at its first entry and at the end of a cycle: a cycle commits the storage records, an entry all items. -/
def enterWatch (s : State) : State :=
  let s1 := if s.pwr.cycle.isSome then lifeCommit (commitStore s).1 else captureEnd 4 (lifeCommit (commitItems s))
  slowClock (quietHost { s1 with pwr := { s1.pwr with state := 2, moved := false, cycle := none, canWake := wakeChannels s1 } })

/-- HALT: the periods are cut, the marker goes with HALT_SR, PWR_EN and PORN fall, domain L goes off. -/
def enterHalt (s : State) : State :=
  let s1 := captureEnd 4 (cutPeriods (lifeCommit (commitItems s)))
  let p := s1.pwr
  let at' := if p.haltSeconds = 0 then none else some (s1.now + p.haltSeconds * 2 ^ 24)
  resetL 6 (slowClock { s1 with pwr := { p with marker := p.haltSr, pwrEn := false, porn := true, haltAt := at', canWake := wakeChannels s1 } })

/-- The next rising edge of the 32.768 kHz clock after the move's apply instant, or after a cycle's. -/
def sleepEntry (s : State) : State :=
  if !s.awake || !s.pwr.moved then s
  else match s.pwr.cycle, s.pwr.move with
    | some _, _ => enterWatch s
    | none, some (3, _) => enterHalt s
    | none, some _ => enterWatch s
    | none, none => s

/-! Wakes (R499, R500; 06 R210, R211). -/

def countWake (s : State) : State := s.setLife { s.gaz.life with wakes := sat (2 ^ 48 - 1) (s.gaz.life.wakes + 1) }

/-- LOGIC and the interrupt controller are restored (14 R409); the hours that passed asleep have no benchmark (18 R476). -/
def restore (s : State) : State :=
  hit 0x1000 15 { s with time := { s.time with asleep := false }, ic := icRestore s.now (s.now - s.pwr.sleepAt) s.ic
                         gaz := { s.gaz with hourAt := s.now / (3600 * 2 ^ 24) } }

/-- A link that was stopped on purpose runs again. -/
def restart (k : Nat) (s : State) : State := if (s.near k).stopped then s.setNear k { s.near k with stopped := false, timer := none } else s

/-- Samples of frames that pass without decisions serve no step. -/
def resumeAt (n : Nat) (s : State) : State :=
  { s with frm := { s.frm with next := n, decided := none, missed := none
                               collector := s.frm.collector.filter fun x => decide (n ≤ frameOf x.stamp) } }

/-- The device is back in RUN: frames from the next N0 (R500). -/
def backToRun (src stamp : Nat) (s : State) : State :=
  let s1 := senseGate true ([0, 1, 2].foldl (fun a k => restart k a) s)
  strayMailbox (raise 0x0116 (leBytes 1 src) (resumeAt (s1.n0 s1.now)
    { s1 with pwr := { s1.pwr with state := 0, move := none, moved := false, cycle := none, nextWake := none, renewAt := none
                                   wakeSrc := src, wakeStamp := stamp }
              can := s1.can.map fun c => { c with standby := false } }))

/-- A latched source in HALT starts the device with cause 6: PWR_EN rises, and PORN's release follows. -/
def haltWake (src stamp : Nat) (s : State) : State :=
  { s with pwr := { s.pwr with state := 0, pwrEn := true, haltAt := none, wakeSrc := src, wakeStamp := stamp } }

/-- HALT: only the always-on domain lives. -/
def State.halted (s : State) : Bool := s.pwr.reset && s.pwr.state == 3 && s.pwr.ao
/-- WATCH between cycles. -/
def State.watching (s : State) : Bool := !s.pwr.reset && s.time.asleep && s.pwr.ao

def wakeSource (src : Nat) (s : State) : State :=
  match s.ic.latched.find? fun p => p.1 == src with
  | none => s
  | some p =>
    if s.halted then haltWake src p.2 s
    else if s.watching then backToRun src p.2 (lifeCommit (countWake (restore s)))
    else s

def haltTimer (s : State) : State :=
  match s.pwr.haltAt with
  | some e => if s.halted = true ∧ e ≤ s.now then haltWake 2 (s.now / 512 * 512) s else s
  | none => s

/-- A cable sensor of the Datum is read through the sensor pins (06 R194). -/
def analogCables (d : Datum) : Bool := (d.recs tySensor).any fun r => (d.recs tyChan).any fun c => chSrc c == snSrc r

/-- CABLE_CAN's transceiver wakes for a cycle, and the SENSE die is powered if any cable is analog (R210). -/
def cablesUp (s0 : State) : State :=
  let s := if analogCables s0.datum then senseGate true (restart 0 s0) else s0
  { s with can := s.can.map fun c => if c.ch = sgCan s.stoGlob then { c with standby := false } else c }

/-- The frame that the cycle with the wake instant w decides. -/
def cycleFrame (s : State) (w : Nat) : Nat := frameOf (w + 2 ^ 21) + sgLead s.stoGlob - 1

def watchCycle (s : State) : State :=
  match s.pwr.nextWake with
  | none => s
  | some w =>
    if s.watching = false ∨ s.now < w then s
    else
      let n := cycleFrame s w
      let s1 := cablesUp (restart 2 (restart 1 (lifeCommit (countWake (restore s)))))
      strayMailbox (resumeAt (frameOf (w + 2 ^ 21))
        { s1 with pwr := { s1.pwr with cycle := some (some n), nextWake := none, renewAt := none, wakeSrc := 2
                                       wakeStamp := s1.now / 512 * 512 }
                  sto := { s1.sto with readFor := none } })

/-- A renewal: one frame on ILP and ILI with the outputs in force and a new lease; no samples, no decisions (R211). -/
def renew (s : State) : State :=
  match s.pwr.renewAt with
  | none => s
  | some r =>
    if s.watching = false ∨ s.now < r then s
    else
      let l := leaseFrames s
      schedule (countWake (sendFrame 2 l false (sendFrame 1 l false s)))

/-! The Meridian floor (02 R45). -/

def floorWrite (s : State) : State :=
  let f := (s.time.floor.body).getD 0
  if s.pwr.ao = false ∨ (s.pwr.reset = true ∧ s.time.asleep = false) ∨ s.now + 2 ^ 39 < f then s
  else
    let q := storeTwo placeMerFloor s.time.floor (s.now + 2 ^ 40) s
    { q.1 with time := { q.1.time with floor := q.2.1 } }

/-! FSAFE_N (20 R505). -/

/-- The second low sample: the line is set with cause 2; asleep the source latches (14 source 3). -/
def fsafeLow (s : State) : State :=
  let s1 := { s with safe := { s.safe with fsafeLow := true } }
  if s.pwr.ao = false ∨ (s.pwr.reset = true ∧ s.time.asleep = false) then s1 else setLine 2 (irq 3 s1)

/-! Meanings of the rows. -/

def execSleepEntry (t : Nat) (s : State) := run t Sys2Proof.Machine.sleepEntry s
def execWatchCycle (t : Nat) (s : State) := run t Sys2Proof.Machine.watchCycle s
def execLeaseRenewalWake (t : Nat) (s : State) := run t renew s
def execWakeSource (t src : Nat) (s : State) := run t (Sys2Proof.Machine.wakeSource src) s
def execHaltTimer (t : Nat) (s : State) := run t Sys2Proof.Machine.haltTimer s
def execMeridianFloorWrite (t : Nat) (s : State) := run t floorWrite s
def execFsafeNLow (t : Nat) (s : State) := run t fsafeLow s
def execFsafeNHigh (t : Nat) (s : State) := run t (fun s => { s with safe := { s.safe with fsafeLow := false } }) s

end Sys2Proof.Machine
end

