-- ==== Sys2Proof/Machine/ClockEvents.lean ====
section
/-!
DEFINITION. The clock monitor, the housekeeping round, die temperatures, key locks, periodic commits and the MRAM scrub (01 R37,
R38, Table 1-13; 04 R135; 06 R208; 15 R420; 16 R428-R431; 18 R480-R482; 19 R501-R503; 22 R525).
-/
namespace Sys2Proof.Machine

/-! Clocks (01 R37, R38). -/

def refClockLost (s : State) : State :=
  if s.awake then raise 0x0104 [] (hit 0x130 0 { s with clk := { s.clk with refLost := true, onRc := true, rcFrom := if s.clk.onRc then s.clk.rcFrom else s.now } }) else s
def refClockRestored (s : State) : State :=
  { s with clk := { s.clk with onRc := false, rcSpans := if s.clk.onRc then (s.clk.rcFrom, s.now) :: s.clk.rcSpans else s.clk.rcSpans } }
/-- The device raises the event where it can: LOGIC runs. -/
def lfClockLost (s : State) : State :=
  let s1 := hit 0x130 2 { s with clk := { s.clk with lfLost := true, lfProven := false } }
  if s.awake then raise 0x0105 [] s1 else s1
def lfClockProven (s : State) : State := { s with clk := { s.clk with lfProven := true } }
/-- A PLL (0 core, 1 LPDDR4X, 2 CAN) loses lock: its block is held until relock. -/
def pllUnlock (pll : Nat) (s : State) : State :=
  if s.awake then
    raise 0x0106 (leBytes 1 pll) (hit 0x130 3
      { s with clk := { s.clk with pllUnlock := true, held := if s.clk.held.contains pll then s.clk.held else s.clk.held ++ [pll] } })
  else s
/-- The held block resumes; the front-end queue drains into the collector (01 R35). -/
def pllRelock (pll : Nat) (s : State) : State :=
  if !s.clk.held.contains pll then s
  else
    let s1 := { s with clk := { s.clk with held := s.clk.held.filter fun p => p != pll } }
    if pll = 0 then s1.frm.queue.foldl (fun a x => intakeAt x a) { s1 with frm := { s1.frm with queue := [] } } else s1

/-! Temperatures (19 R502, R503), 1/128 °C. -/

def t110 : Int := 14080
def t115 : Int := 14720
def t125 : Int := 16000
def t135 : Int := 17280

/-- A reading: no count, or one outside the trimmed range, reads 150 °C (R502). -/
def siteReading (v : Option Int) : Int × Bool :=
  match v with
  | some x => if x < -7040 ∨ 22400 < x then (19200, true) else (x, false)
  | none => (19200, true)

/-- The latest value, its highest so far, and its plausibility. -/
def siteTake (v : Int) (bad : Bool) (x : Site) : Site := { x with temp := some v, peak := max x.peak v, implausible := bad }
/-- Two consecutive readings begin and end each rule; the cooling time runs from the second reading below 125 °C (R503). -/
def siteJudge (now : Nat) (v : Int) (x : Site) : Site :=
  let n115 := if t115 ≤ v then x.n115 + 1 else 0
  let n110 := if v < t110 then x.n110 + 1 else 0
  let n135 := if t135 ≤ v then x.n135 + 1 else 0
  let n125 := if v < t125 then x.n125 + 1 else 0
  { x with n115, n110, n135, n125, throttle := if 2 ≤ n115 then true else if 2 ≤ n110 then false else x.throttle
           shut := x.shut || decide (2 ≤ n135)
           coolAt := if n125 < 2 then none else some (x.coolAt.getD now) }

def State.site (s : State) (n : Nat) : Site := s.pwr.sites.getD n siteReset
def State.setSite (s : State) (n : Nat) (x : Site) : State := { s with pwr := { s.pwr with sites := setAt n x s.pwr.sites } }

/-- LOGIC's sites together. -/
def logicThrottle (s : State) : Bool := (List.range 4).any fun n => (s.site n).throttle
def logicShut (s : State) : Bool := (List.range 4).any fun n => (s.site n).shut

/-- A site of LOGIC is read and acts on the die: the event names the site whose reading began the action (R503). -/
def logicSite (n : Nat) (v : Option Int) (s : State) : State :=
  let r := siteReading v
  let s1 := publish (768 + n) 0 r.1 s.now (s.setSite n (siteJudge s.now r.1 (siteTake r.1 r.2 (s.site n))))
  let th := logicThrottle s1
  let sh := logicShut s1
  let s2 := { s1 with pwr := { s1.pwr with throttle := th, shutdown := sh } }
  let s3 := if th && !s.pwr.throttle then raise 0x0111 ([0] ++ leBytes 1 n) (irq 44 s2) else s2
  if sh && !s.pwr.shutdown then
    setLine 4 (raise 0x0112 ([0] ++ leBytes 1 n) (irq 44 { s3 with pwr := { s3.pwr with state := if s3.pwr.state = 1 then 0 else s3.pwr.state } }))
  else s3

/-- A far site: the value that its die's frames brought since the last round, or none (R502). -/
def farSite (n : Nat) (s : State) : State :=
  let x := s.site n
  let s1 := s.setSite n { x with fresh := false, temp := if x.fresh then x.temp else none }
  match x.fresh, x.temp with
  | true, some v => publish (768 + n) 0 v s.now s1
  | _, _ => s1

/-- A far die judges its own site, with or without a link (R502, R503). LOGIC receives the reading while the link is up. -/
def farTempCheck (k : Nat) (v : Option Int) (s : State) : State :=
  if dieDown k s then s
  else
    let r := siteReading v
    let x := s.site (k + 4)
    let y := siteJudge s.now r.1 x
    let z := if s.linkUp k then { siteTake r.1 r.2 y with fresh := true } else y
    let s1 := s.setSite (k + 4) z
    let s2 := if y.throttle && !x.throttle then pushRec k s.now (.report 0x0111 ([0] ++ leBytes 1 (k + 4))) s1 else s1
    if y.shut && !x.shut then enterSafe k 5 s2 else s2

/-- A site has been below 125 °C for 10 s (R503). -/
def shutdownEnd (n : Nat) (s : State) : State :=
  let x := s.site n
  match x.coolAt with
  | some a =>
    if x.shut = true ∧ a + 10 * 2 ^ 24 ≤ s.now then
      let s1 := s.setSite n { x with shut := false }
      { s1 with pwr := { s1.pwr with shutdown := logicShut s1 } }
    else s
  | none => s

/-! The housekeeping round (R501, R525). -/

/-- Operating ranges in mV, in the order of R501 (Table 22-2). -/
def railRange (r : Nat) : Nat × Nat :=
  [(760, 840), (3135, 3465), (1710, 1890), (1060, 1170), (570, 650), (4750, 5250), (4750, 5250), (9000, 32000)].getD r (0, 0)

/-- A rail: its value is published; the second round outside the range raises the event. -/
def railRead (r v : Nat) (s : State) : State :=
  let q := railRange r
  let n := if v < q.1 ∨ q.2 < v then min 3 (s.pwr.railOut.getD r 0 + 1) else 0
  let s1 := publish (775 + r) 0 v s.now
    { s with pwr := { s.pwr with rails := setAt r v s.pwr.rails, railOut := setAt r n s.pwr.railOut } }
  if n = 2 then raise 0x0113 ([0, 0] ++ leBytes 1 r ++ [0] ++ leBytes 2 v) s1 else s1

/-- 64 ms intervals of the Meridian that an instant has passed. -/
def rounds64 (t : Nat) : Nat := t * 1000 / (64 * 2 ^ 24)
/-- A round is due: the next 64 ms of Meridian time have passed in RUN or IDLE; once in a WATCH cycle (R501). -/
def roundDue (s : State) : Bool :=
  s.awake && s.hif.ready && (if s.pwr.cycle.isSome then decide (s.pwr.roundAt < s.pwr.wakeStamp) else decide (rounds64 s.pwr.roundAt < rounds64 s.now))

/-- A parity error that the round finds in control SRAM (20 Table 20-2 cause 7). -/
def housekeeping (temps : List (Option Int)) (rails : List Nat) (parity : Bool) (s : State) : State :=
  if !roundDue s then s
  else
    let s1 := (temps.zipIdx).foldl (fun a p => logicSite p.2 p.1 a) s
    let s2 := [4, 5, 6].foldl (fun a n => farSite n a) s1
    let s3 := (rails.zipIdx).foldl (fun a p => railRead p.2 p.1 a) { s2 with pwr := { s2.pwr with roundAt := s2.now } }
    let s3 := gazErrors s3
    if parity then setLine 7 s3 else s3

/-! The MRAM scrub (16 R428, R430, R431). -/

/-- The copy whose body or commit word holds an address. -/
def inCopy (pl : Place) (a : Nat) : Option Bool :=
  let holds := fun (b : Nat) => decide (b ≤ a) && decide (a < b + pl.size) && (decide (a - b < 8 * pl.words) || decide (b + pl.size ≤ a + 8))
  if holds pl.a0 then some false else if holds pl.a1 then some true else none
/-- A structure whose copy has become unreadable at an address (R433). -/
def loseAt {α : Type} (pl : Place) (a : Nat) (t : Two α) : Two α := match inCopy pl a with | some one => t.lose one | none => t

def datumLen (one : Bool) (t : Two Bytes) : Nat := match (if one then t.c1 else t.c0) with | some c => c.body.length | none => 0
def loseDatum (k a : Nat) (t : Two Bytes) : Two Bytes :=
  match inCopy (placeDatum k 0x21000) a with | some one => loseAt (placeDatum k (datumLen one t)) a t | none => t

def loseArea (k a : Nat) (x : Area) : Area :=
  { datum := loseDatum k a x.datum, area := loseAt (placeItem k 1) a x.area, learn := loseAt (placeItem k 2) a x.learn
    store := loseAt (placeItem k 3) a x.store, fans := loseAt (placeItem k 4) a x.fans, base := loseAt (placeItem k 5) a x.base
    plan := loseAt (placeItem k 6) a x.plan }

/-- A Legend area whose image or commit word is unreadable holds no Legend (03 R115). -/
def loseLegend (a : Nat) (legs : List (Option LegArea)) : List (Option LegArea) :=
  legs.zipIdx.map fun p => match p.1 with
    | none => none
    | some x =>
      let o := areaAddr p.2
      if (o ≤ a ∧ a < o + x.img.length) ∨ (o + 0x1FF8 ≤ a ∧ a < o + 0x2000) then none else some x

/-- What an uncorrectable word takes from the structures of the store: the reader treats it as unreadable (R428). -/
def loseWord (a : Nat) (s : State) : State :=
  { s with
    store := { s.store with s0 := loseArea 0 a s.store.s0, s1 := loseArea 1 a s.store.s1, legs := loseLegend a s.store.legs }
    nvs := { s.nvs with ledger := s.nvs.ledger.zipIdx.map (fun p => loseAt (placeLedger p.2) a p.1)
                        ueWords := if s.nvs.ueWords.contains a then s.nvs.ueWords else s.nvs.ueWords ++ [a] }
    auth := { slots := s.auth.slots.zipIdx.map (fun p => { key := loseAt (placeKey p.2) a p.1.key, ctr := loseAt (placeCtr p.2) a p.1.ctr })
              cosign := loseAt placeCosign a s.auth.cosign }
    upd := { s.upd with boot := loseAt placeBoot a s.upd.boot, floor := loseAt placeFloor a s.upd.floor, session := loseAt placeSession a s.upd.session
                        bitmap := if 0x7C2200 ≤ a ∧ a < 0x7C2250 then
                            s.upd.bitmap - s.upd.bitmap / 2 ^ ((a - 0x7C2200) / 8 * 64) % 2 ^ 64 * 2 ^ ((a - 0x7C2200) / 8 * 64)
                          else s.upd.bitmap }
    time := { s.time with floor := loseAt placeMerFloor a s.time.floor
                          eras := s.time.eras.filter fun e => !(decide (eraAddr e.num ≤ a) && decide (a < eraAddr e.num + 64)) }
    gaz := { s.gaz with g0 := loseAt (placeLife 0) a s.gaz.g0
                        lifeNv := s.gaz.lifeNv.zipIdx.map fun p => loseAt (placeLife (p.2 + 1)) a p.1 } }

/-- What the recorder makes of an uncorrectable word in its own memory (18 R480, R482). -/
def gazUe (a : Nat) (s : State) : State :=
  let r := regionOf a
  if r = 6 then let n := (a - 0x5A0000) / 64; gazFail 0x02 6 n a (listBad false n (dropSlot false n s)).1
  else if r = 7 then let n := (a - 0x6A0000) / 64; gazFail 0x04 7 n a (listBad true n (dropSlot true n s)).1
  else if 0x7C9000 ≤ a ∧ a < 0x7C9200 then
    let g := s.gaz
    let code := (s.open' % 256).toNat
    hit 0x2400 7 { s.used with gaz := { g with words := eraseKey ((a - 0x7C9000) / 64) g.words, lwFail := true, aoCount := sat 255 (g.aoCount + 1)
                                               aoLast := code, aoFirst := if g.aoCount = 0 then code else g.aoFirst } }
  else match (List.range 9).find? fun g => (inCopy (placeLife g) a).isSome with
    | some 0 => gazFail 0x05 10 0 a s
    | some g => gazFail 0x06 10 g a s
    | none => s

/-- The scrub reads a word and rewrites one that needed correction; a rewrite that does not read back is a verify failure. -/
def scrub (addr : Nat) (x : Scrub) (s : State) : State :=
  if !s.awake then s
  else
    let a := addr / 8 * 8
    let s := { s with nvs := { s.nvs with scrubBusy := x != .passEnd } }
    let ce := fun (s : State) => { s with nvs := { s.nvs with ceCnt := sat 65535 (s.nvs.ceCnt + 1) } }
    match x with
    | .clean => s
    | .corrected => addWrites (regionOf a) 1 (ce s)
    | .uncorrectable => gazUe a (ueFound (regionOf a) a (loseWord a s))
    | .rewriteFails =>
      let s1 := addWrites (regionOf a) 1 (ce s)
      verifyFail (regionOf a) a { s1 with nvs := { s1.nvs with deadWords := if s1.nvs.deadWords.contains a then s1.nvs.deadWords else s1.nvs.deadWords ++ [a] } }
    | .passEnd => { s with nvs := { s.nvs with passes := (s.nvs.passes + 1) % 2 ^ 32 } }

/-! Meanings of the rows. -/

def execRefClockLost (t : Nat) (s : State) := run t Sys2Proof.Machine.refClockLost s
def execRefClockRestored (t : Nat) (s : State) := run t Sys2Proof.Machine.refClockRestored s
def execLfClockLost (t : Nat) (s : State) := run t Sys2Proof.Machine.lfClockLost s
def execLfClockProven (t : Nat) (s : State) := run t Sys2Proof.Machine.lfClockProven s
def execPllUnlock (t pll : Nat) (s : State) := run t (Sys2Proof.Machine.pllUnlock pll) s
def execPllRelock (t pll : Nat) (s : State) := run t (Sys2Proof.Machine.pllRelock pll) s
def execHousekeepingRound (t : Nat) (temps : List (Option Int)) (rails : List Nat) (parity : Bool) (s : State) :=
  run t (housekeeping temps rails parity) s
def execFarTempCheck (t link : Nat) (temp : Option Int) (s : State) := run t (Sys2Proof.Machine.farTempCheck link temp) s
def execThermalShutdownEnd (t site : Nat) (s : State) := run t (shutdownEnd site) s
def execAuthLockEnd (t slot : Nat) (s : State) := run t (fun s => if s.awake then lockEnds slot s else s) s
def execSettingsPeriodicCommit (t : Nat) (s : State) := run t Sys2Proof.Machine.periodicCommit s
def execMramScrub (t addr : Nat) (found : Scrub) (s : State) := run t (scrub addr found) s

end Sys2Proof.Machine
end

