-- ==== Sys2Proof/Machine/CanEvents.lean ====
section
/-!
DEFINITION. What happens on the CAN buses: frames received and sent, errors, bus-off and failover, address claims, sleep (12
R341-R357; 02 R60; 22 R530).
-/
namespace Sys2Proof.Machine

/-- A channel's controller runs: it has a record, its transceiver is not in standby, the CAN clock is not held (01 R37). -/
def canLive (ch : Nat) (s : State) : Bool :=
  s.awake && !s.clk.held.contains 2 && (s.datum.canRec ch).isSome && decide ((s.canCh ch).state < 3) && !(s.canCh ch).standby
/-- It may send: its mode is not LISTEN_ONLY (Table 12-1). -/
def canSends (ch : Nat) (s : State) : Bool := canLive ch s && (s.datum.canRec ch).any fun r => cnMode r != 3

/-- REC's open value after a reception from above 127 (R349). -/
def recValue (s : State) : Nat := (s.open' % 9).toNat

/-- A request over CAN in a WATCH cycle is discarded and counted (02 R60). -/
def cycleRequest (ch : Nat) (f : CanFrame) (s : State) : Bool :=
  s.pwr.cycle.isSome && !ideOf f && (s.datum.canCmd ch).any fun r => f.id % 2048 == ccReq r

/-- A complete frame (R341). -/
def frameIn (ch sof : Nat) (f : CanFrame) (s : State) : State :=
  match s.datum.canRec ch with
  | none => s
  | some r =>
    let v := recValue s
    let s1 := if 127 < (s.canCh ch).rec' then s.used else s
    let heard := fun (c : CanCh) => errState { c with rec' := recDown v c.rec' }
    if cableFrame ch f s1 then cableReceive sof f (canStep ch sof heard s1)
    else if cycleRequest ch f s1 then
      canStep ch sof (fun c => heard { c with cmdBad := sat 255 (c.cmdBad + 1) }) s1
    else strayRequests ch (claimsLost ch (canStep ch sof (canReceive s1.datum r s1.now (frameOf s1.now) sof v f) s1))

/-- The channel's transmit ring can give its next entry, and the FIFO takes it. -/
def canTake (ch : Nat) (recs : List Bytes) (s : State) : Bool :=
  let x := s.ring (41 + ch)
  let c := s.canCh ch
  canSends ch s && x.enable && decide (0 < recs.length) && decide (recs.length = u8 (recs.headD []) 15 / 4 % 4 + 1) &&
    decide (recs.length ≤ x.waiting) && decide (c.fifo.length < 32) &&
    (s.datum.canRec ch).any fun r => decide (hostFrames c < hostMaxOf s.datum r)

/-- A host frame enters the FIFO (R346); an outcome noted for an earlier frame of its tag is forgotten (R348). -/
def ringTake (ch : Nat) (recs : List Bytes) (s : State) : State :=
  if !canTake ch recs s then s
  else
    let x := s.ring (41 + ch)
    let (f, attrs, tag) := ringFrame recs
    let key := noteKey ch tag
    let s1 := { s with can := s.can.map fun c => { c with outcomes := c.outcomes.filter fun p => p.1 != key } }
    let c := s1.canCh ch
    let fr : TxFrame := { frame := f, attrs, tag, enq := s1.now, origin := ch, fw := false, out := none, cancel := none }
    writeShadow (41 + ch) ((setCan { c with fifo := c.fifo ++ [fr] } s1).setRing (41 + ch) { x with dev := (x.dev + recs.length) % x.size })

def State.canRecord (s : State) (ch : Nat) : Bytes := (s.datum.canRec ch).getD []
def txDone (ch sof : Nat) (s : State) : State := if canSends ch s then cancelsDone (canStep ch sof (txComplete (s.canRecord ch) sof) s) else s
def txFailed (ch sof : Nat) (lost : Bool) (s : State) : State :=
  if canSends ch s then cancelsDone (canStep ch s.now (txError (s.canRecord ch) sof lost) s) else s

/-- Errors seen while receiving (R349, ISO 11898-1); a protocol exception is counted (R337). -/
def rxFailed (ch : Nat) (kind : RxError) (s : State) : State :=
  if !canLive ch s then s
  else match kind with
    | .busError => canStep ch s.now (fun c => errState { c with rec' := c.rec' + 1 }) s
    | .dominantAfterFlag => canStep ch s.now (fun c => errState { c with rec' := c.rec' + 8 }) s
    | .protocolException => setCan { s.canCh ch with pexc := sat 65535 ((s.canCh ch).pexc + 1) } s

/-- Tags of the channel's frames whose cancel is decided in the present cycle: it applies before the move, so they stay (R352). -/
def cancelTags (ch : Nat) (s : State) : List Nat :=
  s.pending.filterMap fun c => match c with
    | .canTxCancel t d => if s.inCycle t ∧ p8 d 0 = ch then some (p32 d 4) else none
    | _ => none

/-- FAILOVER frames go to the partner's tail, each reported FAILED_OVER (R352). -/
def failover (ch : Nat) (s : State) : State :=
  let p := partnerOf ch
  let c := s.canCh ch
  let d := s.canCh p
  if !(s.datum.canRec ch).any cnPair ∨ 2 ≤ d.state then s
  else
    let q := moveFrames (fun x => !x.fw && x.origin == ch && (cancelTags ch s).contains x.tag) (32 - d.fifo.length) c.fifo
    let s1 := setCan { d with fifo := d.fifo ++ q.2 } (setCan { c with fifo := q.1 } s)
    q.2.foldl (fun a x => (outcomeRecs 0 3 ch x).foldl (fun b r => canRecords r.1 r.2 b) (setCan (noteOutcome 3 x (a.canCh ch)) a)) s1

/-- The transmit error counter has passed 255: bus-off (R349, R351, R352). `both`: the partner enters it in the same cycle. -/
def busGone (ch : Nat) (both : Bool) (s : State) : State :=
  match s.datum.canRec ch with
  | none => s
  | some r =>
    if canSends ch s = false ∨ 2 ≤ (s.canCh ch).state ∨ (s.canCh ch).tec < 256 then s
    else
      let s1 := canStep ch s.now (busOff r) s
      cancelsDone (if both then s1 else failover ch s1)

def recovered (ch : Nat) (s : State) : State :=
  let c := s.canCh ch
  if !canLive ch s || c.state != 2 || !c.recovering then s
  else raise 0x0A03 (leBytes 1 ch) (setCan { c with state := 0, recovering := false, tec := 0, rec' := 0 } s)

/-- 250 ms without a winning contender: the address is held, the command completes (R354). -/
def claimTimeout (ch : Nat) (s : State) : State :=
  let c := s.canCh ch
  match c.claim with
  | none => s
  | some k =>
    if canLive ch s = false ∨ k.holding = true ∨ s.now < k.since + usTicks 250000 then s
    else (waiting 0x0A04 ch s).foldl (fun a q => finish q stOk 0 k.addr a) (setCan { c with claim := some { k with holding := true } } s)

/-- The wake-up pattern at a standby transceiver with WAKE_EN: the channel's wake source latches (R357). -/
def wakePattern (ch : Nat) (s : State) : State :=
  if s.pwr.canWake.contains ch && s.pwr.ao && (s.time.asleep || (s.pwr.cycle.isSome && (s.canCh ch).standby)) then
    irq (4 + ch) (hit (0x6000 + 0x400 * ch) 4 (setCan { s.canCh ch with wake := true } s))
  else s

/-- 100 ms after the entry to sleep began the frames left in a FIFO go, each with its report (R357). -/
def sleepDiscard (ch : Nat) (s : State) : State :=
  let c := s.canCh ch
  if s.pwr.state ≠ 2 ∨ c.standby = false ∨ s.now < s.pwr.sleepAt + ticks100ms then s
  else
    cancelsDone (c.fifo.foldl (fun a x => (outcomeRecs 0 6 ch x).foldl (fun b r => canRecords r.1 r.2 b) a)
      (setCan (c.fifo.foldl (fun d x => noteOutcome 6 x d) { c with fifo := [] }) s))

/-! Meanings of the rows. -/

def execCanFrameReceive (t ch sof : Nat) (f : CanFrame) (s : State) :=
  run t (fun s => if canLive ch s ∧ (s.canCh ch).state ≠ 2 then frameIn ch sof f s else s) s
def execCanTxRingTake (t ch : Nat) (recs : List Bytes) (s : State) := run t (ringTake ch recs) s
def execCanTxComplete (t ch sof : Nat) (s : State) := run t (txDone ch sof) s
def execCanTxError (t ch : Nat) (x : TxFail) (s : State) :=
  run t (txFailed ch x.sof (match x.kind with | .busError => false | .lostArbitration => true)) s
def execCanBusOff (t ch : Nat) (both : Bool) (s : State) := run t (busGone ch both) s
def execCanRecoveryDone (t ch : Nat) (s : State) := run t (recovered ch) s
def execCanClaimTimeout (t ch : Nat) (s : State) := run t (claimTimeout ch) s
def execCanWakePattern (t ch : Nat) (s : State) := run t (wakePattern ch) s
def execCanSleepDiscard (t ch : Nat) (s : State) := run t (sleepDiscard ch) s
/-- The released transmitter sends recessive bits, which the controller sees as a bit error (R530). -/
def execCanDominantTimeout (t : Nat) (x : Reading) (s : State) := run t (txFailed x.unit x.value false) s
def execCanRxError (t ch : Nat) (kind : RxError) (s : State) := run t (rxFailed ch kind) s

end Sys2Proof.Machine
end

