-- ==== Sys2Proof/Machine/Registers.lean ====
section
/-!
DEFINITION. The register map: what a read of each register returns and what a write does, over PCIe and over SPI (23, 00 R5,
R6, 13 R360), and the rows that write or read one register.
-/
namespace Sys2Proof.Machine

def lo32 (v : Nat) : Nat := v % 2 ^ 32
def hi32 (v : Nat) : Nat := v / 2 ^ 32 % 2 ^ 32

/-! Reads, block by block; `o` is the offset from the block's base. -/

/-- SYS (Table 23-3). -/
def readSys (o : Nat) (s : State) : Nat :=
  if o = 0 then 0x9600B001
  else if 0x100 ≤ o ∧ o ≤ 0x108 then (s.near ((o - 0x100) / 4)).timeout
  else if 0x110 ≤ o ∧ o ≤ 0x118 then ilstatWord s.now (s.near ((o - 0x110) / 4))
  else if 0x120 ≤ o ∧ o ≤ 0x128 then ilerrWord (s.near ((o - 0x120) / 4))
  else if o = 0x130 then clkWord s.clk
  else if o = 0x140 then ledgerSelWord s
  else if o = 0x150 then safeWord s
  else if 0x160 ≤ o ∧ o ≤ 0x168 then sat 0xFFFFFFFF (s.near ((o - 0x160) / 4)).drop
  else if 0x180 ≤ o ∧ o ≤ 0x1B4 then u32 s.nvs.ledData (o - 0x180)
  else 0

/-- MER (Table 23-4); MER_NOW reads 0 until READY (R535). -/
def readMer (path : Path) (o : Nat) (s : State) : Nat :=
  if o = 0 then (if s.hif.ready then lo32 s.now else 0)
  else if o = 4 then (if s.hif.ready then (match path with | .pcie => s.time.hiPcie | .spi => s.time.hiSpi) else 0)
  else if o = 8 then (if s.hif.ready then merStatWord s else merStatWord s % 65536 / 16 * 16)
  else if o = 0x0C then ofS 32 s.time.slew
  else if o = 0x10 then s.settle
  else if o = 0x14 then merLateWord s
  else if o = 0x18 then s.time.ovr
  else 0

/-- HIF (Table 23-5). -/
def readHif (o : Nat) (s : State) : Nat :=
  if o = 0 then hifStatWord s
  else if o = 8 then lo32 s.hif.shadow
  else if o = 0x0C then hi32 s.hif.shadow
  else if o = 0x10 then s.hif.hbTimeout
  else if o = 0x18 then s.hif.hbLast
  else if o = 0x20 then lo32 s.hif.ringErr
  else if o = 0x24 then hi32 s.hif.ringErr
  else if o = 0x30 then spiStatWord s
  else if 0x100 ≤ o ∧ o < 0x100 + 16 * 46 then
    let x := s.ring ((o - 0x100) / 16)
    match o % 16 with
    | 0 => lo32 x.base
    | 4 => hi32 x.base
    | 8 => rcfgWord x
    | _ => rstatWord x
  else 0

/-- IC (Table 23-6) without the claim: IC_CLAIM_n reads by `claimRead`. -/
def readIc (o : Nat) (s : State) : Nat :=
  if o = 0 then icStatWord s.ic
  else if o = 4 then icSleepWord s.ic
  else if o = 0x10 then icItpriWord s.ic
  else if o = 0x14 then s.ic.tpin
  else if 0x40 ≤ o ∧ o < 0xC0 then
    (match o % 16 with
      | 8 => (s.ic.tgt ((o - 0x40) / 16)).claimx
      | 12 => icTstatWord s.ic ((o - 0x40) / 16)
      | _ => 0)
  else if 0x100 ≤ o ∧ o < 0x500 then
    (if s.hif.ready = false ∧ isInternalSrc ((o - 0x100) / 4) = true then 0 else icSrccfgWord s.ic ((o - 0x100) / 4))
  else if 0x500 ≤ o ∧ o < 0x520 then icPendWord s.ic ((o - 0x500) / 4)
  else if 0x520 ≤ o ∧ o < 0x540 then icInsvcWord s.ic ((o - 0x520) / 4)
  else 0

/-- AUTH, NVS, UPD and GAZ (Table 23-7). -/
def readAuth (o : Nat) (s : State) : Nat :=
  if s.hif.ready = false then 0
  else if o = 0 then authStatWord s
  else if 0x10 ≤ o ∧ o < 0x30 then (s.ctrRec ((o - 0x10) / 4)).last
  else if 0x30 ≤ o ∧ o < 0x50 then authFailWord s ((o - 0x30) / 4)
  else 0
def readNvs (o : Nat) (s : State) : Nat :=
  if o = 0 then nvsStatWord s.nvs else if o = 4 then nvsEccWord s.nvs else if o = 8 then s.nvs.passes else 0
def readUpd (o : Nat) (s : State) : Nat :=
  if o = 0 then updStatWord s
  else if o = 4 then 65536 * s.boot.secVer + s.secFloor
  else if o = 8 then updTrialWord s
  else if o = 12 then updBlocksWord s
  else 0
def readGaz (o : Nat) (s : State) : Nat :=
  if o = 0 then gazStatWord s
  else if o = 4 then s.gaz.bHours
  else if o = 8 then s.gaz.next
  else if o = 12 then 65536 * bSlot s + aUsed s
  else if o = 16 then 2 ^ 24 * s.gaz.aoCount + 256 * s.gaz.aoLast + s.gaz.aoFirst
  else if o = 20 then gazMaintWord s
  else 0

/-- PWR and THM (Table 23-8). -/
def readPwr (o : Nat) (s : State) : Nat :=
  if o = 0 then (if s.hif.ready then pwrStatWord s else 0)
  else if o = 4 then b2n s.pwr.haltSr
  else if o = 8 then s.pwr.haltSeconds
  else if o = 12 then lo32 s.pwr.wakeStamp
  else if o = 16 then hi32 s.pwr.wakeStamp
  else if 0x20 ≤ o ∧ o < 0x30 then 65536 * s.pwr.rails.getD (2 * ((o - 0x20) / 4) + 1) 0 + s.pwr.rails.getD (2 * ((o - 0x20) / 4)) 0
  else 0
def readThm (o : Nat) (s : State) : Nat :=
  if o = 0 then thmStatWord s
  else if 0x10 ≤ o ∧ o < 0x2C then siteWord (s.pwr.sites.getD ((o - 0x10) / 4) siteReset)
  else 0

/-- SEN (Table 23-9). -/
def readSen (o : Nat) (s : State) : Nat :=
  let l := s.senLog
  if o = 0 then senStatWord s
  else if o = 4 then 65536 * l.skipped + l.opens
  else if o = 8 then l.discard
  else if o = 0x10 then lo32 l.active
  else if o = 0x14 then hi32 l.active
  else if o = 0x18 then lo32 l.latched
  else if o = 0x1C then hi32 l.latched
  else if o = 0x20 then lo32 (pinFaults l)
  else if o = 0x24 then hi32 (pinFaults l)
  else if o = 0x28 then lo32 (pinWarns l)
  else if o = 0x2C then hi32 (pinWarns l)
  else 0

/-- VLV, FAN and UIO (Table 23-10). -/
def readVlv (o : Nat) (s : State) : Nat :=
  let p := s.links.viewP
  if o = 0 then vlvStatWord p
  else if o = 4 then vlvBankWord p
  else if o = 8 then vlvWarnWord p
  else if o = 12 then 65536 * sat 65535 p.denied + sat 65535 p.noPeak
  else if 0x40 ≤ o ∧ o < 0x80 then vlvChWord p ((o - 0x40) / 4)
  else 0
def readFan (o : Nat) (s : State) : Nat :=
  let p := s.links.viewP
  if o = 0 then fanStatWord p
  else if o = 4 then fanWarnWord p
  else if o = 8 then fanModeWord s.now (s.near 1).farSafe p
  else if 0x40 ≤ o ∧ o < 0x70 then fanChWord p ((o - 0x40) / 4)
  else 0
def readUio (o : Nat) (s : State) : Nat :=
  let p := s.links.viewI
  let safe := (s.near 2).farSafe
  if o = 0 then uioInWord p
  else if o = 4 then uioOutWord s.now safe p
  else if o = 8 then uioMask p uioFaulted
  else if o = 12 then uioMask p fun v => decide (v.warns ≠ 0)
  else if o = 16 then uioSafeWord safe p
  else if o = 20 then uioSupWord p
  else 0

/-- CAN (Table 23-11). -/
def readCan (o : Nat) (s : State) : Nat :=
  let c := s.canCh (o / 0x400)
  let k := o % 0x400
  if k = 0 then canStatWord c
  else if k = 4 then canErrWord c
  else if k = 8 then canCntWord c
  else if k = 12 then c.strangers
  else if k = 16 then c.mbLo
  else if k = 20 then c.mbHi
  else 0

/-- SVY, DRY and STO (Table 23-12). SVY_LOAD.MEAS is the engine's busy time, which the spec does not compute. -/
def readSvy (o : Nat) (s : State) : Nat :=
  if o = 0 then svyStatWord s
  else if o = 4 then svyResWord s
  else if o = 8 then s.svy.steps
  else if o = 12 then 65536 * s.svy.ue + s.svy.ce
  else if o = 16 then 2 ^ 20 * s.svy.peak + 1024 * svyMeas s.svy.steps + (match s.store.datum with | some d => loadMille (datumLoad d) | none => 0)
  else if o = 20 then svyPredWord s
  else 0
def readDry (o : Nat) (s : State) : Nat :=
  let p := s.plant
  if o = 0 then dryStatWord p
  else if 0x10 ≤ o ∧ o < 0x20 then dryTripWord p ((o - 0x10) / 4)
  else if 0x20 ≤ o ∧ o < 0x30 then dryRateWord p ((o - 0x20) / 4)
  else if o = 0x30 then routeMask p 2
  else if o = 0x34 then routeMask p 4
  else 0
def readSto (o : Nat) (s : State) : Nat :=
  if o = 0 then stoStatWord s
  else if o = 4 then lo32 (alarmMask s.plant)
  else if o = 8 then hi32 (alarmMask s.plant)
  else if o = 12 then stoCntWord s
  else 0

/-- The MSI-X table and its pending-bit array (Table 23-1, PCIe Base 3.0). -/
def readMsix (o : Nat) (s : State) : Nat :=
  if o < 0x200 then
    let e := s.hif.msix.getD (o / 16) (0, 0, true)
    match o % 16 with
    | 0 => lo32 e.1
    | 4 => hi32 e.1
    | 8 => e.2.1
    | _ => b2n e.2.2
  else if o = 0x800 then lo32 s.hif.pba
  else if o = 0x804 then hi32 s.hif.pba
  else 0

/-- A read of an aligned word at a BAR0 offset, without the two reads that change state (Table 23-1, R534). -/
def readWord (path : Path) (a : Nat) (s : State) : Nat :=
  if a < 0x400 then readSys a s
  else if a < 0x800 then readMer path (a - 0x400) s
  else if a < 0x1000 then readHif (a - 0x800) s
  else if a < 0x1800 then readIc (a - 0x1000) s
  else if a < 0x1C00 then readAuth (a - 0x1800) s
  else if a < 0x2000 then readNvs (a - 0x1C00) s
  else if a < 0x2400 then readUpd (a - 0x2000) s
  else if a < 0x2800 then readGaz (a - 0x2400) s
  else if a < 0x2C00 then readPwr (a - 0x2800) s
  else if a < 0x3000 then readThm (a - 0x2C00) s
  else if a < 0x4000 then readSen (a - 0x3000) s
  else if a < 0x5000 then readVlv (a - 0x4000) s
  else if a < 0x5800 then readFan (a - 0x5000) s
  else if a < 0x6000 then readUio (a - 0x5800) s
  else if a < 0x7000 then readCan (a - 0x6000) s
  else if a < 0x8000 then readSvy (a - 0x7000) s
  else if a < 0x8800 then readDry (a - 0x8000) s
  else if a < 0x9000 then readSto (a - 0x8800) s
  else if 0xE000 ≤ a ∧ a < 0x10000 then readMsix (a - 0xE000) s
  else 0

/-- MER_NOW_LO latches bits 63:32 for the path (02 R46). -/
def latchNow (path : Path) (s : State) : State :=
  { s with time := match path with
      | .pcie => { s.time with hiPcie := hi32 s.now }
      | .spi => { s.time with hiSpi := hi32 s.now } }

/-- The offset of IC_CLAIM_n. -/
def claimOf (a : Nat) : Option Nat := if 0x1040 ≤ a ∧ a < 0x10C0 ∧ a % 16 = 0 then some ((a - 0x1040) / 16) else none

/-- A claim read: all claims of a cycle use its assignment (14 R403). -/
def claimRead (n : Nat) (s : State) : State × Nat :=
  let asg := s.cy.asg.getD (assignment s.ic)
  let q := icClaim asg n s.ic
  ({ s with ic := q.1, cyc := { s.cy with asg := some asg } }, q.2)

/-- A read of an aligned word (R536: two reads change state). -/
def readReg (path : Path) (a : Nat) (s : State) : State × Nat :=
  if a = 0x400 then (latchNow path s, readWord path a s)
  else match claimOf a with
    | some n => claimRead n s
    | none => (s, readWord path a s)

/-! Writes. -/

/-- SYS_ILCFGn is writable while field outputs are disarmed (01 Table 1-3). -/
def writeIlcfg (n v : Nat) (s : State) : State :=
  if s.armed then s else s.setNear n { s.near n with timeout := clampN 10 10000 (v % 16384) }

/-- SYS_LEDGER_SEL latches an entry (16 R446). -/
def writeLedgerSel (v : Nat) (s : State) : State :=
  let n := v % 64
  { s with nvs := { s.nvs with
      ledSel := n, ledValid := (s.led n).isSome, ledData := match s.led n with | some e => ledBytes e | none => zeros 56 } }

/-- GAZ_CFG (18 R474). -/
def writeGazCfg (v : Nat) (s : State) : State :=
  let h := clampN 1 24 (v % 32)
  if h = s.gaz.bHours then s else closePeriod true true { s with gaz := { s.gaz with bHours := h } }

def emptyBuf : MsgBuf := { count := 0, stamp := 0, filter := 0, frame := { id := 0, dlc := 0, data := [] } }
def postAll (l : List (Nat × Bytes)) (s : State) : State := l.foldl (fun a p => post p.1 p.2 a) s

/-- CAN_MBBASE: a write that leaves the base non-zero writes all 32 slots out (12 R345). -/
def writeMbbase (ch : Nat) (hi : Bool) (v : Nat) (s : State) : State :=
  let c0 := s.canCh ch
  let c := if hi then { c0 with mbHi := lo32 v } else { c0 with mbLo := lo32 v / 4096 * 4096 }
  let s1 := setCan c s
  if mbBase c = 0 then s1
  else postAll ((List.range 32).map fun b => let m := c.bufs.getD b emptyBuf; slotWrites (mbBase c) b m.count m).flatten s1

/-- IC_DONE_n: a write that leaves the request at 1 sends a message again (14 R397, R400). A write of 0 and one to a frozen
target are ignored (R400, R401). -/
def doneWrite (n v : Nat) (s : State) : State :=
  if v % 256 = 0 ∨ (s.ic.tgt n).frozen = true then s
  else
    onIc (fun i0 => let i := icDone s.now n (v % 256) i0; i.setTgt n { i.tgt n with req := false }) s

def treset (v : Nat) (i : Ic) (now : Nat) : Ic := (List.range 8).foldl (fun a n => if bit v n then icTreset now n a else a) i

/-- A write of 1 to bit k of IC_SWSET: one event of source 240 + k (Table 14-7). -/
def swset (v : Nat) (s : State) : State := (List.range 16).foldl (fun a k => if bit v k then irq (240 + k) a else a) s

/-- A write of 1s to IC_PEND_w: the occurrences of the present cycle are kept (R537). -/
def pendClear (w v : Nat) (s : State) : State := { s with ic := icPendClear s.now w v s.cy.evs s.cy.pends s.ic }

/-- The MSI-X table: unmasking a vector sends its held message. -/
def writeMsix (o v : Nat) (s : State) : State :=
  let n := o / 16
  let e := s.hif.msix.getD n (0, 0, true)
  let e1 := match o % 16 with
    | 0 => (hi32 e.1 * 2 ^ 32 + lo32 v, e.2)
    | 4 => (lo32 v * 2 ^ 32 + lo32 e.1, e.2)
    | 8 => (e.1, lo32 v, e.2.2)
    | _ => (e.1, e.2.1, bit v 0)
  let s1 := { s with hif := { s.hif with msix := setAt n e1 s.hif.msix } }
  if e1.2.2 = false ∧ bit s.hif.pba n = true then msixSend n { s1 with hif := { s1.hif with pba := clearBits s1.hif.pba (2 ^ n) } } else s1

/-- SYS, HIF and IC writes. -/
def writeLow (a v : Nat) (s : State) : State :=
  if 0x100 ≤ a ∧ a ≤ 0x108 then writeIlcfg ((a - 0x100) / 4) v s
  else if 0x110 ≤ a ∧ a ≤ 0x118 then
    let n := (a - 0x110) / 4
    let x := s.near n
    s.setNear n { x with nearSilence := w1c s a v x.nearSilence 3, farSilence := w1c s a v x.farSilence 2 }
  else if a = 0x130 then
    { s with clk := { s.clk with pllUnlock := w1c s a v s.clk.pllUnlock 3, lfLost := w1c s a v s.clk.lfLost 2, refLost := w1c s a v s.clk.refLost 0 } }
  else if a = 0x140 then writeLedgerSel v s
  else if a = 0x800 then { s with hif := { s.hif with flr := w1c s a v s.hif.flr 4 } }
  else if a = 0x808 then { s with hif := { s.hif with shadow := hi32 s.hif.shadow * 2 ^ 32 + lo32 v / 256 * 256 } }
  else if a = 0x80C then { s with hif := { s.hif with shadow := lo32 v * 2 ^ 32 + lo32 s.hif.shadow } }
  else if a = 0x810 then writeHbcfg v s
  else if a = 0x814 then heartbeat v s
  else if a = 0x820 then { s with hif := { s.hif with ringErr := clearBits s.hif.ringErr (w1cMask s a v) } }
  else if a = 0x824 then { s with hif := { s.hif with ringErr := clearBits s.hif.ringErr (w1cMask s a v * 2 ^ 32) } }
  else if 0x900 ≤ a ∧ a < 0x900 + 16 * 46 then
    (match a % 16 with
      | 0 => writeRbase ((a - 0x900) / 16) v false s
      | 4 => writeRbase ((a - 0x900) / 16) v true s
      | 8 => writeRcfg ((a - 0x900) / 16) v s
      | _ => s)
  else if a = 0x1000 then { s with ic := { s.ic with retained := w1c s a v s.ic.retained 15 } }
  else if a = 0x1004 then { s with ic := icTsleep v s.ic }
  else if a = 0x1008 then onIc (fun i => treset v i s.now) s
  else if a = 0x100C then swset v s
  else if a = 0x1014 then { s with ic := { s.ic with tpin := v % 16 } }
  else if 0x1040 ≤ a ∧ a < 0x10C0 ∧ a % 16 = 4 then doneWrite ((a - 0x1040) / 16) v s
  else if 0x1100 ≤ a ∧ a < 0x1500 then onIc (icSrccfg ((a - 0x1100) / 4) v) s
  else if 0x1500 ≤ a ∧ a < 0x1520 then pendClear ((a - 0x1500) / 4) v s
  else s

/-- Writes of the other blocks. -/
def writeHigh (a v : Nat) (s : State) : State :=
  if a = 0x1C00 then
    { s with nvs := { s.nvs with bank1Fail := w1c s a v s.nvs.bank1Fail 2, ue := w1c s a v s.nvs.ue 1, verifyFail := w1c s a v s.nvs.verifyFail 0 } }
  else if a = 0x2400 then { s with gaz := { s.gaz with lwFail := w1c s a v s.gaz.lwFail 7, memFail := w1c s a v s.gaz.memFail 5 } }
  else if a = 0x2404 then writeGazCfg v s
  else if a = 0x2804 then (if s.armed then s else { s with pwr := { s.pwr with haltSr := bit v 0 } })
  else if a = 0x5814 then
    (if w1c s a v true 2 = false then { s with io := { s.io with dieReset := false }, links := { s.links with viewI := { s.links.viewI with dieReset := false } } }
     else s)
  else if 0x6000 ≤ a ∧ a < 0x7000 then
    let c := s.canCh ((a - 0x6000) / 0x400)
    (if a % 0x400 = 0 then setCan { c with wake := w1c s a v c.wake 4 } s
     else if a % 0x400 = 16 then writeMbbase c.ch false v s
     else if a % 0x400 = 20 then writeMbbase c.ch true v s
     else s)
  else if a = 0x7000 then
    { s with svy := { s.svy with repaired := w1c s a v s.svy.repaired 10, extUe := w1c s a v s.svy.extUe 9, tileUe := w1c s a v s.svy.tileUe 8 } }
  else if a = 0x8800 then { s with sto := { s.sto with reseeded := w1c s a v s.sto.reseeded 3, leaseExpired := w1c s a v s.sto.leaseExpired 2 } }
  else if 0xE000 ≤ a ∧ a < 0xE200 then writeMsix (a - 0xE000) v s
  else s

/-- A write of an aligned word at a BAR0 offset; other offsets ignore it (R5, R534). -/
def writeReg (a v : Nat) (s : State) : State := if a < 0x1800 then writeLow a v s else writeHigh a v s

/-- A write over PCIe: aligned 32-bit words only (13 R360). -/
def barWrite (addr size v : Nat) (s : State) : State :=
  if size = 4 ∧ addr % 4 = 0 ∧ s.hostOpen = true then writeReg addr (lo32 v) s else s

/-! Meanings of the rows. -/

def execMerNowLoRead (t : Nat) (path : Path) (s : State) := run t (fun s =>
  match path with
  | .pcie => if s.hostOpen then { latchNow .pcie s with host := { s.host with readData := readWord .pcie 0x400 s } } else s
  | .spi => if s.pwr.reset then s
            else { latchNow .spi s with spi := { s.spi with out := let b := leBytes 4 (readWord .spi 0x400 s); b ++ leBytes 2 (crc16 b) } }) s

/-- An occurrence at a source (14 R394, R410): an edge source counts, a GPL input takes its level; the other level sources
follow the state they show. -/
def sourceEvent (src : Nat) (level : Bool) (s : State) : State :=
  if s.pwr.reset then s
  else if 9 ≤ src ∧ src ≤ 24 then
    let s1 := { s with ic := { s.ic with gpl := if bit s.ic.gpl (src - 9) = level then s.ic.gpl
                                                else if level then s.ic.gpl + 2 ^ (src - 9) else s.ic.gpl - 2 ^ (src - 9) } }
    if s.time.asleep && level then { s1 with ic := icLatch s.now src s1.ic } else s1
  else irq src s

def execIcSourceEvent (t src : Nat) (level : Bool) (s : State) := run t (sourceEvent src level) s
def execIcCoalesceTimeout (t src : Nat) (s : State) := run t (fun s => if s.awake then onIc (icTimer s.now src) s else s) s

end Sys2Proof.Machine
end

