-- ==== Sys2Proof/Machine/Spi.lean ====
section
/-!
DEFINITION. The SPI target: register, buffer and mailbox transactions (13 R390, R391; 23 R534, R536).
-/
namespace Sys2Proof.Machine

/-- The SPI target answers from the release of RSTOUT_N on, asleep too (02 R60, 23 R535). -/
def State.spiOpen (s : State) : Bool := !s.pwr.reset

/-- The six bytes that begin a transaction: operation, address, length. -/
def spiHead (op : Nat) (x : SpiTx) : Bytes := leBytes 1 op ++ leBytes 3 x.addr ++ leBytes 2 x.len

/-- A write whose data came whole and whose CRC-16 is right (R390). -/
def spiWriteOk (op : Nat) (x : SpiTx) : Bool :=
  x.data.length == x.len && crc16 (spiHead op x ++ x.data) == x.crc

/-- A transaction is discarded and counted in CRC_ERR (Table 13-26). -/
def spiDiscard (s : State) : State := { s with spi := { s.spi with crcErr := sat 65535 (s.spi.crcErr + 1) } }

/-- The answer of a read: the data, then its CRC-16. -/
def spiAnswer (b : Bytes) (s : State) : State := { s with spi := { s.spi with out := b ++ leBytes 2 (crc16 b) } }

def spiRegWrite (x : SpiTx) (s : State) : State :=
  if s.spiOpen = false then s
  else if x.len ≠ 4 ∨ spiWriteOk 1 x = false then spiDiscard s
  else if x.addr % 4 ≠ 0 then s
  else writeReg x.addr (leNat x.data) s

def spiRegRead (x : SpiTx) (s : State) : State :=
  if s.spiOpen = false then s
  else if x.len ≠ 4 then spiDiscard s
  else if x.addr % 4 ≠ 0 then spiAnswer (leBytes 4 0xFFFFFFFF) s
  else let q := readReg .spi x.addr s; spiAnswer (leBytes 4 q.2) q.1

def spiLenOk (x : SpiTx) : Bool := decide (1 ≤ x.len) && decide (x.len ≤ 4096)
/-- Bytes of a transaction that lie in the 64 KB buffer. The spec does not say what those beyond it do: a write puts them nowhere, a
read of them gives open values (notes/assumptions/10.md). -/
def spiInBuffer (x : SpiTx) : Nat := min x.len (65536 - x.addr)
def spiBeyond (x : SpiTx) (s : State) : Bytes :=
  (List.range (x.len - spiInBuffer x)).map fun i => BitVec.ofInt 8 (Config.freeValue (s.free + i))

def spiBufWrite (x : SpiTx) (s : State) : State :=
  if s.spiOpen = false then s
  else if spiLenOk x = false ∨ spiWriteOk 3 x = false then spiDiscard s
  else { s with spi := { s.spi with buffer := memWrite s.spi.buffer x.addr (x.data.take (spiInBuffer x)) } }

def spiBufRead (x : SpiTx) (s : State) : State :=
  if s.spiOpen = false then s
  else if spiLenOk x = false then spiDiscard s
  else spiAnswer (memRead s.spi.buffer x.addr (spiInBuffer x) ++ spiBeyond x s) { s with free := s.free + (x.len - spiInBuffer x) }

/-- A post: one descriptor, while the mailbox is free (R391). -/
def spiPost (x : SpiTx) (s : State) : State :=
  if s.spiOpen = false then s
  else if x.addr ≠ 0 ∨ x.len ≠ 64 ∨ spiWriteOk 5 x = false ∨ s.spi.mailbox ≠ none then spiDiscard s
  else strayMailbox { s with spi := { s.spi with mailbox := some x.data } }

/-- The last completion entry; MB_DONE ends with its read (Table 13-26). -/
def spiMbRead (x : SpiTx) (s : State) : State :=
  if s.spiOpen = false then s
  else if x.addr ≠ 0 ∨ x.len ≠ 32 then spiDiscard s
  else spiAnswer s.spi.last { s with spi := { s.spi with mbDone := false } }

/-! Meanings of the rows. -/

def execSpiBufferWrite (t : Nat) (x : SpiTx) (s : State) := run t (spiBufWrite x) s
def execSpiBufferRead (t : Nat) (x : SpiTx) (s : State) := run t (spiBufRead x) s
def execSpiMailboxPost (t : Nat) (x : SpiTx) (s : State) := run t (spiPost x) s
def execSpiMailboxRead (t : Nat) (x : SpiTx) (s : State) := run t (spiMbRead x) s

end Sys2Proof.Machine
end

