-- ==== Sys2Proof/Machine/Collide.lean ====
section
/-!
DEFINITION. Register writes and claim reads of one clock cycle: a PCIe write applies before an SPI write of the same register, and
every write of a cycle before its claim reads (23 R537; 14 R403; notes/assumptions/69.md).
-/
namespace Sys2Proof.Machine

/-- The command writes a register over PCIe: its instant, the register's offset, the effect of the write. -/
structure HostWrite where
  t : Nat
  off : Nat
  go : State → State

/-- A write that LOGIC takes while the host reaches it. -/
def opened (ok : Bool) (go : State → State) (s : State) : State := if s.hostOpen && ok then go s else s

/-- The rows that write a register over PCIe (23 Tables 23-1 to 23-12). -/
def hostWrite (c : Instr) : Option HostWrite :=
  match c with
  | .registerWrite t a size v => some ⟨t, a, barWrite a size v⟩
  | .sysIlcfgWrite t n v => some ⟨t, 0x100 + 4 * n, opened (decide (n < 3)) (writeIlcfg n v)⟩
  | .sysLedgerSelWrite t v => some ⟨t, 0x140, fun s => if s.pwr.reset then s else writeLedgerSel v s⟩
  | .gazCfgWrite t v => some ⟨t, 0x2404, opened true (writeGazCfg v)⟩
  | .canMbbaseWrite t ch hi v => some ⟨t, 0x6000 + 0x400 * ch + (if hi then 20 else 16), opened (decide (ch < 4)) (writeMbbase ch hi v)⟩
  | .hifHbkick t v => some ⟨t, 0x814, opened true (heartbeat v)⟩
  | .hifHbcfgWrite t v => some ⟨t, 0x810, opened true (writeHbcfg v)⟩
  | .ringEnable t ring v => some ⟨t, 0x908 + 16 * ring, opened true (writeRcfg ring v)⟩
  | .ringDisable t ring v => some ⟨t, 0x908 + 16 * ring, opened true (writeRcfg ring v)⟩
  | .icDone t n v => some ⟨t, 0x1044 + 16 * n, opened (decide (n < 8)) (doneWrite n v)⟩
  | .icTreset t v => some ⟨t, 0x1008, opened true (fun s => onIc (fun i => treset v i s.now) s)⟩
  | .icSwset t v => some ⟨t, 0x100C, opened true (swset v)⟩
  | .icPendClear t w v => some ⟨t, 0x1500 + 4 * w, opened (decide (w < 8)) (pendClear w v)⟩
  | .icSrccfgWrite t src v => some ⟨t, 0x1100 + 4 * src, opened (decide (src < 256)) (onIc (icSrccfg src v))⟩
  | .icTsleepWrite t v => some ⟨t, 0x1004, opened true (fun s => { s with ic := icTsleep v s.ic })⟩
  | _ => none

/-- The command writes a register over SPI: its instant and effect. -/
def spiWrite (c : Instr) : Option (Nat × (State → State)) :=
  match c with
  | .spiRegisterWrite t x => some (t, spiRegWrite x)
  | _ => none

/-- A write takes effect before its turn. -/
def applyEarly (c : Instr) (go : State → State) (s : State) : State :=
  let s1 := go s
  { s1 with cyc := { s1.cy with early := c :: s1.cy.early } }
/-- A write has its turn: nothing is left to do when it took effect before. -/
def inTurn (c : Instr) (go : State → State) (s : State) : State :=
  if s.cy.early.contains c then { s with cyc := { s.cy with early := s.cy.early.erase c } } else go s

/-- The waiting PCIe writes of the present cycle that `p` picks by their offset take effect. -/
def hostFirst (p : Nat → Bool) (s : State) : State :=
  s.pending.foldl (fun a c => match hostWrite c with
    | some w => if s.inCycle w.t && p w.off && !a.cy.early.contains c then applyEarly c w.go a else a
    | none => a) s
/-- Every waiting register write of the present cycle takes effect, those over PCIe first. -/
def writesFirst (s : State) : State :=
  s.pending.foldl (fun a c => match spiWrite c with
    | some w => if s.inCycle w.1 && !a.cy.early.contains c then applyEarly c w.2 a else a
    | none => a) (hostFirst (fun _ => true) s)

/-- A row that writes a register over PCIe has its turn. -/
def runWrite (c : Instr) (s : State) : State := match hostWrite c with | some w => inTurn c w.go s | none => s

/-- An SPI write: a PCIe write of the cycle to the register applies first, and the SPI value stands. -/
def spiWriteTurn (t : Nat) (x : SpiTx) (s : State) : State :=
  inTurn (.spiRegisterWrite t x) (fun s => spiRegWrite x (hostFirst (fun off => off == x.addr) s)) s
/-- The controller at a read: a claim read comes after the writes of its cycle, and coalescing timers have run on. -/
def readTurn (a : Nat) (s : State) : State :=
  if a < 0x1000 ∨ 0x1800 ≤ a then s else timersUp (if (claimOf a).isSome then writesFirst s else s)
/-- An SPI read. -/
def spiReadTurn (x : SpiTx) (s : State) : State := spiRegRead x (readTurn x.addr s)
/-- IC_CLAIM_n over PCIe. -/
def hostClaim (n : Nat) (s : State) : State :=
  if s.hostOpen && decide (n < 8) then
    let q := claimRead n (timersUp (writesFirst s))
    { q.1 with host := { q.1.host with readData := q.2 } }
  else s

/-! Meanings of the rows. -/

def execRegisterWrite (t addr size v : Nat) (s : State) := run t (runWrite (.registerWrite t addr size v)) s
def execSysIlcfgWrite (t n v : Nat) (s : State) := run t (runWrite (.sysIlcfgWrite t n v)) s
def execSysLedgerSelWrite (t v : Nat) (s : State) := run t (runWrite (.sysLedgerSelWrite t v)) s
def execGazCfgWrite (t v : Nat) (s : State) := run t (runWrite (.gazCfgWrite t v)) s
def execCanMbbaseWrite (t ch : Nat) (hi : Bool) (v : Nat) (s : State) := run t (runWrite (.canMbbaseWrite t ch hi v)) s
def execHifHbkick (t v : Nat) (s : State) := run t (runWrite (.hifHbkick t v)) s
def execHifHbcfgWrite (t v : Nat) (s : State) := run t (runWrite (.hifHbcfgWrite t v)) s
def execRingEnable (t ring v : Nat) (s : State) := run t (runWrite (.ringEnable t ring v)) s
def execRingDisable (t ring v : Nat) (s : State) := run t (runWrite (.ringDisable t ring v)) s
def execIcClaim (t n : Nat) (s : State) := run t (hostClaim n) s
def execIcDone (t n v : Nat) (s : State) := run t (runWrite (.icDone t n v)) s
def execIcTreset (t v : Nat) (s : State) := run t (runWrite (.icTreset t v)) s
def execIcSwset (t v : Nat) (s : State) := run t (runWrite (.icSwset t v)) s
def execIcPendClear (t w v : Nat) (s : State) := run t (runWrite (.icPendClear t w v)) s
def execIcSrccfgWrite (t src v : Nat) (s : State) := run t (runWrite (.icSrccfgWrite t src v)) s
def execIcTsleepWrite (t v : Nat) (s : State) := run t (runWrite (.icTsleepWrite t v)) s
def execSpiRegisterWrite (t : Nat) (x : SpiTx) (s : State) := run t (spiWriteTurn t x) s
def execSpiRegisterRead (t : Nat) (x : SpiTx) (s : State) := run t (spiReadTurn x) s

end Sys2Proof.Machine
end

