-- ==== Sys2Proof/Machine/FieldEvents.lean ====
section
/-!
DEFINITION. What happens at the POWER and IO dies as time passes: valve phases and diagnostics, fans, universal channels, their
supplies and the dies' resets (09 R272-R293; 10 R297-R313; 11 R316-R334; 20 R509).
-/
namespace Sys2Proof.Machine

/-- A change of the POWER die while it has its supply. -/
def atPower (f : State → PowerSt → PowerSt) (s : State) : State := if dieDown 1 s then s else onPower (f s) s
/-- A change of the IO die, with the samples it sends. -/
def atIo (f : State → IoSt → IoSt × List RecBody) (s : State) : State := if dieDown 2 s then s else putIo (f s s.io) s
/-- The same without samples. -/
def atIoOnly (f : State → IoSt → IoSt) (s : State) : State := atIo (fun s p => (f s p, [])) s

/-- A fan channel of the POWER die changes. -/
def atFan (ch : Nat) (f : State → FanEnv → PowerSt → FanSt → FanSt) (s : State) : State :=
  atPower (fun s p => match p.fan ch with | some v => p.setFan (f s s.fanEnv p v) | none => p) s

/-- Samples that carry a given short stamp (10 R313, 11 R321). -/
def pushShort (k short : Nat) (b : RecBody) (s : State) : State :=
  let x := s.far k
  if 64 ≤ x.queue.length then s.setFar k { x with drops := sat 0xFFFFFFFF (x.drops + 1) }
  else s.setFar k { x with recNo := (x.recNo + 1) % 256, queue := x.queue ++ [{ num := x.recNo, short, body := b, sent := none, took := s.now }] }

/-! Valves. -/

/-- The valve rows of the cycle that still wait in the queue, as the die would take them. -/
def valveRow (c : Instr) (s : State) : State :=
  match c with
  | .vlvPeakReached _ x => atPower (fun s => valvePeak s.now x.unit x.value) s
  | .vlvHoldReached _ x => atPower (fun s => valveHold s.now x.unit x.value) s
  | .vlvDecayEnd _ x => atPower (fun s => valveDecayEnd s.now x.unit x.value) s
  | .vlvPeakTimeout _ ch => atPower (fun s => valvePeakTimeout s.now ch) s
  | .vlvOnStateFault _ ch x => atPower (fun s => onStateFault s.now ch x.since x.v1 x.v2 x.i0 x.i1 x.i2) s
  | .vlvOpenTest _ ch iDet vd => atPower (fun s => openTest s.now ch iDet vd) s
  | .vlvThermalTick _ i2 tmp => atPower (fun s => thermalTick s.now (s.dieNow 1) s.fanEnv.linkUp i2 tmp) s
  | .farFrameReceive _ 1 dmg => farFrame 1 dmg s
  | _ => s
def valveRows (s : State) : State :=
  (s.pending.filter fun c => match c with
    | .vlvPeakReached t _ | .vlvHoldReached t _ | .vlvDecayEnd t _ | .vlvPeakTimeout t _ | .vlvOnStateFault t _ _
    | .vlvOpenTest t _ _ _ | .vlvThermalTick t _ _ | .farFrameReceive t _ _ => s.inCycle t
    | _ => false).foldl (fun a c => valveRow c a) s

/-- A release of the cycle in which DEFER_MAX runs out wins (R279). -/
def releaseWins (ch : Nat) (s : State) : Bool := (stateIs s.power ch 1).isSome && (stateIs (valveRows s).power ch 1).isNone
def deferTimeout (ch : Nat) (s : State) : State :=
  if releaseWins ch s then s
  else atPower (fun s => valveDeferTimeout s.now ch) s

/-- A first sample at I_PEAK, or a loss of VFLD, in the cycle in which T_PEAK_MAX runs out wins (R274, R291). -/
def peakWins (ch : Nat) (s : State) : Bool :=
  s.pending.any fun c => match c with
    | .vlvPeakReached t x => s.inCycle t && x.unit == ch && codeReaches (s.power.vrec ch) x.value (vaIPeak (s.power.vrec ch))
    | .fieldSupplyOff t ⟨.vfldPower, mv⟩ => s.inCycle t && decide (mv < s.power.cfg.uvOff)
    | _ => false
def peakTimeout (ch : Nat) (s : State) : State := if peakWins ch s then s else atPower (fun s => valvePeakTimeout s.now ch) s

/-- A movement report leaves with its instant; its time enters the valve's lifetime counters (R290; 18 R484). -/
def valveMovement (ch : Nat) (bins : List Int) (s : State) : State :=
  if dieDown 1 s then s
  else match movement s.now ch bins s.power with
    | (p, none) => putPower p s
    | (p, some (b, at')) =>
      let s1 := pushRec 1 at' b (putPower p s)
      match b with
      | .sample _ _ v => onValve ch (lifeMove (v % 65536).toNat) s1
      | _ => s1

/-! Fans. -/

/-- The die as the edges and the frames of the present cycle that still wait in the queue leave it: an edge counts and a target of 0
wins over the judgement of the same cycle (R308). -/
def fanFirst (ch : Nat) (s : State) : State :=
  (s.pending.filter fun c => match c with
    | .fanTachEdge t k _ => s.inCycle t && k == ch
    | .farFrameReceive t k _ => s.inCycle t && k == 1
    | _ => false).foldl (fun a c => match c with
      | .fanTachEdge _ _ us => atFan ch (fun _ e p v => tachEdge e (p.frec ch) us v) a
      | .farFrameReceive _ _ dmg => farFrame 1 dmg a
      | _ => a) s

/-- The start window ends, unless an edge of the cycle ends START (R305, R308). -/
def windowEnd (ch i : Nat) (s : State) : State :=
  let q := fanFirst ch s
  match q.power.fan ch with
  | some g => if g.state = 1 then atFan ch (fun _ _ p v => startWindowEnd q.fanEnv q.power.supplyOff (q.power.fcmd ch) (p.frec ch) i v) s else s
  | none => s
/-- A running fan is judged; an edge of the cycle leaves it not silent (R306, R308). -/
def judgeRun (ch i : Nat) (s : State) : State :=
  let q := fanFirst ch s
  match q.power.fan ch with
  | some g => atFan ch (fun _ _ p v =>
      runJudge q.fanEnv q.power.supplyOff (q.power.fcmd ch) (p.frec ch) i (tachSilent s.now (p.frec ch) g) v) s
  | none => s

/-- The three samples of the plant frame (R313). -/
def fanReport (ch i : Nat) (s : State) : State :=
  if dieDown 1 s then s
  else match s.power.fan ch with
    | none => s
    | some v =>
      let short := dieShort (s.far 1) s.now
      let q := frameReport s.fanEnv s.power.supplyOff (s.power.fcmd ch) (s.power.frec ch) i short v
      q.2.foldl (fun a b => pushShort 1 (reportUnit short) b a) (onPower (fun p => p.setFan q.1) s)

/-! Universal channels. -/

/-- Instants of an input's samples: the last at this instant, one sample period apart (R318). -/
def sampleAt (now : Nat) (r : Bytes) (back : Nat) : Nat := now - back * (125 * 2 ^ ucSperiod r) * 16777216 / 1000000
/-- The die takes one sample of an input; an edge sample leaves with the sample's instant (R318-R322). -/
def inputSample (ch back : Nat) (x : Nat × Nat × Nat) (s : State) : State :=
  match s.io.chan ch with
  | none => s
  | some v =>
    let r := s.io.urec ch
    let at' := sampleAt s.now r back
    let w := uioSample r s.io.cfg.uvOff (unitFrame (dieShort (s.far 2) at')) x v
    (edgeSample r s.io.cfg.uvOff x v w).foldl (fun a b => pushRec 2 at' b a) (putIo (s.io.setChan w, []) s)
/-- The samples since those taken last, oldest first. -/
def inputSamples (ch : Nat) (l : List (Nat × Nat × Nat)) (s : State) : State :=
  if dieDown 2 s || !ucIsIn (s.io.urec ch) then s
  else l.zipIdx.foldl (fun a q => inputSample ch (l.length - 1 - q.2) q.1 a) s

/-- The report of a frame, after the samples that came before it (R321). -/
def uioFrame (ch current : Nat) (l : List (Nat × Nat × Nat)) (s0 : State) : State :=
  let s := inputSamples ch l s0
  if dieDown 2 s then s
  else match s.io.chan ch with
    | none => s
    | some v =>
      let short := dieShort (s.far 2) s.now
      let low := uioSupOff s.io ch
      if ucIsIn (s.io.urec ch) then
        let q := uioReportFrame short (low && l.isEmpty) (s.io.urec ch) v
        q.2.foldl (fun a b => pushShort 2 (uioUnit short) b a) (putIo (s.io.setChan q.1, []) s)
      else
        let q := outputReport s.now (s.far 2).safe low s.io current short s.open' v
        (q.2.foldl (fun a b => pushShort 2 (uioUnit short) b a) (putIo (s.io.setChan q.1, []) s)).used

def ioSafe (s : State) : Bool := (s.far 2).safe

/-! Supplies (Table 11-7). -/

/-- A supply in mV below UV_OFF, or at least 1.0 V above it, by the record of the die that judges it. -/
def dieCfg (x : Supply) (s : State) : Datum := match x with | .vfldPower => s.power.cfg | _ => s.io.cfg
def belowOff (x : Supply) (mv : Nat) (s : State) : Bool := decide (mv < (dieCfg x s).uvOff)
def supplyAbove (x : Supply) (mv : Nat) (s : State) : Bool := decide ((dieCfg x s).uvOff + 1000 ≤ mv)

def powerSupplyOff (s : State) : State :=
  atPower (fun s p => let q := valveSupplyOff s.now p; { q with supplyOff := true, fans := q.fans.map (fanSupplyOff s.now) }) s
def powerSupplyBack (s : State) : State :=
  atPower (fun s p =>
    let e := s.fanEnv
    let q := valveRecover s.now { p with supplyOff := false }
    { q with fans := q.fans.map fun f => fanRecover e (q.fcmd f.ch) (q.frec f.ch) f }) s

def supplyOff (x : Supply) (mv : Nat) (s : State) : State :=
  if !belowOff x mv s then s
  else match x with
  | .vfldPower => powerSupplyOff s
  | .vfldIo => atIoOnly (fun _ p => ioSupplyOff none (p.sees mv)) s
  | .segment n => atIoOnly (fun _ p => ioSupplyOff (some n) p) s
def supplyBack (x : Supply) (mv : Nat) (s : State) : State :=
  if !supplyAbove x mv s then s
  else match x with
  | .vfldPower => if s.power.supplyOff then powerSupplyBack s else s
  | .vfldIo => atIoOnly (fun _ p => ioRecover none (p.sees mv)) s
  | .segment n => atIoOnly (fun _ p => ioRecover (some n) p) s

/-- The event is raised once while UV_WARN is in force. -/
def uvWarning (vfld : Nat) (s : State) : State :=
  atIo (fun _ p => if p.cfg.uvWarn ≤ vfld then (p, [])
    else (ioUvWarn true vfld p, if p.uvWarn then [] else [.report 0x0902 (zeros 2 ++ leBytes 2 vfld)])) s
/-- VFLD is back at UV_WARN + 1.0 V. -/
def uvWarnOver (vfld : Nat) (s : State) : State :=
  atIoOnly (fun _ p => if vfld < p.cfg.uvWarn + 1000 then p else ioUvWarn false vfld p) s

/-! A die loses its supply below 7.0 V and starts again (R293, R311, R334; 20 R509). -/

/-- Its state and its configuration are gone; it will start safe with cause 4. -/
def dieReset (k mv : Nat) (s : State) : State :=
  if (k ≠ 1 ∧ k ≠ 2) ∨ 7000 ≤ mv then s
  else
    let s1 := s.setFar k { farReset true 4 with down := true, at' := s.now }
    let s2 := { s1 with upd := { s1.upd with seqRun := setAt k false s1.upd.seqRun } }
    if k = 1 then { s2 with power := powerReset } else { s2 with io := { ioReset with dieReset := true } }
/-- The supply is back: the die's local count begins (notes/assumptions/20.md). -/
def dieRestart (k mv : Nat) (s : State) : State :=
  if (s.far k).down && decide (7500 ≤ mv) then s.setFar k { s.far k with down := false, at' := s.now } else s

/-! Meanings of the rows. -/

def execVlvPeakReached (t : Nat) (x : Reading) (s : State) := run t (atPower fun s => valvePeak s.now x.unit x.value) s
def execVlvDwellEnd (t ch : Nat) (s : State) := run t (atPower fun s => valveDwellEnd s.now ch) s
def execVlvHoldReached (t : Nat) (x : Reading) (s : State) := run t (atPower fun s => valveHold s.now x.unit x.value) s
def execVlvDecayEnd (t : Nat) (x : Reading) (s : State) := run t (atPower fun s => valveDecayEnd s.now x.unit x.value) s
def execVlvPeakTimeout (t ch : Nat) (s : State) := run t (peakTimeout ch) s
def execVlvDeferTimeout (t ch : Nat) (s : State) := run t (deferTimeout ch) s
def execVlvThermalTick (t : Nat) (i2 : List Nat) (dieTemp : Int) (s : State) :=
  run t (atPower fun s => thermalTick s.now (s.dieNow 1) s.fanEnv.linkUp i2 dieTemp) s
def execVlvResistanceMeasure (t ch sumV sumI meanI : Nat) (s : State) :=
  run t (atPower fun s => resistanceMeasure s.now ch sumV sumI meanI) s
def execVlvOffStateTest (t ch vDrain vBank : Nat) (s : State) := run t (atPower fun s => offStateTest s.now ch vDrain vBank) s
def execVlvOnStateFault (t ch : Nat) (x : OnStateReading) (s : State) :=
  run t (atPower fun s => onStateFault s.now ch x.since x.v1 x.v2 x.i0 x.i1 x.i2) s
def execVlvOpenTest (t ch iDet vDrain : Nat) (s : State) := run t (atPower fun s => openTest s.now ch iDet vDrain) s
def execBankShort (t : Nat) (x : BankReading) (s : State) := run t (atPower fun _ => Sys2Proof.Machine.bankShort x.bank x.since x.top x.sup) s
def execBankStuckOn (t : Nat) (x : Reading) (s : State) := run t (atPower fun _ => bankStuck x.unit x.value) s
def execVlvMovement (t ch : Nat) (bins : List Int) (s : State) := run t (valveMovement ch bins) s
def execClampLow (t vfld : Nat) (s : State) := run t (atPower fun _ => Sys2Proof.Machine.clampLow vfld) s

def execFanTachEdge (t ch us : Nat) (s : State) := run t (atFan ch fun _ e p v => tachEdge e (p.frec ch) us v) s
def execFanStartWindowEnd (t ch i : Nat) (s : State) :=
  run t (windowEnd ch i) s
def execFanRunJudge (t ch i : Nat) (s : State) := run t (judgeRun ch i) s
def execFanOutputFault (t ch : Nat) (x : FanOutReading) (s : State) :=
  run t (atFan ch fun _ e p v => outputFault e (p.frec ch) x.mv x.limit x.off v) s
def execFanRetryTimeout (t ch : Nat) (s : State) := run t (atFan ch fun _ e p v => retryTimeout e (p.fcmd ch) (p.frec ch) v) s
def execFanRun60s (t ch : Nat) (s : State) := run t (atFan ch fun _ e _ v => run60 e v) s
def execFanLoopTick (t ch : Nat) (s : State) := run t (atFan ch fun _ e p v => loopTick e p.cmd.slots (p.fcmd ch) (p.frec ch) v) s
def execFanTableTick (t ch : Nat) (s : State) := run t (atFan ch fun _ e p v => tableTick e p.cmd.slots (p.frec ch) v) s
def execFanTsnsRead (t ch : Nat) (temp : Int) (s : State) := run t (atFan ch fun _ e _ v => tsnsRead e temp v) s
def execFanBinLearn (t ch i : Nat) (s : State) := run t (atFan ch fun _ e p v => binLearn e (p.frec ch) i v) s
def execFanFrameReport (t ch i : Nat) (s : State) := run t (fanReport ch i) s
def execFanReferenceSlew (t ch : Nat) (s : State) :=
  run t (atFan ch fun _ e p v => fanSlew e p.supplyOff (p.fcmd ch) (p.frec ch) v) s

def execUioFilterChange (t ch : Nat) (samples : List (Nat × Nat × Nat)) (s : State) := run t (inputSamples ch samples) s
def execUioWireBreak (t ch : Nat) (before : List (Nat × Nat × Nat)) (last : Nat × Nat × Nat) (s : State) :=
  run t (inputSamples ch (before ++ [last])) s
def execUioFrameReport (t ch : Nat) (x : FrameReading) (s : State) := run t (uioFrame ch x.current x.samples) s
def execUioPwmPeriod (t ch : Nat) (s : State) := run t (atIoOnly fun s => pwmPeriod s.now ch) s
def execUioOverload (t : Nat) (x : OverReading) (s : State) := run t (atIoOnly fun s => overload s.now (ioSafe s) x.ch x.ms x.curs) s
def execUioBudgetOverload (t : Nat) (x : BudgetSums) (s : State) := run t (atIoOnly fun _ => budgetOverload x.what x.sums) s
def execUioOpenLoad (t ch : Nat) (x : OpenReading) (s : State) := run t (atIoOnly fun s => openLoad s.now (ioSafe s) ch x.cur x.pin x.sup) s
def execUioOffStateTest (t ch pinMv : Nat) (s : State) := run t (atIoOnly fun s => uioOffTest s.now (ioSafe s) ch pinMv) s
def execUioCrossfeedPulse (t pinMv : Nat) (s : State) := run t (atIoOnly fun s => crossPulse s.now (ioSafe s) pinMv) s
def execShortToSupplyOff (t : Nat) (x : Reading) (s : State) := run t (atIoOnly fun s => shortOff s.now (ioSafe s) x.unit x.value) s

def execFieldSupplyOff (t : Nat) (x : SupplyReading) (s : State) := run t (supplyOff x.supply x.mv) s
def execSupplyRecovery (t : Nat) (x : SupplyReading) (s : State) := run t (supplyBack x.supply x.mv) s
def execUvWarn (t vfld : Nat) (s : State) := run t (uvWarning vfld) s
def execUvWarnEnd (t vfld : Nat) (s : State) := run t (uvWarnOver vfld) s
def execFieldDieReset (t : Nat) (x : Reading) (s : State) := run t (dieReset x.unit x.value) s
def execFieldDieRestart (t : Nat) (x : Reading) (s : State) := run t (dieRestart x.unit x.value) s

end Sys2Proof.Machine
end

