-- ==== Sys2Proof/Machine/Engine.lean ====
section
/-!
DEFINITION. The Survey engine in the decisions of a frame: samples into the maps, sensor validity, steps, memory errors and
repair, the storage work of stepped bins (03 R87-R89, R111, R112; 04 R120; 06 R192, R202, R209).
-/
namespace Sys2Proof.Machine

/-! Samples (R53, R54, R88). -/

def takenOf (x : Sample) : Taken := { src := x.src, code := x.status % 16, value := x.value, stamp := x.stamp }

/-- Ascending stamp, then ascending source (R54). -/
def sampleBefore (a b : Sample) : Bool := decide (a.stamp < b.stamp) || (a.stamp == b.stamp && decide (a.src < b.src))

/-- Sources that a map's steps and fusion read. -/
def mapSources (r : MapRecs) : List Nat :=
  ([mapAdvSrc r.mr, mapRotSrc r.mr, mapFillSrc r.mr, mapAmbT r.mr, mapAmbRh r.mr] ++ r.zones.flatMap (fun z => [znTemp z, znFlow z]) ++
    (match r.fusion with | some f => [fuOutM f, fuInM f, fuInT f] | none => []) ++ r.probes.map pbSrc ++ r.sensors.map snSrc).filter (· != 0)

/-- A map's accumulator takes the samples of frame n that carry a value; older ones than the step's frames leave it. -/
def feedMap (d : Datum) (n : Nat) (xs : List Sample) (m : GMap) : GMap :=
  match d.mapRec m.shape.num with
  | none => m
  | some mr =>
    let srcs := mapSources (mapRecsOf d mr)
    { m with acc := (m.acc.filter fun e => decide (n < e.2.1 + mapStep mr)) ++
        (xs.filter fun x => srcs.contains x.src && carries d (takenOf x)).map fun x => (x.src, frameOf x.stamp, x.value) }

/-- The codes of a bin's sensor samples (06 R198). -/
def feedBin (d : Datum) (xs : List Sample) (b : BinSt) : BinSt :=
  match d.geomOf b.map with
  | none => b
  | some g =>
    let srcs := (d.run tySensor (geBase g) (geCount g)).map snSrc
    { b with codes := b.codes ++ (xs.filter fun x => srcs.contains x.src).map fun x => (x.src, x.status % 16) }

def feed (d : Datum) (n : Nat) (xs : List Sample) (p : Plant) : Plant :=
  { p with maps := p.maps.map (feedMap d n xs), bins := p.bins.map (feedBin d xs) }

/-- The frames since the last decided one count as frames with aeration on where its decisions had it on (R202). -/
def countAeration (n : Nat) (p : Plant) : Plant :=
  match p.last with
  | none => p
  | some l => { p with bins := p.bins.map fun b => if binOn l b then { b with fOn := b.fOn + (n - l) } else b }

/-! Memory errors (R111, R112). -/

def cellAt (h : Shape) (row sec sl : Nat) : Nat := (row * h.sections + sec) * h.slices + sl

/-- The cells that a repair of cell i takes from, in order: the nearest section, the lower one on a tie, then the row above. -/
def repairFrom (h : Shape) (i : Nat) : List Nat :=
  let row := i / h.width
  let sec := i % h.width / h.slices
  let sl := i % h.slices
  let dist := fun (k : Nat) => if k < sec then sec - k else k - sec
  (sortBy (fun (a b : Nat) => decide (dist a < dist b)) ((List.range h.sections).filter fun k => k != sec)).map (fun k => cellAt h row k sl) ++
    (if row = 0 then [] else [cellAt h (row - 1) sec sl])

/-- The cell that the map's inlet state gives. -/
def inletCell (imgs : List Bytes) (r : MapRecs) (m : GMap) : Cell :=
  let f := fillNow m r
  fillCell m.shape (kinOf (legImg imgs f.legend)).dens f

/-- The rebuilt cell: a copy of an unoccupied cell stays all zero (R82). -/
def repairCell (h : Shape) (fill : Cell) (bad : List Nat) (cells : List Cell) (i : Nat) : Cell :=
  let c := match (repairFrom h i).find? (fun k => !bad.contains k) with | some k => cells.getD k emptyCell | none => fill
  if c.occ then c.setFlag cfRepaired true else emptyCell

/-- The external copy's uncorrectable cells are rebuilt. -/
def repairMap (imgs : List Bytes) (r : MapRecs) (bad : List Nat) (m : GMap) : GMap :=
  { m with repaired := true, cells := bad.foldl (fun cs i => setAt i (repairCell m.shape (inletCell imgs r m) bad m.cells i) cs) m.cells }

/-! Steps. -/

/-- What the map work of a frame has done so far. -/
structure MapPass where
  plant : Plant
  evs : Evs
  tons : List (Nat × Nat)
  steps : Nat
  ue : Nat
  tile : Bool
  ext : Bool
  aborted : Bool
  reseeded : Bool
  /-- stepped BIN maps: ambient stale, f_on -/
  bins : List (Nat × Bool × Nat)
deriving DecidableEq, Repr

def passStart (p : Plant) (evs : Evs) : MapPass :=
  { plant := p, evs, tons := [], steps := 0, ue := 0, tile := false, ext := false, aborted := false, reseeded := false, bins := [] }

def putMap (p : Plant) (m : GMap) : Plant := { p with maps := p.maps.map fun q => if q.shape.num = m.shape.num then m else q }
/-- A bin's step period is over. -/
def endPeriod (num : Nat) (p : Plant) : Plant := { p with bins := p.bins.map fun b => if b.map = num then { b with codes := [], fOn := 0 } else b }

/-- A map without a valid external copy is reseeded before its step (06 R209). -/
def reseedNow (f : FrameIn) (mr : Bytes) (recs : List StoreRec) (m : GMap) (q : MapPass) : GMap × MapPass :=
  if m.invalid then
    let rec' := recs.find? fun x => x.map == m.shape.num
    (reseed f.imgs (meanInput m (mapAmbT mr)).1 rec' m,
      if rec'.isSome then { q with reseeded := true, evs := q.evs ++ [(0x0508, evMap m.shape.num)] } else q)
  else (m, q)

/-- A step that memory errors abort: `tile` and `ext` hold the failing cells (R111, R112). -/
def abortStep (f : FrameIn) (r : MapRecs) (tile ext : List Nat) (m : GMap) (q : MapPass) : MapPass :=
  let m1 := if ext = [] then m else repairMap f.imgs r ext m
  { q with plant := endPeriod m.shape.num (putMap q.plant (mapAbort m1 r f.n)), ue := q.ue + tile.length + ext.length, aborted := true
           tile := q.tile || !tile.isEmpty, ext := q.ext || !ext.isEmpty
           evs := q.evs ++ [(0x0301, leBytes 1 m.shape.num ++ zeros 1 ++ leBytes 2 (minN (tile ++ ext)))] ++
             (if ext = [] then [] else [(0x0302, leBytes 1 m.shape.num ++ zeros 1 ++ leBytes 2 ext.length)]) }

/-- The map steps in the frame; in a WATCH cycle BIN maps only (R87, 06 R210). -/
def stepsIn (n : Nat) (watch : Bool) (mr : Bytes) : Bool := (n + 1) % mapStep mr == 0 && !(watch && isDryerKind (mapKind mr))

def stepMap (f : FrameIn) (watch : Bool) (tile ext : List (Nat × List Nat)) (recs : List StoreRec) (q : MapPass) (num : Nat) : MapPass :=
  match q.plant.maps.find? (fun m => m.shape.num == num), f.d.mapRec num with
  | some m0, some mr =>
    if stepsIn f.n watch mr = false then q
    else
      let r := mapRecsOf f.d mr
      let s := reseedNow f mr recs m0 q
      let m := s.1
      let q := s.2
      let inMap := fun (l : List (Nat × List Nat)) => ((lookupKey num l).getD []).filter fun i => decide (i < m.cells.length)
      if inMap tile ≠ [] ∨ inMap ext ≠ [] then abortStep f r (inMap tile) (inMap ext) m q
      else
        let bin := q.plant.bins.find? fun b => b.map == num
        let lost := match bin with | some b => b.sensors.map SensSt.lost | none => []
        let fOn := match bin with | some b => min b.fOn (mapStep mr) | none => 0
        let z := mapStepPass f.imgs r f.n fOn lost q.plant.bias m
        let p := putMap { q.plant with bias := z.2.1 } z.1
        { q with plant := if bin.isSome then endPeriod num p else p, steps := q.steps + 1
                 tons := q.tons ++ (if isDryerKind m.shape.kind then z.2.2 else [])
                 bins := q.bins ++ (if bin.isSome then [(num, ambStaleOf m mr, fOn)] else []) }
  | _, _ => q

/-- Sensor validity of every BIN map that steps in the frame (06 R192). -/
def judgeSensors (f : FrameIn) (watch : Bool) (p : Plant) : Plant × Evs :=
  p.bins.foldl (fun acc b =>
    match f.d.mapRec b.map, acc.1.maps.find? (fun m => m.shape.num == b.map) with
    | some mr, some m =>
      if stepsIn f.n watch mr then
        let v := validity f.d f.n b.codes m b
        (setBin acc.1 v.1, acc.2 ++ v.2)
      else acc
    | _, _ => acc) (p, [])

/-- The map work of a frame: step 2 of 05 R154. -/
def mapsWork (f : FrameIn) (watch : Bool) (xs : List Sample) (tile ext : List (Nat × List Nat)) (recs : List StoreRec) (p : Plant) : MapPass :=
  let v := judgeSensors f watch (feed f.d f.n xs p)
  (v.1.maps.map fun m => m.shape.num).foldl (stepMap f watch tile ext recs) (passStart v.1 v.2)

/-- The storage work after the drying fans, in ascending map number (06 R192). -/
def storageWork (f : FrameIn) (bins : List (Nat × Bool × Nat)) (p : Plant) : Plant × Evs :=
  (sortBy (fun (a b : Nat × Bool × Nat) => decide (a.1 < b.1)) bins).foldl (fun acc b =>
    match acc.1.bins.find? (fun x => x.map == b.1), acc.1.maps.find? (fun m => m.shape.num == b.1) with
    | some x, some m =>
      let w := binWork f b.2.1 b.2.2 m x
      (setBin (putMap acc.1 w.2.1) w.1, acc.2 ++ w.2.2)
    | _, _ => acc) (p, [])

/-! Decision outputs (05 R156, 06 R191, 13 R543). -/

/-- Every decision output in ascending number: the value that its layer gives, or the one that it had; 0 before any. -/
def outsOf (d : Datum) (n : Nat) (p : Plant) : List Out :=
  sortBy (fun (a b : Out) => decide (a.num < b.num)) ((d.recs tyOutput).map fun o =>
    let old : Int := match p.outs.find? fun x => x.num == outNum o with | some x => x.val | none => 0
    { num := outNum o, kind := outKind o
      val := match dryOut d p o with | some v => v | none => (match stoOut d n p o with | some v => v | none => old) })

/-- The outputs of an earlier frame, under the Datum's numbering: 0 where there is none. -/
def heldOuts (d : Datum) (l : List Out) : List Out :=
  sortBy (fun (a b : Out) => decide (a.num < b.num)) ((d.recs tyOutput).map fun o =>
    { num := outNum o, kind := outKind o, val := match l.find? fun x => x.num == outNum o with | some x => x.val | none => 0 })

/-! The decisions of a frame after its commands: steps 2 to 9 of 05 R154. -/

/-- What they give: the plant, events, tonnage rows, steps, memory errors. -/
structure Decided where
  plant : Plant
  evs : Evs
  pass : MapPass
deriving DecidableEq, Repr

/-- Results that bound before frame n's are dropped, and predictions start from the frame (04 R140). -/
def predictWork (f : FrameIn) (watch : Bool) (p : Plant) : Plant :=
  let p1 := { p with maps := p.maps.map fun m => dropOld (boundAt m f.n) m }
  if watch then p1 else startPreds f.imgs f.d f.n p1

def decideWork (f : FrameIn) (watch : Bool) (xs : List Sample) (tile ext : List (Nat × List Nat)) (recs : List StoreRec) (p0 : Plant) : Decided :=
  let q := mapsWork f watch xs tile ext recs p0
  let a := supervise f (pushPulses f q.plant)
  let b := discharges f (routesWork f a.1)
  let c := batches f b.1
  let e := storageWork f q.bins (dryFans f (heatZones f c.1))
  let p := { e.1 with outs := outsOf f.d f.n e.1, canOut := dryCan f.d e.1, last := some f.n }
  { plant := predictWork f watch (bumpAlive p), evs := q.evs ++ a.2 ++ b.2 ++ c.2 ++ e.2, pass := q }

/-! D(N) (02 R70). -/

def frameDigest (n : Nat) (ovr : Bool) (outs : List Out) : Bytes :=
  sha256 (leBytes 8 n ++ leBytes 2 (b2n ovr) ++ (outs.map fun o => leBytes 2 o.num ++ leBytes 2 o.kind ++ leBytes 4 (ofS 32 o.val)).flatten)

/-- D(N) and H(N) enter the list of the last 1,024 decided frames. -/
def chainFrame (n : Nat) (d : Bytes) (s : State) : State :=
  let h := sha256 (s.frm.chain ++ d)
  { s with frm := { s.frm with chain := h, prev := some n, digests := lastN 1024 (s.frm.digests ++ [{ frame := n, d, h }]) } }

end Sys2Proof.Machine
end

