-- ==== Sys2Proof/Machine/SysCmds.lean ====
section
/-!
DEFINITION. System block commands of the host interface (13 R378, R379, R386-R389).
-/
namespace Sys2Proof.Machine

/-! Status codes (Table 13-16). -/
def stAbortNoTarget : Nat := 0x0101
def stDatumArmed : Nat := 0x0102
def stXslotRange : Nat := 0x0108

/-! SYS_INFO. -/

def sysInfoWord (s : State) : Nat := b2n s.hif.ready + 2 * b2n s.armed + 4 * b2n s.rpl.active
def sysInfoBytes (s : State) : Bytes :=
  leBytes 8 s.boot.build ++ leBytes 1 0xB0 ++ zeros 1 ++ leBytes 2 s.boot.secVer ++ configHash s ++ leBytes 8 s.now ++
    leBytes 2 s.time.era ++ zeros 10

def specSysInfo : Spec := specQuery 0x0101
def sysInfo (c : Cmd) (s : State) : Next := answer c (sysInfoBytes s) (sysInfoWord s) s

/-! LOAD_DATUM (R387), READ_DATUM. -/

def specLoadDatum : Spec := { specCrit 0x0102 with frame := 2, need := 64, long := true }
def loadDatum (c : Cmd) (s : State) : Next :=
  if s.armed then refuse stDatumArmed s
  else match checkImage c.d.data c.d.plen (legImages s) with
    | some b => .done s b.code 0 b.result
    | none => .wait s c

/-- The commit-word write of a checked image: the completion point. -/
def commitDatum (c : Cmd) (s : State) : Next :=
  if s.armed then refuse stDatumArmed s
  else match effFrame s c.d s.now, s.areaNo with
    | (_, some st), _ => refuse st s
    | (_, none), none => refuse stNvsWrite s
    | (e, none), some k =>
      let img := c.d.data.take (datLength c.d.data)
      let q := storeDatum k img (ledStart c.led (0x3000 + 0x1000 * k) (s.areaAt k).datum.nextGen img.length s)
      if q.2 = false then refuse stNvsWrite q.1
      else
        let s1 := clearDies k q.1
        .done { s1 with store := { s1.store with waits := s1.store.waits ++ [.datum e (datumOf img)] } } stOk img.length e

def specReadDatum : Spec := specQuery 0x0106
def readDatum (c : Cmd) (s : State) : Next :=
  let img := (s.area.datum.body).getD []
  answer c img img.length s

/-! ABORT (R378, R379). -/

def abortTarget (d : Desc) (s : State) : Option Cmd :=
  s.cmds.find? fun x => x.d.src == .ring (p8 d 4) && x.d.tag == p32 d 0 && x.op != 0x0103 && !x.internal

/-- The move to WATCH or HALT that stands when one PWR_STATE is aborted: the latest of the others (19 R497). -/
def moveLeft (c : Cmd) (s : State) : Option (Nat × Nat) :=
  ((s.cmds.filter fun x => x.op == 0x0120 && decide (2 ≤ p8 x.d 0) && x != c).map fun x => (p8 x.d 0, x.eff)).getLast?

/-- What a command that waits for a die, a channel or its frame has under way stops. -/
def stopWork (c : Cmd) (s : State) : State :=
  let n := p8 c.d 0
  if c.op = 0x0602 then { s with senLog := { s.senLog with requests := s.senLog.requests.erase n } }
  else if c.op = 0x0603 then { s with senLog := { s.senLog with clears := s.senLog.clears.erase n } }
  else if c.op = 0x0621 then onSense (fun x => { x with empties := x.empties.filter fun e => e.entry != n }) s
  else if c.op = 0x0622 then onSense (fun x => { x with chkQ := x.chkQ.filter fun q => !(q.pin == n && q.origin == 2) }) s
  else if c.op = 0x0A04 then setCan { s.canCh n with claim := none } s
  else if c.op = 0x0A02 then
    { s with can := s.can.map fun k => { k with fifo := k.fifo.map fun x =>
        if x.fw = false ∧ x.origin = n ∧ x.tag = p32 c.d 4 then { x with cancel := none } else x } }
  else if c.op = 0x0120 then { s with pwr := { s.pwr with move := moveLeft c s } }
  else if c.op = 0x0D05 then { s with upd := { s.upd with applyBusy := false } }
  else s

/-- PROGRESS of a target that stops: of a stored effect, what the device had written, which the spec leaves to its pace. -/
def stopProgress (c : Cmd) (s : State) : Nat :=
  if c.op = 0x0102 ∨ c.op = 0x0302 then (s.open' % ((c.d.plen : Int) + 1)).toNat
  else if c.op = 0x0D05 then (s.open' % ((c.aux : Int) + 1)).toNat else c.prog

def specAbort : Spec := specPlain 0x0103
def abort (c : Cmd) (s : State) : Next :=
  match abortTarget c.d s with
  | none => refuse stAbortNoTarget s
  | some x => okResult 0 (finish x stAborted (stopProgress x s) 0 (stopWork x s).used)

/-! EXCHANGE_READ (R389). -/

def specExchangeRead : Spec := specQuery 0x0104
def exchangeRead (c : Cmd) (s : State) : Next :=
  let first := p16 c.d 0
  let n := p16 c.d 2
  if n = 0 ∨ 1024 < first + n then refuse stXslotRange s
  else answer c ((List.range n).map fun i => slotBytes s (first + i)).flatten n s

/-! SAMPLE_FEED (R388). -/

structure Feed where
  s : State
  taken : Nat
  refused : Nat
deriving DecidableEq, Repr

/-- A record whose source has no host source record, or whose time flags are set. -/
def feedBad (s : State) (r : Bytes) : Bool :=
  decide (8192 ≤ u16 r 10) || !((s.datum.recs tyHostSrc).any fun h => u16 h 0 == u16 r 8)

/-- A future-stamped record is refused, counted and captured (02 R55). -/
def feedFuture (x : Sample) (s : State) : State :=
  capOdd (capSample true x) { s with time := { s.time with future := sat 65535 (s.time.future + 1) } }

def feedOne (f : Feed) (r : Bytes) : Feed :=
  let x : Sample := { stamp := u64 r 0, src := u16 r 8, status := u16 r 10, value := s32 r 12, arrival := f.s.now }
  if feedBad f.s r then { f with refused := f.refused + 1 }
  else if f.s.now < x.stamp then { s := feedFuture x f.s, taken := f.taken, refused := f.refused + 1 }
  else { s := intake x f.s, taken := f.taken + 1, refused := f.refused }

def specSampleFeed : Spec := specPlain 0x0105
def sampleFeed (c : Cmd) (s : State) : Next :=
  if c.d.plen % 16 ≠ 0 then refuse stPayloadError s
  else
    let f := (chunks 16 (c.d.plen / 16) c.d.data).foldl feedOne { s := s, taken := 0, refused := 0 }
    okResult (f.taken + 2 ^ 32 * f.refused) f.s

/-! Meanings of the rows. -/

def execSysInfo (t : Nat) (d : Desc) (s : State) := run t (command specSysInfo sysInfo d) s
def execLoadDatum (t : Nat) (d : Desc) (s : State) := run t (command specLoadDatum loadDatum d) s
def execAbort (t : Nat) (d : Desc) (s : State) := run t (command specAbort abort d) s
def execExchangeRead (t : Nat) (d : Desc) (s : State) := run t (command specExchangeRead exchangeRead d) s
def execSampleFeed (t : Nat) (d : Desc) (s : State) := run t (command specSampleFeed sampleFeed d) s
def execReadDatum (t : Nat) (d : Desc) (s : State) := run t (command specReadDatum readDatum d) s

end Sys2Proof.Machine
end

