-- ==== Sys2Proof/Machine/Frame.lean ====
section
/-!
DEFINITION. The plant frame: commands that take effect in it, its decisions, digest and capture group, its apply instant, the end
of prediction runs, and the completion point of long-running commands (01 R39; 02 R52-R60, R70-R73; 04 R147; 05 R154, R155; 06
R192, R210; 13 R376; 19 R497, R499).
-/
namespace Sys2Proof.Machine

/-! Commands in the decisions of their frame (02 R57). -/

def specCapOps (op : Nat) : Bool := op == 0x0205 || op == 0x0206
/-- Commands that copy state at the end of the decisions (04 R150). -/
def copyOps (op : Nat) : Bool := op == 0x0325 || op == 0x0326

def captureStartEff : Effect := fun n c s => if s.cap.active then refuse 0x0206 s else doneE c (captureBegin n s)
def captureStopEff : Effect := fun _ _ s => if s.cap.active then okResult s.cap.last (captureEnd 1 s) else refuse 0x0207 s

/-- The internal commands of 05 R155. -/
def hostSilentEff : Effect := fun n c s => doneE c (s.setPlant (hostSilentCmd n c.acc s.datum s.plant))
def hostReturnEff : Effect := fun _ c s => doneE c (s.setPlant (hostReturnCmd s.datum s.plant))
def safeSeenEff : Effect := fun n c s => doneE c (s.setPlant (safeSeenCmd n s.datum s.plant))
def hostLimitEff : Effect := fun n c s => doneE c (s.setPlant (hostLimitCmd n s.datum (p8 c.d 0) s.plant))

/-- What a frame-tied command does to the plant: the effects that a replay shares (02 R75). -/
def plantEffect (op : Nat) : Option Effect :=
  match op with
  | 0x0305 => some (effIf mapChk mapPrimeEff)
  | 0x0322 => some (effIf biasChk biasResetEff)
  | 0x0323 => some (effIf inletChk setInletEff)
  | 0x0327 => some mapRestoreEff
  | 0x0402 => some (effIf dischargeStartChk dischargeStartEff)
  | 0x0403 => some dischargeStopEff
  | 0x0404 => some setRateEff
  | 0x0405 => some setTargetEff
  | 0x0406 => some (effIf zoneChk heatPermitEff)
  | 0x0407 => some (effIf zoneChk heatOverrideEff)
  | 0x0408 => some setPlenumEff
  | 0x0409 => some (effIf routeChk routeStartEff)
  | 0x040A => some (effIf routeChk routeStopEff)
  | 0x040B => some batchControlEff
  | 0x040C => some dryRearmEff
  | 0x04F0 => some hostSilentEff
  | 0x04F1 => some hostReturnEff
  | 0x04F2 => some safeSeenEff
  | 0x04F3 => some hostLimitEff
  | 0x0502 => some (effIf modeChk aerationModeEff)
  | 0x0503 => some (effIf forceChk aerationForceEff)
  | 0x0504 => some stoAckEff
  | _ => none

/-- What a frame-tied command does in the decisions of its frame. -/
def frameEffect (op : Nat) : Option Effect :=
  match op with
  | 0x0120 => some pwrStateEffect
  | 0x0130 => some safeReleaseEffect
  | 0x01F0 => some planArmEffect
  | 0x0205 => some captureStartEff
  | 0x0206 => some captureStopEff
  | 0x0325 => some (effIf exportChk mapExportEff)
  | 0x0326 => some mapSaveEff
  | 0x0702 => some vlvForceEff
  | 0x0802 => some fanSetEff
  | 0x0803 => some fanForceEff
  | 0x0805 => some fanLoopSetEff
  | 0x0902 => some uioSetEff
  | 0x0903 => some uioForceEff
  | _ => plantEffect op

/-- RESULT of a command that ends in the decisions of its frame: the tables give E for all but CAPTURE_STOP and the map copies,
and a refusal there answers E too (notes/assumptions/39.md). -/
def resultAtE (c : Cmd) (st res : Nat) : Nat :=
  if st = stOk ∨ c.op = 0x0206 ∨ copyOps c.op = true then res else c.eff

/-- A command goes on by what it did. -/
def settleNext (c : Cmd) (r : Next) (s : State) : State :=
  match r with
  | .done s1 st prog res => finish c st prog (resultAtE c st res) s1
  | .wait s1 c1 => let _ := s; { s1 with cmds := s1.cmds.map fun x => if x = c then c1 else x }

/-- A command takes effect in frame n; starts of Routes are counted (18 R484). -/
def takeEffect (n : Nat) (s : State) (c : Cmd) : State :=
  match frameEffect c.op with
  | none => s
  | some f =>
    let s1 := settleNext c (f n c (ledRun c.led s)) s
    countRoutes s.plant.routes s1.plant.routes s1

/-- The commands with effective frame n, in acceptance order. -/
def dueCmds (n : Nat) (s : State) : List Cmd := s.cmds.filter fun c => c.tied && decide (c.eff ≤ n)

/-! The capture group of a frame (02 R73). -/

def capEra (e : Era) : Bytes :=
  leBytes 1 5 ++ zeros 1 ++ leBytes 2 e.num ++ leBytes 2 e.reason ++ zeros 2 ++ leBytes 8 e.start ++ leBytes 8 (ofS 64 e.newOff) ++ zeros 8

/-- ERA records of the group: the era in force at C(n) for the first group, later the ones that came since C(P). -/
def groupEras (n : Nat) (s : State) : List Era :=
  let before := s.time.eras.reverse.filter fun e => decide (e.start < s.closing n)
  match s.cap.prev with
  | none => lastN 1 before
  | some p => before.filter fun e => decide (s.closing p ≤ e.start)

/-- COMMAND and its CONT records. -/
def capCommand (c : Cmd) : List Bytes :=
  let conts := contRecs c.d.data
  (leBytes 1 4 ++ zeros 1 ++ leBytes 2 c.op ++ leBytes 2 c.d.flags ++ leBytes 2 conts.length ++ leBytes 8 c.eff ++ padTo 16 c.d.params) :: conts

def capFrame (n : Nat) (ovr : Bool) (late : Nat) (d : Bytes) : Bytes :=
  leBytes 1 6 ++ zeros 1 ++ leBytes 2 (b2n ovr) ++ leBytes 2 late ++ zeros 2 ++ leBytes 8 n ++ d.take 16

def capGroup (n : Nat) (ovr : Bool) (d : Bytes) (cmds : List Cmd) (xs : List Sample) (s : State) : State :=
  if s.cap.active then
    let s1 := capPuts ((groupEras n s).map capEra ++ cmds.flatMap capCommand ++ s.cap.odd ++ xs.map (capSample false) ++
      [capFrame n ovr s.frm.lateIn d]) s
    if s1.cap.active then { s1 with cap := { s1.cap with odd := [], last := n, prev := some n } } else s1
  else s

/-! The decisions of a live frame. -/

/-- The frame that is decided next: the one of a WATCH cycle, or the next one while the device is in RUN or IDLE (06 R210, 02 R59). -/
def frameDue (s : State) : Option Nat :=
  if !s.awake || !s.hif.ready || s.upd.recovery then none
  else match s.pwr.cycle with
    | some w => w
    | none => if s.pwr.moved then none else some s.frm.next

/-- Counts and events of a frame's work (18 Tables 18-2, 18-6; 03 Tables 3-18 to 3-21). -/
def countEngine (ce : Nat) (q : MapPass) (s : State) : State :=
  let v := s.svy
  hitIf q.tile 0x7000 8 (hitIf q.ext 0x7000 9 (hitIf q.ext 0x7000 10
    { s with svy := { v with steps := (v.steps + q.steps) % 2 ^ 32, ue := sat 65535 (v.ue + q.ue), ce := sat 65535 (v.ce + ce)
                             tileUe := v.tileUe || q.tile, extUe := v.extUe || q.ext, repaired := v.repaired || q.ext
                             peak := max v.peak (svyMeas ((v.steps + q.steps) % 2 ^ 32)) } }))

/-- Innovations of pairs that closed in frame n, and the frame's plenum means (18 Table 18-3 classes 3 and 8). -/
def noteGaz (n : Nat) (s : State) : State :=
  let inno := s.plant.maps.foldl (fun a m =>
    match (m.pairLog.filter fun p => p.frame == n && p.flags % 8 == 0).getLast? with
    | some p => insertKey m.shape.num (p.y, n) a
    | none => a) s.gaz.inno
  let plen := (s.plant.zones.zipIdx).foldl (fun a z => match z.1.mean with | some t => insertKey z.2 (t, n) a | none => a) s.gaz.plen
  { s with gaz := { s.gaz with inno := inno, plen := plen } }

/-- The live frame's work on the plant. -/
def liveWork (n : Nat) (xs : List Sample) (tile ext : List (Nat × List Nat)) (ce : Nat) (s0 : State) : State × Bool :=
  let s := if s0.sto.readFor = some n then nodesJudge s0 else s0
  let f : FrameIn := { n, d := s.datum, ss := (xs.filter fun x => frameOf x.stamp == n).map takenOf, imgs := s.imgs }
  let w := decideWork f s.pwr.cycle.isSome xs tile ext ((s.area.store.body).getD []) s.plant
  let s1 := countTons w.pass.tons (countRoutes s.plant.routes w.plant.routes { s with plant := w.plant })
  let s2 := if w.pass.reseeded then hit 0x8800 3 { s1 with sto := { s1.sto with reseeded := true } } else s1
  (fillLanes (noteGaz n (countEngine ce w.pass (raises w.evs s2))), w.pass.aborted)

/-- The end of a frame's decisions: OVERRUN, digest, capture group. `late`: its apply instant has passed. -/
def closeFrame (n : Nat) (late ovr : Bool) (cmds : List Cmd) (xs : List Sample) (s : State) : State :=
  let outs := if ovr then heldOuts s.datum s.frm.inForce else s.plant.outs
  let d := frameDigest n ovr outs
  let s1 := capGroup n ovr d cmds xs (chainFrame n d s)
  let f := s1.frm
  { s1 with
    time := if ovr then { s1.time with ovr := sat 0xFFFFFFFF (s1.time.ovr + 1) } else s1.time
    frm := { f with next := n + 1, collector := f.collector.filter (fun x => decide (n < frameOf x.stamp))
                    marks := f.marks.filter fun k => decide (n < k), decided := if late then none else some (n, ovr, outs)
                    missed := none, lateIn := 0 } }

/-! The apply instant (01 R39; 19 R497; 06 R210). -/

/-- Channels that the outputs drive, with the value and the PWM period (05 R165, 11 R325). -/
def drivenBy (d : Datum) (outs : List Out) : List (Chan × Nat × Nat) :=
  (d.recs tyOutput).flatMap fun o =>
    let v := match outs.find? fun x => x.num == outNum o with | some x => x.val.toNat | none => 0
    let per := if outKind o = 0x0402 then (match (d.recs tyHeat)[outOwner o]? with | some h => 10 * hzDemParam h | none => 100) else 100
    (outputChan d o).map fun c => (c, v, per)

/-- What LOGIC's frames carry from this apply instant on (09 R294; 10 R297-R299; 11 R326; 20 R511). -/
def fieldCmd (outs : List Out) (s : State) : FieldCmd :=
  let d := s.datum
  let on := drivenBy d outs
  let val := fun (c : Chan) => match on.find? fun x => x.1 == c with | some x => x.2 | none => (0, 100)
  let set := s.field.sets
  { s.field.cmd with
    valves := maskOf 16 fun n => match lookupKey n set.valves with | some b => b | none => (val (2, n)).1 != 0
    fans := (d.recs tyFan).map fun r => { set.fan (fnCh r) with dec := (val (1, fnCh r)).1, table := s.plant.hostSilent }
    uios := ((d.recs tyUio).filter ucIsOut).map fun r => { set.uio (ucCh r) with dec := (val (0, ucCh r)).1, period := (val (0, ucCh r)).2 } }

/-- A heat demand while the safe-state line is set: PERMIT 0 and u 0 (05 R170). -/
def demandSafe (set : Bool) (b : Bytes) : Bytes :=
  if set ∧ b.length = 8 then leBytes 1 (u8 b 0 % 128) ++ slice b 1 1 ++ zeros 2 ++ b.drop 4 else b

/-- The CAN frames of the decisions in force, in ascending output number (12 R350). -/
def sendDecisions (s : State) : State :=
  (sortBy (fun (a b : Nat × Nat × Nat × Bytes) => decide (a.1 < b.1)) s.frm.canForce).foldl (fun a x =>
    match a.datum.canRec x.2.1 with
    | none => a
    | some r =>
      if (a.canCh x.2.1).standby then a
      else
        let b := demandSafe a.safe.set x.2.2.2
        setCan (pushDecision (fwFrame r a.now { id := x.2.2.1, dlc := b.length, data := b } (some x.1) x.2.1) (a.canCh x.2.1)) a) s

/-- The move that a frame's apply instant carries: WATCH's hold lease, HALT's SAFE = 1. -/
def moveOut (n : Nat) (s : State) : State :=
  let gone := fun (s : State) => { s with pwr := { s.pwr with moved := true } }
  if s.pwr.cycle.isSome then gone (leaseOut s)
  else match s.pwr.move with
    | some (st, e) => if e = n then gone (if st = 3 then safeOut s else leaseOut s) else s
    | none => s

/-- Frame n's decisions reach the field; an OVERRUN frame leaves the previous ones in force (02 R71). -/
def applyFrame (n : Nat) (ovr : Bool) (outs : List Out) (s : State) : State :=
  let s1 := if ovr then s
    else { s with field := { s.field with cmd := fieldCmd outs s }, frm := { s.frm with inForce := outs, canForce := s.plant.canOut } }
  let s2 := { s1 with field := { s1.field with cmd := { s1.field.cmd with safe := s1.safe.set, release := s1.safe.release } } }
  moveOut n (sendDecisions { s2 with frm := { s2.frm with decided := none } })

/-- The apply instant of a frame without decisions: the frame is OVERRUN (R71, 04 R148). -/
def missFrame (n : Nat) (s : State) : State :=
  let v := s.svy
  sendDecisions { s with
    frm := { s.frm with missed := some n }
    svy := if predReady n s.plant then v else { v with predLate := sat 65535 (v.predLate + 1) } }

/-- A frame whose apply instant has come without its decisions has missed it, whichever row shows it first (R39, R71; 04 R148). -/
def lapseFrame (s : State) : State :=
  match frameDue s with
  | some n => if s.rpl.active || s.frm.decided.isSome || s.frm.missed.isSome || decide (s.now < s.applyAt n) then s else missFrame n s
  | none => s

def applyNow (s : State) : State :=
  match s.frm.decided with
  | some (n, ovr, outs) => if s.awake = false ∨ s.now < s.applyAt n then s else applyFrame n ovr outs s
  | none => lapseFrame s

/-! FRAME_DECISIONS. -/

/-- Samples of the frames up to n, in the order of R54. -/
def frameSamples (n : Nat) (s : State) : List Sample :=
  sortBy sampleBefore (s.frm.collector.filter fun x => decide (frameOf x.stamp ≤ n))

/-- After the decisions of a WATCH cycle: a source that has latched returns the device to RUN, with the frame's outputs still to
be applied (19 R499). -/
def cycleEnd (late : Bool) (n : Nat) (s0 : State) : State :=
  let s := { s0 with pwr := { s0.pwr with cycle := some none } }
  match s.ic.latched with
  | (src, stamp) :: _ =>
    let s1 := backToRun src stamp (lifeCommit (commitStore { s with ic := { s.ic with latched := [] } }).1)
    { s1 with frm := { s1.frm with decided := s.frm.decided } }
  | [] => if late then moveOut n s else s

def decideFrame (n : Nat) (tile ext : List (Nat × List Nat)) (ce : Nat) (s0 : State) : State :=
  let late := s0.frm.missed == some n
  let s1 := configsGovern n s0
  let cmds := dueCmds n s1
  let s2 := (cmds.filter fun c => specCapOps c.op).foldl (takeEffect n) s1
  let s3 := s2.setPlant (countAeration n s2.plant)
  let s4 := (cmds.filter fun c => !specCapOps c.op && !copyOps c.op).foldl (takeEffect n) s3
  let xs := frameSamples n s4
  let w := liveWork n xs tile ext ce s4
  let s5 := (cmds.filter fun c => copyOps c.op).foldl (takeEffect n) w.1
  let s6 := closeFrame n late (late || w.2 || s5.frm.marks.contains n) cmds xs s5
  if s6.pwr.cycle.isSome then cycleEnd late n s6 else if late then moveOut n s6 else s6

/-- The frame's closing instant has come, the frame before it has been applied, and its predictions have bound or its own apply
instant has passed. -/
def canDecide (n : Nat) (s : State) : Bool :=
  !s.rpl.active && !s.clk.held.contains 0 && s.frm.decided.isNone && decide (s.closing n ≤ s.now) && (predReady n s.plant || s.frm.missed == some n)

def decisionsDue (tile ext : List (Nat × List Nat)) (ce : Nat) (s0 : State) : State :=
  let s := lapseFrame s0
  match frameDue s with
  | some n => if canDecide n s then decideFrame n tile ext ce s else s
  | none => s

/-! COMPLETION_POINT. -/

/-- The work of a long-running command up to its completion point. -/
def longWork (op : Nat) : Option (Cmd → State → Next) :=
  match op with
  | 0x0102 => some commitDatum
  | 0x0302 => some commitLegend
  | 0x0D05 => some applyWork
  | _ => none

def completion (src : Src) (tag : Nat) (s : State) : State :=
  match s.cmds.find? fun c => c.d.src == src && c.d.tag == tag && (longWork c.op).isSome with
  | none => s
  | some c => match longWork c.op with | some f => settleNext c (f c s) s | none => s

/-! Meanings of the rows. -/

def execFrameDecisions (t : Nat) (tileUe extUe : List (Nat × List Nat)) (ce : Nat) (s : State) := run t (decisionsDue tileUe extUe ce) s
def execApplyInstant (t : Nat) (s : State) := run t applyNow s
def execPredictionRunEnd (t lane : Nat) (s : State) := run t (fun s => if s.awake then runEnd lane (lapseFrame s) else s) s
def execCompletionPoint (t : Nat) (src : Src) (tag : Nat) (s : State) := run t (fun s => if s.awake then completion src tag s else s) s

end Sys2Proof.Machine
end

