-- ==== Sys2Proof/Machine/GazCmds.lean ====
section
/-!
DEFINITION. Gazetteer and lifetime counters block: commands and the recorder's own instants (18 R471, R472, R475, R476, R479,
R483-R486).
-/
namespace Sys2Proof.Machine

/-! Status codes (Table 18-9). -/
def stGazLevel : Nat := 0x0E01
def stGazRange : Nat := 0x0E02
def stLifeGroup : Nat := 0x0E03
def stMaintItem : Nat := 0x0E04
def stMaintNotDue : Nat := 0x0E05
def stLifeChannel : Nat := 0x0E06

/-! Commands. -/

def specGazStatus : Spec := specQuery 0x0E01
def gazStatus (_ : Cmd) (s : State) : Next := okResult (s.gaz.next + 2 ^ 32 * aUsed s + 2 ^ 48 * bSlot s) s

/-- A slot's 64 bytes; a slot that holds nothing reads 0. -/
def gazSlot (b : Bool) (n : Nat) (s : State) : Bytes := padTo 64 ((lookupKey n (if b then s.gaz.levelB else s.gaz.levelA)).getD [])

def specGazRead : Spec := specQuery 0x0E02
def gazRead (c : Cmd) (s : State) : Next :=
  let lv := p8 c.d 0
  let first := p16 c.d 2
  let n := p16 c.d 4
  if 1 < lv then refuse stGazLevel s
  else if n = 0 ∨ 512 < n ∨ (if lv = 0 then 16384 else 8192) < first + n then refuse stGazRange s
  else answer c ((List.range n).map fun i => (gazSlot (lv == 1) (first + i) s).take 64).flatten n s

/-- What GAZ_CLEAR does beside group 0 (R479). -/
def gazWipe (a lw : Bool) (s : State) : State :=
  let g := s.gaz
  let g1 := if a then { g with aFull := false } else g
  if lw then
    let q := writeRange 0x7C9000 512 { s with gaz := { g1 with words := [], fails := 0, lwFull := false, aoCount := 0, aoFirst := 0, aoLast := 0 } }
    if q.2 then q.1 else hit 0x2400 7 { q.1 with gaz := { q.1.gaz with lwFail := true } }
  else { s with gaz := g1 }

def specGazClear : Spec := specCrit 0x0E03
def gazClear (c : Cmd) (s : State) : Next :=
  let k := p8 c.d 0 % 8
  if k = 0 then refuse stGazLevel s
  else
    let n := s.gaz.next
    let g := s.g0
    let q := storeG0 { g with aFirst := if bit k 0 then n else g.aFirst, bFirst := if bit k 1 then n else g.bFirst }
      (ledTarget c.led 0xA001 s.gaz.g0.nextGen s)
    if q.2 then okResult n (raise 0x0E04 [] (gazWipe (bit k 0) (bit k 2) q.1)) else refuse stNvsWrite (gazFail 0x05 10 0 0x7CA000 q.1)

def specLifeRead : Spec := specQuery 0x0E04
def lifeRead (c : Cmd) (s : State) : Next :=
  if 8 < p8 c.d 0 then refuse stLifeGroup s
  else answer c (lifeInForce s (p8 c.d 0)) (lifeInForce s (p8 c.d 0)).length s

def specLifeReplace : Spec := specPlain 0x0E05
def lifeReplace (c : Cmd) (s : State) : Next :=
  if (s.datum.valveRec (p8 c.d 0)).isNone then refuse stLifeChannel s else okResult 0 (onValve (p8 c.d 0) replaceValve s)

def specMaintAck : Spec := specPlain 0x0E06
def maintAck (c : Cmd) (s : State) : Next :=
  match s.gaz.life.maint.find? fun m => m.item == p8 c.d 0 with
  | none => refuse stMaintItem s
  | some m =>
    if m.due then
      okResult m.firings (s.setLife { s.gaz.life with maint := s.gaz.life.maint.map fun x => if x.item = m.item then { x with due := false } else x })
    else refuse stMaintNotDue s

def specLastWordsRead : Spec := specQuery 0x0E07
def lastWordsRead (c : Cmd) (s : State) : Next :=
  answer c ((List.range 8).map fun k => (padTo 64 ((lookupKey k s.gaz.words).getD [])).take 64).flatten s.gaz.words.length s

/-! The recorder's instants. -/

/-- A second boundary has passed since the last sample (R472). -/
def gazSecondDue (s : State) : State := if s.awake = true ∧ s.gaz.secAt < s.now / 2 ^ 24 then gazSecond s else s

/-- The first awake instant at or after a period's end (R474): 0 level A, 1 level B. When both levels close, level B's batch comes first
(R475). -/
def gazPeriodDue (level : Nat) (s : State) : State :=
  if s.awake = false ∨ 1 < level then s
  else if level = 1 then (if s.gaz.perB.endAt ≤ s.now then closePeriod true false s else s)
  else if s.gaz.perA.endAt ≤ s.now then
    closePeriod false false (if s.gaz.perB.endAt ≤ s.now then closePeriod true false s else s)
  else s

/-- A multiple of 3,600 × 2^24 ticks while awake (R476). -/
def hourlyDue (s : State) : State :=
  let h := s.now / (3600 * 2 ^ 24)
  if s.awake = true ∧ s.gaz.hourAt < h then
    let s1 := { s with gaz := { s.gaz with hourAt := h } }
    if h % s.gaz.bHours = 0 then s1 else benchB 1 s1
  else s

/-- 64 s of RUN and IDLE since the last commit (R483). -/
def lifeCommitDue (s : State) : State :=
  if s.awake = true ∧ s.pwr.state ≤ 1 ∧ s.gaz.lifeAt + 2 ^ 30 ≤ s.now then lifeCommit s else s

/-! Meanings of the rows. -/

def execGazStatus (t : Nat) (d : Desc) (s : State) := run t (command specGazStatus gazStatus d) s
def execGazRead (t : Nat) (d : Desc) (s : State) := run t (command specGazRead gazRead d) s
def execGazClear (t : Nat) (d : Desc) (s : State) := run t (command specGazClear gazClear d) s
def execLifeRead (t : Nat) (d : Desc) (s : State) := run t (command specLifeRead lifeRead d) s
def execLifeReplace (t : Nat) (d : Desc) (s : State) := run t (command specLifeReplace lifeReplace d) s
def execMaintAck (t : Nat) (d : Desc) (s : State) := run t (command specMaintAck maintAck d) s
def execLastWordsRead (t : Nat) (d : Desc) (s : State) := run t (command specLastWordsRead lastWordsRead d) s
def execGazSecondSample (t : Nat) (s : State) := run t gazSecondDue s
def execGazPeriodClose (t level : Nat) (s : State) := run t (gazPeriodDue level) s
def execHourlyBenchmark (t : Nat) (s : State) := run t hourlyDue s
def execMaintItemFire (t item : Nat) (s : State) := run t (fun s => if s.awake then maintFire item s else s) s
def execLifetimeCommit (t : Nat) (s : State) := run t lifeCommitDue s

end Sys2Proof.Machine
end

