-- ==== Sys2Proof/Machine/KeyCmds.lean ====
section
/-!
DEFINITION. Authentication block and Non-volatile store block commands (15 R422-R426, Table 15-5; 16 R440, R445).
-/
namespace Sys2Proof.Machine

/-! Keys. -/

/-- Ledger TARGET of a key record, and of the owner key record (16 Table 16-7; numbers by notes/assumptions/19.md). -/
def keyTarget (n : Nat) : Nat := 0xA200 + n

def specKeyStatus : Spec := specQuery 0x0B01
def keyStatus (c : Cmd) (s : State) : Next := if 7 < p8 c.d 0 then refuse stKeyTarget s else okResult (keyStatusWord s (p8 c.d 0)) s

/-- KEY_CHANGE: 24 bytes with CRIT (R422); without it 16 bytes while KS0 is empty and TARGET is 0 (R424). -/
def specKeyChange (d : Desc) (s : State) : Spec :=
  if flCrit d then { specCrit opKeyChange with need := 24, exact := true }
  else if (s.keyRec 0).key = none ∧ p8 d 0 = 0 then { specPlain opKeyChange with need := 16, exact := true, long := true }
  else specCrit opKeyChange

/-- The key that the payload carries. -/
def newKeyOf (c : Cmd) (s : State) : Option Bytes :=
  if flCrit c.d then (match (s.keyRec 0).key with | some k => kwUnwrap k c.d.data | none => none) else some c.d.data

def keyChange (c : Cmd) (s : State) : Next :=
  let n := p8 c.d 0
  if 7 < n then refuse stKeyTarget s
  else match newKeyOf c s with
    | none => refuse stKeyWrap s
    | some key =>
      let q := installKey n (p16 c.d 2) key (ledTarget c.led (keyTarget n) (s.kslot n).key.nextGen s)
      .done q.1 q.2.1 0 q.2.2

def specKeyErase : Spec := specCrit 0x0B03
def keyErase (c : Cmd) (s : State) : Next :=
  let n := p8 c.d 0
  if n = 0 ∨ 7 < n then refuse stKeyTarget s
  else
    let q := storeKey n { key := none, mask := 0, installs := (s.keyRec n).installs }
      (ledTarget c.led (keyTarget n) (s.kslot n).key.nextGen s)
    .done q.1 (storeStatus q.2) 0 0

def specCosignSet : Spec := { specCrit 0x0B04 with need := 64, exact := true }
def cosignSet (c : Cmd) (s : State) : Next :=
  if onP256 c.d.data then
    let q := storeCosign { key := some c.d.data, require := bit (p8 c.d 0) 0 } (ledTarget c.led (keyTarget 8) s.auth.cosign.nextGen s)
    .done q.1 (storeStatus q.2) 0 0
  else refuse stCosignFormat s

def specCosignRead : Spec := specQuery 0x0B05
def cosignRead (c : Cmd) (s : State) : Next :=
  answer c (s.cosign.key.getD []) (b2n s.cosign.require + 2 * b2n s.cosign.key.isSome) s

/-! The ledger and the settings. -/

def stLedgerRange : Nat := 0x0C03

/-- Bytes 0-55 of an entry; zeros for one without a copy in force. -/
def ledRead (s : State) (n : Nat) : Bytes := match s.led n with | some e => ledBytes e | none => zeros 56

def specQueryLedger : Spec := specQuery 0x0C01
def queryLedger (c : Cmd) (s : State) : Next :=
  let first := p8 c.d 0
  let n := p8 c.d 1
  if n = 0 ∨ 64 < first + n then refuse stLedgerRange s
  else answer c ((List.range n).map fun i => (ledRead s (first + i)).take 56).flatten s.ledInUse s

def specSettingsCommit : Spec := specCrit 0x0C02
def settingsCommit (c : Cmd) (s : State) : Next :=
  let clear := bit (p8 c.d 0) 0
  let s1 := if clear then clearLearned s else s
  let q := commitAll (if clear then (dieBins s1.power).map fun p => (p.1, noBins) else dieBins s1.power) s1
  .done q.1 (if q.2 = 3 then stOk else stPartial) q.2 q.2

def nvsStatusWord (s : State) : Nat :=
  (match s.areaNo with | some k => 3 + k | none => 0) + 65536 * s.area.datum.gen + 2 ^ 32 * s.area.plan.gen
def specNvsStatus : Spec := specQuery 0x0C03
def nvsStatus (_ : Cmd) (s : State) : Next := okResult (nvsStatusWord s) s

/-! Meanings of the rows. -/

def execKeyStatus (t : Nat) (d : Desc) (s : State) := run t (command specKeyStatus keyStatus d) s
def execKeyChange (t : Nat) (d : Desc) (s : State) := run t (fun s => command (specKeyChange d s) keyChange d s) s
def execKeyErase (t : Nat) (d : Desc) (s : State) := run t (command specKeyErase keyErase d) s
def execCosignSet (t : Nat) (d : Desc) (s : State) := run t (command specCosignSet cosignSet d) s
def execCosignRead (t : Nat) (d : Desc) (s : State) := run t (command specCosignRead cosignRead d) s
def execQueryLedger (t : Nat) (d : Desc) (s : State) := run t (command specQueryLedger queryLedger d) s
def execSettingsCommit (t : Nat) (d : Desc) (s : State) := run t (command specSettingsCommit settingsCommit d) s
def execNvsStatus (t : Nat) (d : Desc) (s : State) := run t (command specNvsStatus nvsStatus d) s

end Sys2Proof.Machine
end

