-- ==== Sys2Proof/Machine/Replay.lean ====
section
/-!
DEFINITION. The replay ring: capture records one by one, and the frames they close (02 R74, R75; 05 R155).
-/
namespace Sys2Proof.Machine

def stBuildMismatch : Nat := 0x020A
def stConfigMismatch : Nat := 0x020B
def stReplayOrder : Nat := 0x020C

def State.setRpl (s : State) (r : Replay) : State := { s with rpl := r }

/-- The replay ends with a status at a ring index. -/
def replayEnd (st at' : Nat) (s : State) : State := s.setRpl { s.rpl with ended := st, index := at' }

/-- A COMMAND record of the group as a command (Table 2-5). -/
def replayCmd (q : Bytes × Bytes) : Cmd :=
  let d : Desc := { src := .spi, flags := u16 q.1 4, tag := 0, frame := 0, payload := 0, plen := 0, keySlot := 0, rsv1 := 0
                    counter := 0, rsv2 := 0, check := zeros 8, params := q.1.drop 16, data := q.2, readError := false }
  { op := u16 q.1 2, d, acc := 0, eff := u64 q.1 8, tied := true, internal := true, led := none, prog := 0, aux := 0 }

/-- What a command of the group does to the plant. A release ends the drying layer's hold; nothing else leaves the plant. -/
def replayEffect (n : Nat) (s : State) (q : Bytes × Bytes) : State :=
  let c := replayCmd q
  if c.op = opSafeRelease ∨ c.op = opPlanArm then s.setPlant { s.plant with safeHeld := false, safeSeen := false }
  else match plantEffect c.op with
    | none => s
    | some f => match f n c s with | .done s1 _ _ _ => s.setPlant s1.plant | .wait s1 _ => s.setPlant s1.plant

/-- A sample of a group as the frame takes it. -/
def replaySample (b : Bytes) : Sample := { stamp := u64 b 8, src := u16 b 2, status := u16 b 4, value := s32 b 24, arrival := u64 b 16 }

/-- The frame that a FRAME record closes: decided from its group alone, with outputs held where the record says OVERRUN; the digest
is compared with the record's. -/
def replayFrame (rec' : Bytes) (s0 : State) : State :=
  let n := u64 rec' 8
  let ovr := bit (u16 rec' 2) 0
  let r := s0.rpl
  let s1 := s0.setPlant (countAeration n s0.plant)
  let s2 := r.cmds.foldl (replayEffect n) s1
  let p := { s2.plant with maps := s2.plant.maps.map (finishBound n) }
  let f : FrameIn := { n, d := s2.datum, ss := r.samples.map takenOf, imgs := s2.imgs }
  let w := decideWork f false r.samples [] [] ((s2.area.store.body).getD []) p
  let outs := if ovr then heldOuts s2.datum r.inForce else w.plant.outs
  let d := frameDigest n ovr outs
  let bad := d.take 16 != padTo 16 (rec'.drop 16)
  let s3 := chainFrame n d (countEngine 0 w.pass (s2.setPlant w.plant))
  let s4 := s3.setRpl { r with eras := [], cmds := [], left := 0, samples := [], places := [], frames := r.frames + 1
                               mismatches := r.mismatches + b2n bad, inForce := outs }
  if bad then raise 0x0201 (leBytes 8 n) s4 else s4

/-- HEADER and its two CONT records: the build and the configuration are compared. -/
def replayHeader (at' : Nat) (rec' : Bytes) (s : State) : State :=
  let r := s.rpl
  if u8 rec' 0 ≠ (if r.hdr = 0 then 1 else 2) then replayEnd stReplayOrder at' s
  else
    let s1 := s.setRpl { r with hdr := r.hdr + 1, conts := if r.hdr = 0 then [] else r.conts ++ slice rec' 8 24 }
    if r.hdr ≠ 2 then s1
    else if u64 s1.rpl.conts 0 ≠ s.boot.build then replayEnd stBuildMismatch at' s1
    else if slice s1.rpl.conts 8 32 ≠ configHash s then replayEnd stConfigMismatch at' s1
    else s1

/-- A SAMPLE record that stands in the order of R54 after the group's last one. -/
def inOrder (l : List Sample) (x : Sample) : Bool := match l.getLast? with | some y => sampleBefore y x | none => true

/-- A record of a group (R75). -/
def replayGroup (at' : Nat) (rec' : Bytes) (s : State) : State :=
  let r := s.rpl
  let ty := u8 rec' 0
  if r.left ≠ 0 then
    (if ty = 2 then
      s.setRpl { r with left := r.left - 1
                        cmds := modifyAt (fun q => (q.1, q.2 ++ slice rec' 8 24)) (r.cmds.length - 1) r.cmds }
     else replayEnd stReplayOrder at' s)
  else if ty = 3 then
    (if u8 rec' 1 % 8 ≠ 0 then s
     else
       let x := replaySample rec'
       if inOrder r.samples x then s.setRpl { r with samples := r.samples ++ [x], places := r.places ++ [at'] } else replayEnd stReplayOrder at' s)
  else if ty = 4 then s.setRpl { r with cmds := r.cmds ++ [(rec', [])], left := u16 rec' 6 }
  else if ty = 5 then s.setRpl { r with eras := r.eras ++ [rec'] }
  else if ty = 6 then
    match (r.samples.zip r.places).find? fun q => frameOf q.1.stamp != u64 rec' 8 with
    | some q => replayEnd stReplayOrder q.2 s
    | none => replayFrame rec' s
  else if ty = 7 then s
  else replayEnd stReplayOrder at' s

/-- Core M takes the next entry of the replay ring (ring 45). -/
def replayTake (rec' : Bytes) (s : State) : State :=
  let x := s.ring 45
  if !s.awake || !s.rpl.active || !x.enable || x.waiting = 0 then s
  else
    let s1 := writeShadow 45 (s.setRing 45 { x with dev := x.next x.dev })
    let b := (padTo 32 rec').take 32
    if s.rpl.ended ≠ 0 then s1
    else if s.rpl.hdr < 3 then replayHeader x.dev b s1
    else replayGroup x.dev b s1

/-! Meaning of the row. -/

def execReplayRecord (t : Nat) (rec' : Bytes) (s : State) := run t (replayTake rec') s

end Sys2Proof.Machine
end

