-- ==== Sys2Proof/Machine/SenseEvents.lean ====
section
/-!
DEFINITION. What happens at the SENSE die as time passes: sequences, conversions, releases, comparator runs and impedance checks
(07 R227-R245; 08 R251-R266).
-/
namespace Sys2Proof.Machine

/-- A conversion ends. One that takes a reference of 0 V gives an open code (notes/assumptions/45.md). -/
def conversionEnds (l : Nat) (nv : Int) (sref : Nat) (overload : Bool) (s : State) : State :=
  let s1 := onSense (Sys2Proof.Machine.conversionEnd s.now l nv sref overload s.open') s
  if sref = 0 then s1.used else s1

/-! Meanings of the rows. -/

def execSeqPeriodicDue (t i : Nat) (s : State) :=
  run t (fun s => onSense (periodicDue s.now (dieShort (s.far 0) s.now) i) s) s
def execModulationStart (t l : Nat) (s : State) := run t (fun s => onSense (Sys2Proof.Machine.modulationStart s.now l) s) s
def execConversionEnd (t l : Nat) (x : AdcReading) (overload : Bool) (s : State) := run t (conversionEnds l x.nv x.ref overload) s
def execToneConversionEnd (t : Nat) (samples : List (List Int)) (s : State) :=
  run t (fun s => onSense (Sys2Proof.Machine.toneConversionEnd s.now samples) s) s
def execResultRelease (t : Nat) (s : State) := run t senseRelease s
def execOpenWireRun (t l : Nat) (runs : WireRuns) (s : State) :=
  run t (fun s => onSense (Sys2Proof.Machine.openWireRun s.now l runs.vsa runs.comps) s) s
def execImpCheckStart (t : Nat) (s : State) := run t (fun s => onSense (Sys2Proof.Machine.impCheckStart s.now) s) s
def execImpCheckEnd (t : Nat) (loop ground : List Int) (s : State) :=
  run t (fun s => putSense (Sys2Proof.Machine.impCheckEnd s.now loop ground s.sense) s) s
def execCheckRound (t : Nat) (s : State) := run t (fun s => onSense (Sys2Proof.Machine.checkRound s.now) s) s
def execPinRecheckDue (t pin : Nat) (s : State) := run t (fun s => onSense (pinRecheck s.now pin) s) s

end Sys2Proof.Machine
end

