-- ==== Sys2Proof/Machine/Dispatch.lean ====
section
/-!
DEFINITION. The dispatcher: one arm per command of Instr, one direct call of its meaning.
-/
namespace Sys2Proof.Machine

def exec (i : Instr) (s : State) : Host.Outcome State Fault Refusal :=
  match i with
  | .readTime t d => Sys2Proof.Machine.execReadTime t d s
  | .setSlew t d => Sys2Proof.Machine.execSetSlew t d s
  | .setClock t d => Sys2Proof.Machine.execSetClock t d s
  | .readEra t d => Sys2Proof.Machine.execReadEra t d s
  | .captureStart t d => Sys2Proof.Machine.execCaptureStart t d s
  | .captureStop t d => Sys2Proof.Machine.execCaptureStop t d s
  | .captureRead t d => Sys2Proof.Machine.execCaptureRead t d s
  | .enterReplay t d => Sys2Proof.Machine.execEnterReplay t d s
  | .leaveReplay t d => Sys2Proof.Machine.execLeaveReplay t d s
  | .readDigest t d => Sys2Proof.Machine.execReadDigest t d s
  | .replayRecord t rec1 => Sys2Proof.Machine.execReplayRecord t rec1 s
  | .mapStatus t d => Sys2Proof.Machine.execMapStatus t d s
  | .loadLegend t d => Sys2Proof.Machine.execLoadLegend t d s
  | .readLegend t d => Sys2Proof.Machine.execReadLegend t d s
  | .eraseLegend t d => Sys2Proof.Machine.execEraseLegend t d s
  | .mapPrime t d => Sys2Proof.Machine.execMapPrime t d s
  | .predRead t d => Sys2Proof.Machine.execPredRead t d s
  | .biasRead t d => Sys2Proof.Machine.execBiasRead t d s
  | .biasReset t d => Sys2Proof.Machine.execBiasReset t d s
  | .setInlet t d => Sys2Proof.Machine.execSetInlet t d s
  | .pairRead t d => Sys2Proof.Machine.execPairRead t d s
  | .mapExport t d => Sys2Proof.Machine.execMapExport t d s
  | .mapSave t d => Sys2Proof.Machine.execMapSave t d s
  | .mapRestore t d => Sys2Proof.Machine.execMapRestore t d s
  | .dryStatus t d => Sys2Proof.Machine.execDryStatus t d s
  | .dischargeStart t d => Sys2Proof.Machine.execDischargeStart t d s
  | .dischargeStop t d => Sys2Proof.Machine.execDischargeStop t d s
  | .setRate t d => Sys2Proof.Machine.execSetRate t d s
  | .setTarget t d => Sys2Proof.Machine.execSetTarget t d s
  | .heatPermit t d => Sys2Proof.Machine.execHeatPermit t d s
  | .heatOverride t d => Sys2Proof.Machine.execHeatOverride t d s
  | .setPlenum t d => Sys2Proof.Machine.execSetPlenum t d s
  | .routeStart t d => Sys2Proof.Machine.execRouteStart t d s
  | .routeStop t d => Sys2Proof.Machine.execRouteStop t d s
  | .batchControl t d => Sys2Proof.Machine.execBatchControl t d s
  | .dryRearm t d => Sys2Proof.Machine.execDryRearm t d s
  | .decisionRead t d => Sys2Proof.Machine.execDecisionRead t d s
  | .routeStatus t d => Sys2Proof.Machine.execRouteStatus t d s
  | .hostLimitTimeout t map => Sys2Proof.Machine.execHostLimitTimeout t map s
  | .stoStatus t d => Sys2Proof.Machine.execStoStatus t d s
  | .aerationMode t d => Sys2Proof.Machine.execAerationMode t d s
  | .aerationForce t d => Sys2Proof.Machine.execAerationForce t d s
  | .stoAck t d => Sys2Proof.Machine.execStoAck t d s
  | .sensorRead t d => Sys2Proof.Machine.execSensorRead t d s
  | .budgetRead t d => Sys2Proof.Machine.execBudgetRead t d s
  | .nodeScan t d => Sys2Proof.Machine.execNodeScan t d s
  | .senRead t d => Sys2Proof.Machine.execSenRead t d s
  | .seqRequest t d => Sys2Proof.Machine.execSeqRequest t d s
  | .cswClear t d => Sys2Proof.Machine.execCswClear t d s
  | .cswRead t d => Sys2Proof.Machine.execCswRead t d s
  | .senCounts t d => Sys2Proof.Machine.execSenCounts t d s
  | .moistSpectrum t d => Sys2Proof.Machine.execMoistSpectrum t d s
  | .moistEmpty t d => Sys2Proof.Machine.execMoistEmpty t d s
  | .checkRun t d => Sys2Proof.Machine.execCheckRun t d s
  | .checkRead t d => Sys2Proof.Machine.execCheckRead t d s
  | .checkBaseline t d => Sys2Proof.Machine.execCheckBaseline t d s
  | .linTest t d => Sys2Proof.Machine.execLinTest t d s
  | .vlvStatus t d => Sys2Proof.Machine.execVlvStatus t d s
  | .vlvForce t d => Sys2Proof.Machine.execVlvForce t d s
  | .vlvClear t d => Sys2Proof.Machine.execVlvClear t d s
  | .vlvTherm t d => Sys2Proof.Machine.execVlvTherm t d s
  | .fanStatus t d => Sys2Proof.Machine.execFanStatus t d s
  | .fanSet t d => Sys2Proof.Machine.execFanSet t d s
  | .fanForce t d => Sys2Proof.Machine.execFanForce t d s
  | .fanClear t d => Sys2Proof.Machine.execFanClear t d s
  | .fanLoopSet t d => Sys2Proof.Machine.execFanLoopSet t d s
  | .fanLearn t d => Sys2Proof.Machine.execFanLearn t d s
  | .uioStatus t d => Sys2Proof.Machine.execUioStatus t d s
  | .uioSet t d => Sys2Proof.Machine.execUioSet t d s
  | .uioForce t d => Sys2Proof.Machine.execUioForce t d s
  | .uioClear t d => Sys2Proof.Machine.execUioClear t d s
  | .uioSupply t d => Sys2Proof.Machine.execUioSupply t d s
  | .canStatus t d => Sys2Proof.Machine.execCanStatus t d s
  | .canTxCancel t d => Sys2Proof.Machine.execCanTxCancel t d s
  | .canRecover t d => Sys2Proof.Machine.execCanRecover t d s
  | .canClaim t d => Sys2Proof.Machine.execCanClaim t d s
  | .canRelease t d => Sys2Proof.Machine.execCanRelease t d s
  | .canStrangers t d => Sys2Proof.Machine.execCanStrangers t d s
  | .sysInfo t d => Sys2Proof.Machine.execSysInfo t d s
  | .loadDatum t d => Sys2Proof.Machine.execLoadDatum t d s
  | .abort t d => Sys2Proof.Machine.execAbort t d s
  | .exchangeRead t d => Sys2Proof.Machine.execExchangeRead t d s
  | .sampleFeed t d => Sys2Proof.Machine.execSampleFeed t d s
  | .readDatum t d => Sys2Proof.Machine.execReadDatum t d s
  | .pwrState t d => Sys2Proof.Machine.execPwrState t d s
  | .pwrReset t d => Sys2Proof.Machine.execPwrReset t d s
  | .planSet t d => Sys2Proof.Machine.execPlanSet t d s
  | .planRead t d => Sys2Proof.Machine.execPlanRead t d s
  | .safeRelease t d => Sys2Proof.Machine.execSafeRelease t d s
  | .safeSet t d => Sys2Proof.Machine.execSafeSet t d s
  | .safeStatus t d => Sys2Proof.Machine.execSafeStatus t d s
  | .keyStatus t d => Sys2Proof.Machine.execKeyStatus t d s
  | .keyChange t d => Sys2Proof.Machine.execKeyChange t d s
  | .keyErase t d => Sys2Proof.Machine.execKeyErase t d s
  | .cosignSet t d => Sys2Proof.Machine.execCosignSet t d s
  | .cosignRead t d => Sys2Proof.Machine.execCosignRead t d s
  | .queryLedger t d => Sys2Proof.Machine.execQueryLedger t d s
  | .settingsCommit t d => Sys2Proof.Machine.execSettingsCommit t d s
  | .nvsStatus t d => Sys2Proof.Machine.execNvsStatus t d s
  | .updStatus t d => Sys2Proof.Machine.execUpdStatus t d s
  | .updBegin t d => Sys2Proof.Machine.execUpdBegin t d s
  | .updBlock t d => Sys2Proof.Machine.execUpdBlock t d s
  | .updBitmap t d => Sys2Proof.Machine.execUpdBitmap t d s
  | .updApply t d => Sys2Proof.Machine.execUpdApply t d s
  | .updActivate t d => Sys2Proof.Machine.execUpdActivate t d s
  | .updConfirm t d => Sys2Proof.Machine.execUpdConfirm t d s
  | .updFallback t d => Sys2Proof.Machine.execUpdFallback t d s
  | .updCancel t d => Sys2Proof.Machine.execUpdCancel t d s
  | .stageBegin t d => Sys2Proof.Machine.execStageBegin t d s
  | .stageWrite t d => Sys2Proof.Machine.execStageWrite t d s
  | .stageCommit t d => Sys2Proof.Machine.execStageCommit t d s
  | .stageStatus t d => Sys2Proof.Machine.execStageStatus t d s
  | .gazStatus t d => Sys2Proof.Machine.execGazStatus t d s
  | .gazRead t d => Sys2Proof.Machine.execGazRead t d s
  | .gazClear t d => Sys2Proof.Machine.execGazClear t d s
  | .lifeRead t d => Sys2Proof.Machine.execLifeRead t d s
  | .lifeReplace t d => Sys2Proof.Machine.execLifeReplace t d s
  | .maintAck t d => Sys2Proof.Machine.execMaintAck t d s
  | .lastWordsRead t d => Sys2Proof.Machine.execLastWordsRead t d s
  | .doorbellWrite t ring v => Sys2Proof.Machine.execDoorbellWrite t ring v s
  | .heartbeatDoorbell t v => Sys2Proof.Machine.execHeartbeatDoorbell t v s
  | .hifHbkick t v => Sys2Proof.Machine.execHifHbkick t v s
  | .hifHbcfgWrite t v => Sys2Proof.Machine.execHifHbcfgWrite t v s
  | .heartbeatTimeout t => Sys2Proof.Machine.execHeartbeatTimeout t s
  | .ringEnable t ring v => Sys2Proof.Machine.execRingEnable t ring v s
  | .ringDisable t ring v => Sys2Proof.Machine.execRingDisable t ring v s
  | .heldCompletionWrite t cq => Sys2Proof.Machine.execHeldCompletionWrite t cq s
  | .spillDrain t ring => Sys2Proof.Machine.execSpillDrain t ring s
  | .functionLevelReset t => Sys2Proof.Machine.execFunctionLevelReset t s
  | .pcieLinkReset t => Sys2Proof.Machine.execPcieLinkReset t s
  | .registerWrite t addr size v => Sys2Proof.Machine.execRegisterWrite t addr size v s
  | .merNowLoRead t path => Sys2Proof.Machine.execMerNowLoRead t path s
  | .sysIlcfgWrite t n v => Sys2Proof.Machine.execSysIlcfgWrite t n v s
  | .sysLedgerSelWrite t v => Sys2Proof.Machine.execSysLedgerSelWrite t v s
  | .gazCfgWrite t v => Sys2Proof.Machine.execGazCfgWrite t v s
  | .canMbbaseWrite t ch hi v => Sys2Proof.Machine.execCanMbbaseWrite t ch hi v s
  | .icClaim t n => Sys2Proof.Machine.execIcClaim t n s
  | .icDone t n v => Sys2Proof.Machine.execIcDone t n v s
  | .icTreset t v => Sys2Proof.Machine.execIcTreset t v s
  | .icSwset t v => Sys2Proof.Machine.execIcSwset t v s
  | .icPendClear t w v => Sys2Proof.Machine.execIcPendClear t w v s
  | .icSrccfgWrite t src v => Sys2Proof.Machine.execIcSrccfgWrite t src v s
  | .icTsleepWrite t v => Sys2Proof.Machine.execIcTsleepWrite t v s
  | .icSourceEvent t src level => Sys2Proof.Machine.execIcSourceEvent t src level s
  | .icCoalesceTimeout t src => Sys2Proof.Machine.execIcCoalesceTimeout t src s
  | .spiRegisterWrite t x => Sys2Proof.Machine.execSpiRegisterWrite t x s
  | .spiRegisterRead t x => Sys2Proof.Machine.execSpiRegisterRead t x s
  | .spiBufferWrite t x => Sys2Proof.Machine.execSpiBufferWrite t x s
  | .spiBufferRead t x => Sys2Proof.Machine.execSpiBufferRead t x s
  | .spiMailboxPost t x => Sys2Proof.Machine.execSpiMailboxPost t x s
  | .spiMailboxRead t x => Sys2Proof.Machine.execSpiMailboxRead t x s
  | .logicFrameSend t link => Sys2Proof.Machine.execLogicFrameSend t link s
  | .farFrameReceive t link dmg => Sys2Proof.Machine.execFarFrameReceive t link dmg s
  | .farFrameSend t link => Sys2Proof.Machine.execFarFrameSend t link s
  | .logicFrameReceive t link dmg => Sys2Proof.Machine.execLogicFrameReceive t link dmg s
  | .farSilenceTimeout t link => Sys2Proof.Machine.execFarSilenceTimeout t link s
  | .nearSilenceTimeout t link => Sys2Proof.Machine.execNearSilenceTimeout t link s
  | .leaseExpiry t link => Sys2Proof.Machine.execLeaseExpiry t link s
  | .linkLostSynth t link => Sys2Proof.Machine.execLinkLostSynth t link s
  | .dieConfigLoad t link => Sys2Proof.Machine.execDieConfigLoad t link s
  | .sequencerLoad t link crcOk => Sys2Proof.Machine.execSequencerLoad t link crcOk s
  | .seqLoadRetry t link crcOk => Sys2Proof.Machine.execSeqLoadRetry t link crcOk s
  | .frameDecisions t tileUe extUe ce => Sys2Proof.Machine.execFrameDecisions t tileUe extUe ce s
  | .applyInstant t => Sys2Proof.Machine.execApplyInstant t s
  | .predictionRunEnd t lane => Sys2Proof.Machine.execPredictionRunEnd t lane s
  | .seqPeriodicDue t seq => Sys2Proof.Machine.execSeqPeriodicDue t seq s
  | .modulationStart t list => Sys2Proof.Machine.execModulationStart t list s
  | .conversionEnd t list x overload => Sys2Proof.Machine.execConversionEnd t list x overload s
  | .toneConversionEnd t samples => Sys2Proof.Machine.execToneConversionEnd t samples s
  | .resultRelease t => Sys2Proof.Machine.execResultRelease t s
  | .openWireRun t list runs => Sys2Proof.Machine.execOpenWireRun t list runs s
  | .impCheckStart t => Sys2Proof.Machine.execImpCheckStart t s
  | .impCheckEnd t loop ground => Sys2Proof.Machine.execImpCheckEnd t loop ground s
  | .checkRound t => Sys2Proof.Machine.execCheckRound t s
  | .pinRecheckDue t pin => Sys2Proof.Machine.execPinRecheckDue t pin s
  | .vlvPeakReached t x => Sys2Proof.Machine.execVlvPeakReached t x s
  | .vlvDwellEnd t ch => Sys2Proof.Machine.execVlvDwellEnd t ch s
  | .vlvHoldReached t x => Sys2Proof.Machine.execVlvHoldReached t x s
  | .vlvDecayEnd t x => Sys2Proof.Machine.execVlvDecayEnd t x s
  | .vlvPeakTimeout t ch => Sys2Proof.Machine.execVlvPeakTimeout t ch s
  | .vlvDeferTimeout t ch => Sys2Proof.Machine.execVlvDeferTimeout t ch s
  | .vlvThermalTick t i2 dieTemp => Sys2Proof.Machine.execVlvThermalTick t i2 dieTemp s
  | .vlvResistanceMeasure t ch sumV sumI meanI => Sys2Proof.Machine.execVlvResistanceMeasure t ch sumV sumI meanI s
  | .vlvOffStateTest t ch vDrain vBank => Sys2Proof.Machine.execVlvOffStateTest t ch vDrain vBank s
  | .vlvOnStateFault t ch x => Sys2Proof.Machine.execVlvOnStateFault t ch x s
  | .vlvOpenTest t ch iDet vDrain => Sys2Proof.Machine.execVlvOpenTest t ch iDet vDrain s
  | .bankShort t x => Sys2Proof.Machine.execBankShort t x s
  | .bankStuckOn t x => Sys2Proof.Machine.execBankStuckOn t x s
  | .vlvMovement t ch bins => Sys2Proof.Machine.execVlvMovement t ch bins s
  | .clampLow t vfld => Sys2Proof.Machine.execClampLow t vfld s
  | .fanTachEdge t ch us => Sys2Proof.Machine.execFanTachEdge t ch us s
  | .fanStartWindowEnd t ch i1 => Sys2Proof.Machine.execFanStartWindowEnd t ch i1 s
  | .fanRunJudge t ch i1 => Sys2Proof.Machine.execFanRunJudge t ch i1 s
  | .fanOutputFault t ch x => Sys2Proof.Machine.execFanOutputFault t ch x s
  | .fanRetryTimeout t ch => Sys2Proof.Machine.execFanRetryTimeout t ch s
  | .fanRun60s t ch => Sys2Proof.Machine.execFanRun60s t ch s
  | .fanLoopTick t ch => Sys2Proof.Machine.execFanLoopTick t ch s
  | .fanTableTick t ch => Sys2Proof.Machine.execFanTableTick t ch s
  | .fanTsnsRead t ch temp => Sys2Proof.Machine.execFanTsnsRead t ch temp s
  | .fanBinLearn t ch i1 => Sys2Proof.Machine.execFanBinLearn t ch i1 s
  | .fanFrameReport t ch i1 => Sys2Proof.Machine.execFanFrameReport t ch i1 s
  | .uioFilterChange t ch samples => Sys2Proof.Machine.execUioFilterChange t ch samples s
  | .uioWireBreak t ch before last => Sys2Proof.Machine.execUioWireBreak t ch before last s
  | .uioFrameReport t ch x => Sys2Proof.Machine.execUioFrameReport t ch x s
  | .uioPwmPeriod t ch => Sys2Proof.Machine.execUioPwmPeriod t ch s
  | .uioOverload t x => Sys2Proof.Machine.execUioOverload t x s
  | .uioBudgetOverload t x => Sys2Proof.Machine.execUioBudgetOverload t x s
  | .uioOpenLoad t ch x => Sys2Proof.Machine.execUioOpenLoad t ch x s
  | .uioOffStateTest t ch pinMv => Sys2Proof.Machine.execUioOffStateTest t ch pinMv s
  | .uioCrossfeedPulse t pinMv => Sys2Proof.Machine.execUioCrossfeedPulse t pinMv s
  | .fieldSupplyOff t x => Sys2Proof.Machine.execFieldSupplyOff t x s
  | .uvWarn t vfld => Sys2Proof.Machine.execUvWarn t vfld s
  | .uvWarnEnd t vfld => Sys2Proof.Machine.execUvWarnEnd t vfld s
  | .supplyRecovery t x => Sys2Proof.Machine.execSupplyRecovery t x s
  | .fieldDieReset t x => Sys2Proof.Machine.execFieldDieReset t x s
  | .fieldDieRestart t x => Sys2Proof.Machine.execFieldDieRestart t x s
  | .canFrameReceive t ch sof f => Sys2Proof.Machine.execCanFrameReceive t ch sof f s
  | .canTxRingTake t ch recs => Sys2Proof.Machine.execCanTxRingTake t ch recs s
  | .canTxComplete t ch sof => Sys2Proof.Machine.execCanTxComplete t ch sof s
  | .canTxError t ch x => Sys2Proof.Machine.execCanTxError t ch x s
  | .canBusOff t ch both => Sys2Proof.Machine.execCanBusOff t ch both s
  | .canRecoveryDone t ch => Sys2Proof.Machine.execCanRecoveryDone t ch s
  | .canClaimTimeout t ch => Sys2Proof.Machine.execCanClaimTimeout t ch s
  | .canWakePattern t ch => Sys2Proof.Machine.execCanWakePattern t ch s
  | .canSleepDiscard t ch => Sys2Proof.Machine.execCanSleepDiscard t ch s
  | .canDominantTimeout t x => Sys2Proof.Machine.execCanDominantTimeout t x s
  | .cableReadStart t => Sys2Proof.Machine.execCableReadStart t s
  | .fsafeNLow t => Sys2Proof.Machine.execFsafeNLow t s
  | .powerLoss t => Sys2Proof.Machine.execPowerLoss t s
  | .pornLow t => Sys2Proof.Machine.execPornLow t s
  | .sysrstNLow t => Sys2Proof.Machine.execSysrstNLow t s
  | .watchdogTimeout t => Sys2Proof.Machine.execWatchdogTimeout t s
  | .orderedReset t => Sys2Proof.Machine.execOrderedReset t s
  | .pornRelease t => Sys2Proof.Machine.execPornRelease t s
  | .startupReady t selfTest => Sys2Proof.Machine.execStartupReady t selfTest s
  | .trialWindowEnd t => Sys2Proof.Machine.execTrialWindowEnd t s
  | .sleepEntry t => Sys2Proof.Machine.execSleepEntry t s
  | .watchCycle t => Sys2Proof.Machine.execWatchCycle t s
  | .leaseRenewalWake t => Sys2Proof.Machine.execLeaseRenewalWake t s
  | .wakeSource t src => Sys2Proof.Machine.execWakeSource t src s
  | .haltTimer t => Sys2Proof.Machine.execHaltTimer t s
  | .meridianFloorWrite t => Sys2Proof.Machine.execMeridianFloorWrite t s
  | .refClockLost t => Sys2Proof.Machine.execRefClockLost t s
  | .refClockRestored t => Sys2Proof.Machine.execRefClockRestored t s
  | .lfClockLost t => Sys2Proof.Machine.execLfClockLost t s
  | .lfClockProven t => Sys2Proof.Machine.execLfClockProven t s
  | .housekeepingRound t temps rails parity => Sys2Proof.Machine.execHousekeepingRound t temps rails parity s
  | .farTempCheck t link temp => Sys2Proof.Machine.execFarTempCheck t link temp s
  | .thermalShutdownEnd t site => Sys2Proof.Machine.execThermalShutdownEnd t site s
  | .authLockEnd t slot => Sys2Proof.Machine.execAuthLockEnd t slot s
  | .settingsPeriodicCommit t => Sys2Proof.Machine.execSettingsPeriodicCommit t s
  | .lifetimeCommit t => Sys2Proof.Machine.execLifetimeCommit t s
  | .mramScrub t addr found => Sys2Proof.Machine.execMramScrub t addr found s
  | .gazSecondSample t => Sys2Proof.Machine.execGazSecondSample t s
  | .gazPeriodClose t level => Sys2Proof.Machine.execGazPeriodClose t level s
  | .hourlyBenchmark t => Sys2Proof.Machine.execHourlyBenchmark t s
  | .maintItemFire t item => Sys2Proof.Machine.execMaintItemFire t item s
  | .completionPoint t src tag => Sys2Proof.Machine.execCompletionPoint t src tag s
  | .fsafeNHigh t => Sys2Proof.Machine.execFsafeNHigh t s
  | .pllUnlock t pll => Sys2Proof.Machine.execPllUnlock t pll s
  | .pllRelock t pll => Sys2Proof.Machine.execPllRelock t pll s
  | .canRxError t ch kind => Sys2Proof.Machine.execCanRxError t ch kind s
  | .pcieLinkUp t speed width bme => Sys2Proof.Machine.execPcieLinkUp t speed width bme s
  | .shortToSupplyOff t x => Sys2Proof.Machine.execShortToSupplyOff t x s
  | .senseDiePowerUp t => Sys2Proof.Machine.execSenseDiePowerUp t s
  | .nodeScanEnd t => Sys2Proof.Machine.execNodeScanEnd t s
  | .fanReferenceSlew t ch => Sys2Proof.Machine.execFanReferenceSlew t ch s

end Sys2Proof.Machine
end

