-- ==== Sys2Proof/Machine/Step.lean ====
section
/-!
DEFINITION. One step: the command at the front of the queue, or one clock cycle when none waits
(notes/assumptions/1.md).
-/
namespace Sys2Proof.Machine

/-- The queue without its front, for the command that it held. -/
def State.popped (s : State) (rest : List Instr) : State := { s with pending := rest }

/-- The block takes the command at the front of its queue and runs it; with none waiting the Meridian goes on by one cycle
of its clock. -/
def step (s : State) : Host.Outcome State Fault Refusal :=
  match s.pending with
  | c :: rest => exec c (s.popped rest)
  | [] => .next (idle s)

/-- The command that a table word spells is put at the front of the queue. -/
def State.withFetchWord (s : State) (nbits w : Nat) : State :=
  match decodeTableWord nbits w with
  | some c => { s with pending := c :: s.pending }
  | none => s

end Sys2Proof.Machine
end

