-- ==== Sys2Proof/Safety.lean ====
section
/-!
DEFINITION. What counts as a safe step of the block, and the words that the statements use: a host command that begins its own
work, its end, its wait for a frame, an event that happens.
-/
namespace Sys2Proof.Machine

/-- A step stops the machine neither with a fault nor with a refusal. -/
def runs (s : State) : Prop := ∃ s', step s = .next s'

/-- The SPI buffer and the image slots keep their canonical form. -/
def State.memOk (s : State) : Bool := Memory.wf s.spi.buffer && Memory.wf s.upd.slotA && Memory.wf s.upd.slotB

/-- The shape that every step keeps: the memories' canonical form, three links at both ends, four CAN channels, 46 rings, eight key
slots. -/
def State.shapeOk (s : State) : Bool :=
  s.memOk && s.links.near.length == 3 && s.links.far.length == 3 && s.can.length == 4 && s.hif.rings.length == 46 &&
    s.auth.slots.length == 8

/-- The state but for the interrupt controller, the host interface, what has gone to the host and what the clock cycle has seen. -/
def State.behind (s : State) : State :=
  { s with ic := icReset, hif := hifReset, host := { posted := [], readData := 0 }, cyc := cycleReset 0 }

/-- The state but for what the handling of a command touches besides the command's own work: its source, the list of incomplete
commands, the ledger and its store, the key counters, the recorder's counts. -/
def State.body (s : State) : State :=
  { s.behind with can := [], spi := spiReset, cmds := [], nvs := nvsReset, auth := authReset, gaz := gazReset, free := 0 }

/-- A host command comes: it is taken out of its source, passes the checks of its descriptor, its ledger entry, its judgement
where it carries CRIT, and its acceptance. The command and the state in which its own work begins; none where it is not taken, or
is refused before that. -/
def begins (k : Spec) (d0 : Desc) (s0 : State) : Option (Cmd × State) :=
  if (sourceOpen d0.src s0 && offered k.op d0 s0) = false then none
  else
    let s := takeOut d0 s0
    let pay := payloadOf d0 s
    let d := { d0 with data := pay.getD [] }
    let led := if ledgered k d then ledgerPick s else none
    if (refuseAtTaking k d pay s).isSome = true ∨ (ledgered k d = true ∧ led = none) then none
    else
      let j := if flCrit d then judgeCrit k.op d d.data s else (s, none)
      let q := refuseAccepted k d j.1
      if j.2.isSome = true ∨ q.2.isSome = true then none
      else
        let s1 := openEntry led k d j.1.now q.1 j.1
        some ({ op := k.op, d, acc := j.1.now, eff := q.1, tied := k.frame == 1, internal := false, led, prog := 0, aux := 0 },
          if k.frame = 1 then s1 else ledRun led s1)

/-- A command ends, or stays among the incomplete ones. -/
def follow (c : Cmd) : Next → State
  | .done s st prog r => finish c st prog r s
  | .wait s c1 => { s with cmds := s.cmds ++ [c1] }

/-- State, PROGRESS and RESULT of a work that ends with status OK. -/
def endedOk : Next → Option (State × Nat × Nat)
  | .done s st prog r => if st = stOk then some (s, prog, r) else none
  | .wait _ _ => none

/-- Every command of a row that begins where `P` holds goes on as `o` says, and nothing else happens. The tables may mark an
opcode by its parameters or by the state (`k`). -/
def goesOn (i : Nat → Desc → Instr) (k : Desc → State → Spec) (P : Cmd → State → Bool) (o : Cmd → State → Next) : Prop :=
  ∀ t d s c s1, begins (k d (advance t s)) d (advance t s) = some (c, s1) → P c s1 = true →
    exec (i t d) s = .next (icSettle (follow c (o c s1)))

/-- It completes at once: status OK, PROGRESS 0, RESULT `r`, in the state that `f` gives. -/
def completes (i : Nat → Desc → Instr) (k : Spec) (P : Cmd → State → Bool) (f : Cmd → State → State) (r : Cmd → State → Nat) : Prop :=
  goesOn i (fun _ _ => k) P fun c s => .done (f c s) stOk 0 (r c s)

/-- Its answer fits; it writes the bytes `b` at its payload address and completes with OK and RESULT `r`; nothing else changes. -/
def answers (i : Nat → Desc → Instr) (k : Spec) (P : Cmd → State → Bool) (b : Cmd → State → Bytes) (r : Cmd → State → Nat) : Prop :=
  completes i k (fun c s => P c s && fits c.d (b c s)) (fun c s => putData c.d (b c s) s) r

/-- It waits, among the incomplete commands, for the decisions of its frame. -/
def waits (i : Nat → Desc → Instr) (k : Desc → Spec) (P : Cmd → State → Bool) : Prop :=
  goesOn i (fun d _ => k d) P fun c s => .wait s c

/-- In the decisions of its frame n a command of an opcode, where `P` holds, has the effect `f` and completes with OK and RESULT
`r`; Routes that started are counted (18 R484). -/
def takes (op : Nat) (P : Nat → Cmd → State → Bool) (f : Nat → Cmd → State → State) (r : Nat → Cmd → State → Nat) : Prop :=
  ∀ n c s, c.op = op → P n c (ledRun c.led s) = true →
    takeEffect n s c =
      (let s1 := finish c stOk 0 (r n c (ledRun c.led s)) (f n c (ledRun c.led s))
       countRoutes s.plant.routes s1.plant.routes s1)

/-- An event of a row that comes where `P` holds has the effect `f`. -/
def happens (i : Nat → Instr) (P : State → Bool) (f : State → State) : Prop :=
  ∀ t s, P (advance t s) = true → exec (i t) s = .next (icSettle (f (advance t s)))

/-- A register write of a row that has its turn where `P` holds has the effect `f`; one that took effect before its turn, ahead of a
claim read or an SPI write of its cycle, leaves nothing to do (23 R537, 14 R403). -/
def lands (i : Nat → Instr) (P : State → Bool) (f : State → State) : Prop :=
  (∀ t s, P (advance t s) = true → (advance t s).cy.early.contains (i t) = false → exec (i t) s = .next (icSettle (f (advance t s)))) ∧
  (∀ t s, (advance t s).cy.early.contains (i t) = true →
    exec (i t) s = .next (icSettle (let s1 := advance t s; { s1 with cyc := { s1.cy with early := s1.cy.early.erase (i t) } })))

/-- No condition. -/
def always {α β : Type} : α → β → Bool := fun _ _ => true
/-- No condition on the state. -/
def anyState : State → Bool := fun _ => true

end Sys2Proof.Machine
end

