-- ==== Sys2Proof/Certificates/Slice0/Obligations.lean ====
section
/-!
DEFINITION. The statements for the provers. A completion statement names, for each command of its group, the conditions on the
state and the operands and the next state that the command's own effect gives; `goesOn`, `completes`, `answers`, `waits`, `takes`
and `happens` (Sys2Proof/Safety.lean) hold the form.
-/
open Sys2Proof Sys2Proof.Machine

/-! Time (02). -/

/-- READ_TIME answers the wall time of its instant; SET_SLEW in ±200,000 ppb puts the slew in force and answers INC; SET_CLOCK
without a step of the offset makes the wall time valid, with a step it opens an era first; READ_ERA answers the record. -/
def Obligations.ClockCommandsComplete : Prop :=
  completes .readTime specReadTime always (fun _ s => s) (fun _ s => ofS 64 ((s.now : Int) + s.time.offset)) ∧
  completes .setSlew specSetSlew (fun c _ => decide (-200000 ≤ s32 c.d.params 0) && decide (s32 c.d.params 0 ≤ 200000))
    (fun c s => { s with time := { s.time with slew := s32 c.d.params 0 } }) (fun c _ => incOf (s32 c.d.params 0)) ∧
  completes .setClock specSetClock (fun c s => decide (p64 c.d 0 ≤ s.now) && decide (s64 c.d.params 8 - p64 c.d 0 = s.time.offset))
    (fun _ s => baseMaint { s with time := { s.time with wallValid := true } }) (fun _ s => s.time.era) ∧
  (∀ s2, completes .setClock specSetClock
    (fun c s => decide (p64 c.d 0 ≤ s.now) && decide (s64 c.d.params 8 - p64 c.d 0 ≠ s.time.offset) &&
      decide (openEra 1 (s64 c.d.params 8 - p64 c.d 0) (ledTarget c.led (0xA300 + (s.time.era + 1) % 65536 % 64) 0 s) = (s2, true)))
    (fun _ _ => baseMaint { s2 with time := { s2.time with wallValid := true } }) (fun _ _ => s2.time.era)) ∧
  (∀ e, answers .readEra specReadEra (fun c s => decide ((s.time.eras.find? fun x => x.num == p16 c.d 0) = some e))
    (fun _ _ => eraBytes e) (fun _ _ => 0))

/-- CAPTURE_START and CAPTURE_STOP wait for their frame; in its decisions the capture begins with the snapshot, HEADER and its CONT
records, or ends with END; CAPTURE_READ answers the bytes at its offset; READ_DIGEST answers D and H of a frame. -/
def Obligations.CaptureCommandsComplete : Prop :=
  waits .captureStart (fun _ => specCaptureStart) always ∧
  takes 0x0205 (fun _ _ s => !s.cap.active) (fun n _ s => captureBegin n s) (fun _ c _ => c.eff) ∧
  waits .captureStop (fun _ => specCaptureStop) always ∧
  takes 0x0206 (fun _ _ s => s.cap.active)
    (fun _ _ s => { s with cap := { s.cap with active := false, odd := [], buf := s.cap.buf ++ capEndRec 1 s.cap.last } })
    (fun _ _ s => s.cap.last) ∧
  completes .captureRead specCaptureRead (fun _ s => s.cap.present)
    (fun c s => putData c.d ((s.cap.buf.drop (p64 c.d 0)).take c.d.plen) s)
    (fun c s => ((s.cap.buf.drop (p64 c.d 0)).take c.d.plen).length) ∧
  (∀ x, answers .readDigest specReadDigest (fun c s => decide ((s.frm.digests.find? fun y => y.frame == p64 c.d 0) = some x))
    (fun _ _ => x.d ++ x.h) (fun _ _ => 0))

/-- ENTER_REPLAY sets the safe-state line with cause 6, saves the live plant and loads the snapshot's (where the payload spells one);
LEAVE_REPLAY gives the live plant back, restarts the digest chain from the configuration hash and answers the frames and mismatches;
a record of the replay ring that comes while a replay is under way is taken as one of its group. A snapshot spells the plant and the
outputs in force that it was written from. -/
def Obligations.ReplayCommandsComplete : Prop :=
  goesOn .enterReplay (fun _ _ => specEnterReplay) always (fun c s =>
    let s1 := setLine 6 s
    let p := (snapshotOf c.d.data).getD (s1.plant, s1.frm.inForce)
    .done { s1 with plant := p.1, svy := { s1.svy with lanes := svyReset.lanes }
                    rpl := { replayReset with active := true, saved := some s1.plant, inForce := p.2 } } stOk c.d.data.length 0) ∧
  (∀ p outs, snapshotOf (snapshot p outs) = some (p, outs)) ∧
  goesOn .leaveReplay (fun _ _ => specLeaveReplay) (fun _ s => s.rpl.active && decide (s.rpl.ended = 0)) (fun _ s =>
    let f := { s.frm with next := s.n0 s.now, chain := configHash s, prev := none, collector := [], decided := none, missed := none }
    .done (fillLanes { s with plant := s.rpl.saved.getD s.plant, rpl := replayReset, frm := f, svy := { s.svy with lanes := svyReset.lanes } })
      stOk s.rpl.index (s.rpl.frames % 2 ^ 32 + s.rpl.mismatches % 2 ^ 32 * 2 ^ 32)) ∧
  (∀ rec', happens (fun t => .replayRecord t rec')
    (fun s => s.awake && s.rpl.active && (s.ring 45).enable && decide ((s.ring 45).waiting ≠ 0) && decide (s.rpl.ended = 0))
    (fun s =>
      let x := s.ring 45
      let s1 := writeShadow 45 (s.setRing 45 { x with dev := x.next x.dev })
      if s.rpl.hdr < 3 then replayHeader x.dev ((padTo 32 rec').take 32) s1 else replayGroup x.dev ((padTo 32 rec').take 32) s1))

/-! Maps (03, 04). -/

/-- MAP_STATUS answers the map's word and clears its three one-time bits; READ_LEGEND answers the committed image; PRED_READ the
bound result, PAIR_READ the newest pairs, BIAS_READ the bias entries. -/
def Obligations.MapQueriesComplete : Prop :=
  (∀ m, completes .mapStatus specMapStatus (fun c s => decide (s.map (p8 c.d 0) = some m))
    (fun _ s => s.setMap { m with repaired := false, aborted := false, clipped := false }) (fun _ s => mapStatusWord s.plant m)) ∧
  answers .readLegend specReadLegend (fun c s => decide (p8 c.d 0 ≤ 14) && decide (legImage s (p8 c.d 0) ≠ []))
    (fun c s => legImage s (p8 c.d 0)) (fun c s => (legImage s (p8 c.d 0)).length) ∧
  (∀ m r, answers .predRead specPredRead
    (fun c s => decide (s.map (p8 c.d 0) = some m) && decide (0 < s.frm.next) && decide (boundAt m (s.frm.next - 1) = some r))
    (fun _ _ => predBytes r) (fun _ _ => (predBytes r).length)) ∧
  (∀ m, answers .pairRead specPairRead (fun c s => decide (s.map (p8 c.d 0) = some m))
    (fun c _ => ((m.pairLog.reverse.take (p16 c.d 2)).map pairBytes).flatten) (fun c _ => (m.pairLog.reverse.take (p16 c.d 2)).length)) ∧
  answers .biasRead specBiasRead (fun c _ => decide (p8 c.d 0 = 0xFF)) (fun _ s => ((List.range 15).map (biasBytes s)).flatten) (fun _ _ => 15) ∧
  answers .biasRead specBiasRead (fun c s => decide (p8 c.d 0 ≤ 14) && decide (legImage s (p8 c.d 0) ≠ []))
    (fun c s => biasBytes s (p8 c.d 0)) (fun _ _ => 1)

/-- LOAD_LEGEND of a good image waits for its completion point, where the commit word is written and the image stored for its frame;
ERASE_LEGEND of a slot that nothing names clears the commit word and stores the erase for its frame. -/
def Obligations.LegendStoreCommandsComplete : Prop :=
  goesOn .loadLegend (fun _ _ => specLoadLegend)
    (fun c _ => decide (p8 c.d 0 ≤ 14) && !legFormatBad c.d.data && !legRangeBad c.d.data) (fun c s => .wait s c) ∧
  (∀ p e s2, completes .eraseLegend specEraseLegend
    (fun c s => decide (p8 c.d 0 ≤ 14) && decide (legArea s.store.legs (p8 c.d 0) = some p) && !legendInUse (p8 c.d 0) s &&
      decide (effFrame s c.d s.now = (e, none)) &&
      decide (clearArea p.1 (ledTarget c.led (0x5000 + p8 c.d 0) p.2.gen s) = (s2, true)))
    (fun c _ => { s2 with store := { s2.store with waits := s2.store.waits ++ [.legend { slot := p8 c.d 0, eff := e, img := [], load := false }] } })
    (fun _ _ => 2 ^ 32 * e))

/-- MAP_PRIME, BIAS_RESET and SET_INLET wait for their frame; there MAP_PRIME fills the map's cells, BIAS_RESET starts the slot's
bias state from its Legend, SET_INLET writes the map's inlet state. -/
def Obligations.MapSettingCommandsComplete : Prop :=
  waits .mapPrime (fun _ => specMapPrime) (fun c s => (s.map (p8 c.d 0)).isSome) ∧
  (∀ m r, takes 0x0305 (fun _ c s => decide (s.map (p8 c.d 0) = some m) && decide (s.mapRecs (p8 c.d 0) = some r))
    (fun _ _ s => s.setMap (mapPrimeCells s.imgs r m)) (fun _ c _ => c.eff)) ∧
  waits .biasReset (fun _ => specBiasReset) (fun c s => decide (p8 c.d 0 ≤ 14) && decide (legImage s (p8 c.d 0) ≠ [])) ∧
  takes 0x0322 (fun _ c s => decide (p8 c.d 0 ≤ 14) && decide (legImage s (p8 c.d 0) ≠ []))
    (fun _ c s => { s with plant := { s.plant with bias := setAt (p8 c.d 0) (biasStart (legImg s.imgs (p8 c.d 0)) c.eff) s.plant.bias } })
    (fun _ c _ => c.eff) ∧
  waits .setInlet (fun _ => specSetInlet) (fun c s => (inletChk c s).isNone) ∧
  (∀ m, takes 0x0323 (fun _ c s => decide (s.map (p8 c.d 8) = some m) && (inletChk c s).isNone)
    (fun _ c s =>
      let s1 := s.setMap { m with inlet := inletSet s.imgs c.d m.inlet }
      if inletSlot s1.plant m.shape.num = m.inlet.legend then s1 else linRefresh s1)
    (fun _ c _ => c.eff))

/-- MAP_EXPORT and MAP_SAVE wait for their frame and write the rows or the save image at the payload address at the end of its
decisions; MAP_RESTORE gives the maps that the image's blocks fit their state and the slots of the same Legends their bias, discards
every prediction result and restarts the chain. The blocks of a save image spell the maps that they were written from. -/
def Obligations.MapTransferCommandsComplete : Prop :=
  goesOn .mapExport (fun _ _ => specMapExport) always
    (fun c s => if (s.map (p8 c.d 0)).isSome then .wait s c else .done s stMapUndefined 0 0) ∧
  (∀ m, takes 0x0325
    (fun _ c s => decide (s.map (p8 c.d 0) = some m) && (exportChk c s).isNone && fits c.d (rowCells m (p16 c.d 2) (p16 c.d 4)))
    (fun _ c s => putData c.d (rowCells m (p16 c.d 2) (p16 c.d 4)) s) (fun _ c _ => (rowCells m (p16 c.d 2) (p16 c.d 4)).length)) ∧
  goesOn .mapSave (fun _ _ => specMapSave) always (fun c s => .wait s c) ∧
  takes 0x0326 (fun _ c s => fits c.d (saveImage c.eff s)) (fun _ c s => putData c.d (saveImage c.eff s) s)
    (fun _ c s => (saveImage c.eff s).length) ∧
  goesOn .mapRestore (fun _ _ => specMapRestore) always
    (fun c s => if saveBad c.d.data then .done s stSaveFormat 0 0 else .wait s c) ∧
  (∀ n c s0, c.op = 0x0327 → anyDischarge (ledRun c.led s0).plant = false →
    let s := ledRun c.led s0
    let img := c.d.data.take (u32 c.d.data 8)
    let blocks := blocksOfImage ((img.drop 64).take (img.length - 64 - 480))
    let good := blocks.filter fun b => s.plant.maps.any (blockFits b)
    let bias := restoreBias s.imgs (img.drop (img.length - 480)) s.plant.bias
    let maps := s.plant.maps.map fun m =>
      let m1 := match good.find? fun b => blockFits b m with | some b => restoreMap m b | none => m
      { m1 with results := [], jobs := [] }
    let s1 := finish c stOk c.d.data.length (good.length + 65536 * (blocks.length - good.length) + 2 ^ 32 * bias.2)
      (chainRestart (linRefresh { s with plant := { s.plant with maps := maps, bias := bias.1 } }))
    takeEffect n s0 c = countRoutes s0.plant.routes s1.plant.routes s1) ∧
  (∀ l, blocksOfImage (mapBlocks l) = l)

/-! Drying (05); the queries of storage with those of drying. -/

/-- DRY_STATUS, ROUTE_STATUS and DECISION_READ answer the dryer's word, the Route's word and the candidates of its last choice;
STO_STATUS, BUDGET_READ and SENSOR_READ the bin's words and its sensors' entries. -/
def Obligations.PlantQueriesComplete : Prop :=
  (∀ x, completes .dryStatus specDryStatus (fun c s => decide (s.dryer (p8 c.d 0) = some x)) (fun _ s => s)
    (fun _ s => dryStatusResult s.plant x)) ∧
  (∀ r, completes .routeStatus specRouteStatus (fun c s => decide (s.route (p8 c.d 0) = some r)) (fun _ s => s)
    (fun _ _ => r.state + 256 * r.cause + 65536 * r.elem + 2 ^ 32 * (r.changed % 2 ^ 32))) ∧
  (∀ x, answers .decisionRead specDecisionRead (fun c s => decide (s.dryer (p8 c.d 0) = some x))
    (fun _ _ => padTo 768 (x.choices.map choiceBytes).flatten) (fun _ _ => x.choiceFrame)) ∧
  (∀ x, completes .stoStatus specStoStatus (fun c s => decide (s.bin (p8 c.d 0) = some x)) (fun _ s => s) (fun _ s => stoStatusResult s x)) ∧
  (∀ x, completes .budgetRead specBudgetRead (fun c s => decide (s.bin (p8 c.d 0) = some x)) (fun _ s => s) (fun _ _ => budgetResult x)) ∧
  (∀ x, answers .sensorRead specSensorRead (fun c s => decide (s.bin (p8 c.d 0) = some x))
    (fun _ _ => (x.sensors.map sensBytes).flatten) (fun _ _ => x.sensors.length))

/-- The discharge commands wait for their frame. There DISCHARGE_START of an untripped dryer, outside a held safe state, takes its mode
and a rate inside Q_MIN to Q_MAX, and its fans go by their map again; DISCHARGE_STOP stops; SET_RATE in manual mode takes the rate; SET_TARGET takes the target. -/
def Obligations.DischargeCommandsComplete : Prop :=
  waits .dischargeStart (fun _ => specDischargeStart)
    (fun c s => (s.datum.dryerOf (p8 c.d 0)).isSome && (decide (p8 c.d 1 = 1) || decide (p8 c.d 1 = 2))) ∧
  (∀ dc x, takes 0x0402
    (fun _ c s => decide (s.datum.dryerOf (p8 c.d 0) = some dc) && decide (s.dryer (p8 c.d 0) = some x) &&
      (decide (p8 c.d 1 = 1) || decide (p8 c.d 1 = 2)) && decide (x.sup.trip = 0) && !s.plant.safeHeld)
    (fun _ c s => s.setPlant (freeFans s.datum x.map (setDryer s.plant (dryAgain s.datum s.plant
      { x with dis := { x.dis with mode := p8 c.d 1, q := startRate s.datum dc (p32 c.d 4) } }))))
    (fun _ c _ => c.eff)) ∧
  waits .dischargeStop (fun _ => specDischargeStop) (fun c s => (s.datum.dryerOf (p8 c.d 0)).isSome) ∧
  (∀ x, takes 0x0403 (fun _ c s => (s.datum.dryerOf (p8 c.d 0)).isSome && decide (s.dryer (p8 c.d 0) = some x))
    (fun _ _ s => s.putDryer { x with dis := disStop x.dis }) (fun _ c _ => c.eff)) ∧
  (∀ dc, waits .setRate (fun _ => specSetRate) (fun c s => decide (s.datum.dryerOf (p8 c.d 0) = some dc) &&
    decide (dcQMin dc ≤ p32 c.d 4) && decide (p32 c.d 4 ≤ dcQMax dc))) ∧
  (∀ dc x, takes 0x0404
    (fun _ c s => decide (s.datum.dryerOf (p8 c.d 0) = some dc) && decide (s.dryer (p8 c.d 0) = some x) &&
      decide (dcQMin dc ≤ p32 c.d 4) && decide (p32 c.d 4 ≤ dcQMax dc) && decide (x.dis.mode = 2))
    (fun _ c s => s.putDryer { x with dis := { x.dis with q := p32 c.d 4 } }) (fun _ c _ => c.eff)) ∧
  waits .setTarget (fun _ => specSetTarget) (fun c s => (s.datum.dryerOf (p8 c.d 0)).isSome &&
    (decide (p16 c.d 2 ≠ 0) || decide (lgTarget (legImg s.imgs (inletSlot s.plant (p8 c.d 0))) ≠ 0))) ∧
  (∀ x, takes 0x0405
    (fun _ c s => (s.datum.dryerOf (p8 c.d 0)).isSome && decide (s.dryer (p8 c.d 0) = some x) &&
      (decide (p16 c.d 2 ≠ 0) || decide (lgTarget (legImg s.imgs (inletSlot s.plant (p8 c.d 0))) ≠ 0)))
    (fun _ c s => s.putDryer { x with dis := { x.dis with target := some (p16 c.d 2) } }) (fun _ c _ => c.eff))

/-- The heat commands wait for their frame. There HEAT_PERMIT grants (outside a trip and a held safe state) or withdraws the zone's
permit; HEAT_OVERRIDE sets or ends the override; SET_PLENUM takes a set-point inside the zone's limits. -/
def Obligations.HeatCommandsComplete : Prop :=
  waits .heatPermit specHeatPermit (fun c s => decide (p8 c.d 0 < (s.datum.recs tyHeat).length)) ∧
  (∀ r z x, takes 0x0406
    (fun _ c s => decide (p8 c.d 0 < (s.datum.recs tyHeat).length) && decide ((s.datum.recs tyHeat)[p8 c.d 0]? = some r) &&
      decide (s.plant.zones[p8 c.d 0]? = some z) && decide (p8 c.d 1 = 1) && decide (s.dryer (hzMap r) = some x) &&
      decide (x.sup.trip = 0) && !s.plant.safeHeld)
    (fun _ c s =>
      let s1 := s.putZone (p8 c.d 0) { z with permit := true }
      s1.putDryer (dryAgain s.datum s1.plant x)) (fun _ c _ => c.eff)) ∧
  (∀ z, takes 0x0406
    (fun _ c s => decide (p8 c.d 0 < (s.datum.recs tyHeat).length) && decide (s.plant.zones[p8 c.d 0]? = some z) && decide (p8 c.d 1 ≠ 1))
    (fun _ c s => s.putZone (p8 c.d 0) { z with permit := false }) (fun _ c _ => c.eff)) ∧
  waits .heatOverride (fun _ => specHeatOverride) (fun c s => decide (p8 c.d 0 < (s.datum.recs tyHeat).length)) ∧
  (∀ z, takes 0x0407 (fun _ c s => decide (p8 c.d 0 < (s.datum.recs tyHeat).length) && decide (s.plant.zones[p8 c.d 0]? = some z))
    (fun _ c s => s.putZone (p8 c.d 0) { z with ovr := if p8 c.d 1 = 0 then none else some (p16 c.d 2) }) (fun _ c _ => c.eff)) ∧
  (∀ r, waits .setPlenum (fun _ => specSetPlenum) (fun c s => decide ((s.datum.recs tyHeat)[p8 c.d 0]? = some r) &&
    decide (hzMin r ≤ s16 c.d.params 2) && decide (s16 c.d.params 2 ≤ hzMax r))) ∧
  (∀ r z, takes 0x0408
    (fun _ c s => decide ((s.datum.recs tyHeat)[p8 c.d 0]? = some r) && decide (s.plant.zones[p8 c.d 0]? = some z) &&
      decide (hzMin r ≤ s16 c.d.params 2) && decide (s16 c.d.params 2 ≤ hzMax r))
    (fun _ c s => s.putZone (p8 c.d 0) { z with sp := s16 c.d.params 2 }) (fun _ c _ => c.eff))

/-- The Route, batch and re-arm commands wait for their frame. There ROUTE_START of an idle or faulted Route without a stop in
the same frame, a conflict, a trip of its map or a held safe state begins its start; ROUTE_STOP stops it; BATCH_CONTROL START, NEXT, ABORT and RESUME act on the batch
machine; DRY_REARM clears the trip once the trip has been clear for its re-arm time. -/
def Obligations.RouteAndBatchCommandsComplete : Prop :=
  waits .routeStart (fun _ => specRouteStart) (fun c s => (s.datum.routeRec (p8 c.d 0)).isSome) ∧
  (∀ rr r, takes 0x0409
    (fun n c s => decide (s.datum.routeRec (p8 c.d 0) = some rr) && decide (s.route (p8 c.d 0) = some r) &&
      (decide (r.state = 0) || decide (r.state = 4)) && decide (r.stopped ≠ some n) && !routeConflict s.datum s.plant rr &&
      !(bit (rtFlags rr) 0 && s.plant.dryers.any fun x => x.map == rtMap rr && x.sup.trip != 0) && !s.plant.safeHeld)
    (fun n _ s => s.setPlant (setRoute s.plant (startRoute n r))) (fun _ c _ => c.eff)) ∧
  waits .routeStop (fun _ => specRouteStop) (fun c s => (s.datum.routeRec (p8 c.d 0)).isSome) ∧
  (∀ r, takes 0x040A (fun _ c s => (s.datum.routeRec (p8 c.d 0)).isSome && decide (s.route (p8 c.d 0) = some r))
    (fun n c s => s.setPlant (setRoute s.plant (routeStopped n (bit (p8 c.d 1) 0) r))) (fun _ c _ => c.eff)) ∧
  waits .batchControl specBatchControl (fun c s => (s.datum.dryerOf (p8 c.d 0)).isSome) ∧
  (∀ x mr, takes 0x040B
    (fun _ c s => (s.datum.dryerOf (p8 c.d 0)).isSome && decide (s.dryer (p8 c.d 0) = some x) && decide (s.datum.mapRec x.map = some mr) &&
      decide (mapKind mr ≠ kCont) && decide (p8 c.d 1 = 1) && decide (x.bat.state = 0) && !s.plant.safeHeld)
    (fun n _ s => s.setPlant (freeFans s.datum x.map (batchJump n s.datum 1 { x with bat := { x.bat with held := false } } s.plant)))
    (fun _ c _ => c.eff)) ∧
  (∀ x mr, takes 0x040B
    (fun _ c s => (s.datum.dryerOf (p8 c.d 0)).isSome && decide (s.dryer (p8 c.d 0) = some x) && decide (s.datum.mapRec x.map = some mr) &&
      decide (mapKind mr ≠ kCont) && decide (p8 c.d 1 = 2) && decide (x.bat.state ≠ 0) && !x.bat.held)
    (fun _ _ s => s.putDryer { x with bat := { x.bat with next := true } }) (fun _ c _ => c.eff)) ∧
  (∀ x mr, takes 0x040B
    (fun _ c s => (s.datum.dryerOf (p8 c.d 0)).isSome && decide (s.dryer (p8 c.d 0) = some x) && decide (s.datum.mapRec x.map = some mr) &&
      decide (mapKind mr ≠ kCont) && decide (p8 c.d 1 = 4) && x.bat.held && !s.plant.safeHeld)
    (fun _ _ s => s.setPlant (freeFans s.datum x.map (setDryer s.plant { x with bat := { x.bat with held := false } })))
    (fun _ c _ => c.eff)) ∧
  waits .dryRearm (fun _ => specDryRearm) (fun c s => (s.datum.dryerOf (p8 c.d 0)).isSome) ∧
  (∀ x su, takes 0x040C
    (fun _ c s => (s.datum.dryerOf (p8 c.d 0)).isSome && decide (s.dryer (p8 c.d 0) = some x) && decide (s.datum.superOf x.map = some su) &&
      decide (x.sup.trip ≠ 0) && decide (suRearm su ≤ x.sup.clear))
    (fun _ _ s => s.putDryer { x with sup := { x.sup with trip := 0 }, dis := if x.dis.mode = 3 then disStop x.dis else x.dis })
    (fun _ c _ => c.eff))

/-! Storage (06). -/

/-- AERATION_MODE, AERATION_FORCE and STO_ACK wait for their frame, where the bin takes its mode, its force until the frame that the
duration gives, or the cleared alarms. NODE_SCAN sends a REQUEST and waits one second; NODE_SCAN_END then completes it with the
entries of the nodes that answered; CABLE_READ_START requests the cables of the BIN step that is due. -/
def Obligations.StorageCommandsComplete : Prop :=
  waits .aerationMode (fun _ => specAerationMode) (fun c s => (s.bin (p8 c.d 0)).isSome && decide (p8 c.d 1 ≤ 3)) ∧
  (∀ x, takes 0x0502 (fun _ c s => decide (s.bin (p8 c.d 0) = some x) && decide (p8 c.d 1 ≤ 3))
    (fun _ c s => s.putBin { x with mode := p8 c.d 1 }) (fun _ c _ => c.eff)) ∧
  waits .aerationForce (fun _ => specAerationForce) (fun c s => (forceChk c s).isNone) ∧
  (∀ x, takes 0x0503 (fun _ c s => decide (s.bin (p8 c.d 0) = some x) && (forceChk c s).isNone)
    (fun _ c s => s.putBin { x with force := if p8 c.d 1 = 0 then none else some (c.eff + p16 c.d 2) }) (fun _ c _ => c.eff)) ∧
  waits .stoAck (fun _ => specStoAck) (fun c s => (ackChk c s).isNone) ∧
  (∀ x y, takes 0x0504
    (fun _ c s => decide (s.bin (p8 c.d 0) = some x) && decide (x.sensors[p16 c.d 2]? = some y) &&
      !(bit (p8 c.d 4) 0 && !y.cannot) && !(bit (p8 c.d 4) 1 && !y.hot))
    (fun _ c s =>
      let cc := bit (p8 c.d 4) 0
      let hs := bit (p8 c.d 4) 1
      let z : SensSt := { y with cannot := y.cannot && !cc, hot := y.hot && !hs, calm := if cc then 0 else y.calm, cool := if hs then 0 else y.cool }
      s.putBin { x with sensors := setAt (p16 c.d 2) z x.sensors })
    (fun _ c _ => c.eff)) ∧
  goesOn .nodeScan (fun _ _ => specNodeScan) (fun _ s => s.cableCan.isSome) (fun c s =>
    .wait (cableRequest 2 { s with sto := { s.sto with nodes := s.sto.nodes.map fun x => { x with scan := none }, scanEnd := some (s.now + 2 ^ 24) } }) c) ∧
  (∀ e, happens .nodeScanEnd (fun s => s.awake && decide (s.sto.scanEnd = some e) && decide (e ≤ s.now))
    (fun s => (s.cmds.filter fun c => c.op == 0x0507).foldl (fun a c => finishScan c a) { s with sto := { s.sto with scanEnd := none } })) ∧
  happens .cableReadStart (fun s => s.awake && (readDue s.datum (frameOf s.now)).isSome) cableStart

/-! Sensors (07, 08). -/

/-- SEN_READ answers the latest result of an entry; CSW_READ the switches' states; SEN_COUNTS the counters; CHECK_READ the 64 pins;
MOIST_SPECTRUM the rows of a tone entry; LIN_TEST the linearised value of its operands. -/
def Obligations.SensorQueriesComplete : Prop :=
  (∀ r, answers .senRead specSenRead (fun c s => decide (s.datum.chanRec (p8 c.d 0) = some r)) (fun _ s => latestRec s r) (fun _ _ => 0)) ∧
  completes .cswRead specCswRead always (fun _ s => s) (fun _ s => s.senLog.active) ∧
  completes .senCounts specSenCounts always (fun _ s => s)
    (fun _ s => s.senLog.skipped + 65536 * s.senLog.opens + 2 ^ 32 * sat 65535 s.senLog.discard + 2 ^ 48 * s.senLog.checks) ∧
  answers .checkRead specCheckRead always (fun _ s => ((List.range 64).map (pinBytes s)).flatten) (fun _ _ => 0) ∧
  (∀ r, answers .moistSpectrum specMoistSpectrum
    (fun c s => decide (s.datum.chanRec (p8 c.d 0) = some r) && decide (s.datum.listOf (p8 c.d 0) = some 4) && !s.senDown)
    (fun _ s => spectrumBytes ((s.sense.ent (chEntry r)).getD (newEnt r none)) r) (fun _ _ => 0)) ∧
  (∀ r, completes .linTest specLinTest (fun c s => decide (s.datum.chanRec (p8 c.d 0) = some r) && !s.senDown && decide (chLinSrc r ≠ 0))
    (fun _ s => s) (fun c s => linTestResult r ((lookupKey (chEntry r) s.sense.lin).getD []) c.d))

/-- SEQ_REQUEST, CSW_CLEAR, MOIST_EMPTY and CHECK_RUN give their order to the SENSE die and wait for its answer; CHECK_BASELINE clears
the baselines of the die and of the settings and completes. -/
def Obligations.SensorOrdersComplete : Prop :=
  (∀ r, goesOn .seqRequest (fun _ _ => specSeqRequest)
    (fun c s => decide (s.datum.seqRec (p8 c.d 0) = some r) && decide (sqTrig r = 3) && !s.senDown && !seqBusy s (p8 c.d 0) r &&
      !seqTooSoon s (p8 c.d 0) r)
    (fun c s => .wait { s with senLog := { s.senLog with requests := s.senLog.requests ++ [p8 c.d 0] } } c)) ∧
  goesOn .cswClear (fun _ _ => specCswClear) (fun c s => (s.datum.cswRec (p8 c.d 0)).isSome && !s.senDown)
    (fun c s => .wait { s with senLog := { s.senLog with clears := s.senLog.clears ++ [p8 c.d 0] } } c) ∧
  (∀ r, goesOn .moistEmpty (fun _ _ => specMoistEmpty)
    (fun c s => decide (s.datum.chanRec (p8 c.d 0) = some r) && decide (s.datum.listOf (p8 c.d 0) = some 4) && decide (chMode r = 0) &&
      !s.senDown && decide (64 ≤ c.d.plen))
    (fun c s => .wait (onSense (fun x =>
      { x with empties := (x.empties.filter fun e => e.entry != chEntry r) ++ [newEmpty (chEntry r)] }) s) c)) ∧
  (∀ r, goesOn .checkRun (fun _ _ => specCheckRun)
    (fun c s => decide (((s.datum.recs tyChan).find? fun r => (entryPins r).contains (p8 c.d 0)) = some r) && !s.senDown)
    (fun c s => .wait (onSense (fun x => queueChk (chkFor x (p8 c.d 0) (partnerFor x r (p8 c.d 0)) 2) x) s) c)) ∧
  completes .checkBaseline specCheckBaseline (fun _ s => !s.senDown)
    (fun c s => storeDropBase (p8 c.d 0)
      { s with sense := { s.sense with base := if p8 c.d 0 = 0xFF then [] else eraseKey (p8 c.d 0) s.sense.base } }) (fun _ _ => 0)

/-! Valves, fans, universal channels (09, 10, 11). -/

/-- VLV_STATUS, VLV_THERM, FAN_STATUS, UIO_STATUS and UIO_SUPPLY answer what the dies report; the four segment supplies that
UIO_SUPPLY measures are open values. -/
def Obligations.FieldQueriesComplete : Prop :=
  completes .vlvStatus specVlvStatus (fun c s => (s.datum.valveRec (p8 c.d 0)).isSome) (fun _ s => s)
    (fun c s =>
      let v := (s.links.viewP.valve (p8 c.d 0)).getD (newValve (p8 c.d 0))
      v.state + 256 * v.fault + 65536 * v.warns + 2 ^ 32 * twWord v + 2 ^ 48 * v.moved) ∧
  answers .vlvTherm specVlvTherm (fun c s => (s.datum.valveRec (p8 c.d 0)).isSome && !s.powDown)
    (fun c s => thermBytes ((s.power.valve (p8 c.d 0)).getD (newValve (p8 c.d 0)))) (fun _ _ => 0) ∧
  (∀ r, completes .fanStatus specFanStatus (fun c s => decide (s.datum.fanRec (p8 c.d 0) = some r)) (fun _ s => s)
    (fun c s =>
      let f := (s.links.viewP.fan (p8 c.d 0)).getD (newFan r)
      fanStatusResult (fanTabled s.now (s.near 1).farSafe s.links.viewP f) (shownSpeed s.now r f).2 f)) ∧
  completes .uioStatus specUioStatus (fun c s => (s.datum.uioLead (p8 c.d 0)).isSome) (fun _ s => s)
    (fun c s => uioStatusResult s.now (s.near 2).farSafe s.links.viewI ((s.links.viewI.chan (p8 c.d 0)).getD (newUio (p8 c.d 0)))) ∧
  completes .uioSupply specUioSupply (fun c s => !s.ioDown && fits c.d (supplyBytes s))
    (fun c s => putData c.d (supplyBytes s) { s with free := s.free + 4 }) (fun _ _ => 0)

/-- A force of a valve, a fan or an output, and a host setting of a fan or an output, waits for its frame and there becomes the
host's setting of that channel, which the frame's apply instant carries to the die. -/
def Obligations.FieldSettingsComplete : Prop :=
  waits .vlvForce (fun _ => specVlvForce) (fun c s => (s.datum.valveRec (p8 c.d 0)).isSome && decide (p8 c.d 1 ≤ 2)) ∧
  takes 0x0702 (fun _ c s => (s.datum.valveRec (p8 c.d 0)).isSome && decide (p8 c.d 1 ≤ 2) && !s.powDown)
    (fun _ c s => s.setSets (s.field.sets.putValve (p8 c.d 0) (if p8 c.d 1 = 0 then none else some (p8 c.d 1 == 2)))) (fun _ c _ => c.eff) ∧
  (∀ r, waits .fanSet (fun _ => specFanSet) (fun c s => decide (s.datum.fanRec (p8 c.d 0) = some r) && decide (fnSource r = 2))) ∧
  (∀ r, takes 0x0802 (fun _ c s => decide (s.datum.fanRec (p8 c.d 0) = some r) && decide (fnSource r = 2) && !s.powDown)
    (fun _ c s => s.setSets (s.field.sets.putFan { s.field.sets.fan (p8 c.d 0) with host := p16 c.d 2 })) (fun _ c _ => c.eff)) ∧
  waits .fanForce (fun _ => specFanForce) (fun c s => (s.datum.fanRec (p8 c.d 0)).isSome && decide (p8 c.d 1 ≤ 1)) ∧
  takes 0x0803 (fun _ c s => (s.datum.fanRec (p8 c.d 0)).isSome && decide (p8 c.d 1 ≤ 1) && !s.powDown)
    (fun _ c s => s.setSets (s.field.sets.putFan
      { s.field.sets.fan (p8 c.d 0) with force := if p8 c.d 1 = 0 then none else some (p16 c.d 2) })) (fun _ c _ => c.eff) ∧
  (∀ r, waits .fanLoopSet (fun _ => specFanLoopSet) (fun c s => decide (s.datum.fanRec (p8 c.d 0) = some r) && decide (fnSource r = 1))) ∧
  (∀ r, takes 0x0805 (fun _ c s => decide (s.datum.fanRec (p8 c.d 0) = some r) && decide (fnSource r = 1) && !s.powDown)
    (fun _ c s => s.setSets (s.field.sets.putFan { s.field.sets.fan (p8 c.d 0) with tset := some (s16 c.d.params 2) })) (fun _ c _ => c.eff)) ∧
  (∀ r, waits .uioSet (fun _ => specUioSet) (fun c s => decide (s.datum.uioLead (p8 c.d 0) = some r) && ucIsOut r && decide (ucSource r = 1))) ∧
  (∀ r, takes 0x0902
    (fun _ c s => decide (s.datum.uioLead (p8 c.d 0) = some r) && ucIsOut r && decide (ucSource r = 1) && !s.ioDown)
    (fun _ c s => s.setSets (s.field.sets.putUio { s.field.sets.uio (p8 c.d 0) with host := p8 c.d 1 != 0 })) (fun _ c _ => c.eff)) ∧
  (∀ r, waits .uioForce (fun _ => specUioForce) (fun c s => decide (s.datum.uioLead (p8 c.d 0) = some r) && ucIsOut r && decide (p8 c.d 1 ≤ 2))) ∧
  (∀ r, takes 0x0903
    (fun _ c s => decide (s.datum.uioLead (p8 c.d 0) = some r) && ucIsOut r && decide (p8 c.d 1 ≤ 2) && !s.ioDown)
    (fun _ c s => s.setSets (s.field.sets.putUio
      { s.field.sets.uio (p8 c.d 0) with force := if p8 c.d 1 = 0 then none else some (p8 c.d 1 == 2) })) (fun _ c _ => c.eff))

/-- VLV_CLEAR, FAN_CLEAR and UIO_CLEAR of all channels (0xFF) clear at the die every channel that they can and complete with the number
cleared; of one channel whose clear the die makes they complete with what it cleared. FAN_LEARN answers the bins, clears them where it
is told to, and commits. -/
def Obligations.FieldClearsComplete : Prop :=
  completes .vlvClear specVlvClear (fun c s => decide (p8 c.d 0 = 0xFF) && !s.powDown)
    (fun _ s => ((List.range 16).foldl (fun a ch => clearOne (vlvClearAt ch) a) { s := s, n := 0, held := false }).s)
    (fun _ s => ((List.range 16).foldl (fun a ch => clearOne (vlvClearAt ch) a) { s := s, n := 0, held := false }).n) ∧
  (∀ q, completes .vlvClear specVlvClear
    (fun c s => decide (p8 c.d 0 ≠ 0xFF) && (s.datum.valveRec (p8 c.d 0)).isSome && !s.powDown &&
      decide (vlvClearAt (p8 c.d 0) s.openBit s.used = some q)) (fun _ _ => q.1) (fun _ _ => q.2)) ∧
  completes .fanClear specFanClear (fun c s => decide (p8 c.d 0 = 0xFF) && !s.powDown)
    (fun _ s => ((List.range 12).foldl (fun a ch => clearOne (fanClearAt ch) a) { s := s, n := 0, held := false }).s)
    (fun _ s => ((List.range 12).foldl (fun a ch => clearOne (fanClearAt ch) a) { s := s, n := 0, held := false }).n) ∧
  (∀ q, completes .fanClear specFanClear
    (fun c s => decide (p8 c.d 0 ≠ 0xFF) && (s.datum.fanRec (p8 c.d 0)).isSome && !s.powDown &&
      decide (fanClearAt (p8 c.d 0) s.openBit s.used = some q)) (fun _ _ => q.1) (fun _ _ => q.2)) ∧
  completes .uioClear specUioClear (fun c s => decide (p8 c.d 0 = 0xFF) && !s.ioDown)
    (fun _ s => ((List.range 32).foldl (fun a ch => clearOne (uioClearAt ch) a) { s := s, n := 0, held := false }).s)
    (fun _ s => ((List.range 32).foldl (fun a ch => clearOne (uioClearAt ch) a) { s := s, n := 0, held := false }).n) ∧
  (∀ q, completes .uioClear specUioClear
    (fun c s => decide (p8 c.d 0 ≠ 0xFF) && (s.datum.uioLead (p8 c.d 0)).isSome && !s.ioDown &&
      decide (uioClearAt (p8 c.d 0) s.openBit s.used = some q)) (fun _ _ => q.1) (fun _ _ => q.2)) ∧
  (∀ f s2, completes .fanLearn specFanLearn
    (fun c s => (s.datum.fanRec (p8 c.d 0)).isSome && decide (s.power.fan (p8 c.d 0) = some f) && !s.powDown &&
      fits c.d (f.bins.map binBytes).flatten &&
      decide (commitBins (if bit (p8 c.d 1) 0 then putPower (s.power.setFan { f with bins := noBins }) s else s) = (s2, true)))
    (fun c _ => putData c.d (f.bins.map binBytes).flatten s2) (fun _ _ => 0))

/-! CAN (12). -/

/-- CAN_STATUS and CAN_STRANGERS answer the channel's word and its strangers; CAN_TX_CANCEL takes a frame that is not in arbitration out
of its FIFO as CANCELLED, or marks the one that is and waits; CAN_RECOVER starts the recovery of a bus-off channel; CAN_CLAIM sends its
claim and waits; CAN_RELEASE gives the address up. -/
def Obligations.CanCommandsComplete : Prop :=
  completes .canStatus specCanStatus (fun c s => (s.datum.canRec (p8 c.d 0)).isSome) (fun _ s => s)
    (fun c s => canStatusResult (s.canCh (p8 c.d 0))) ∧
  completes .canStrangers specCanStrangers
    (fun c s => (s.datum.canRec (p8 c.d 0)).isSome && fits c.d (((s.canCh (p8 c.d 0)).table.map strangerBytes).flatten))
    (fun c s =>
      let x := s.canCh (p8 c.d 0)
      putData c.d (x.table.map strangerBytes).flatten (if bit (p8 c.d 1) 0 then setCan { x with table := [] } s else s))
    (fun c s => (s.canCh (p8 c.d 0)).table.length) ∧
  (∀ h i x, completes .canTxCancel specCanTxCancel
    (fun c s => (canSendRec c s).isSome && decide (tagHolder (p8 c.d 0) (p32 c.d 4) s = some (h, i, x)) && !(i == 0 && (txHead h).isSome))
    (fun _ s => canStep h.ch s.now (cancelNow x) s) (fun _ _ => 1)) ∧
  (∀ h x, goesOn .canTxCancel (fun _ _ => specCanTxCancel)
    (fun c s => (canSendRec c s).isSome && decide (tagHolder (p8 c.d 0) (p32 c.d 4) s = some (h, 0, x)) && (txHead h).isSome)
    (fun c s => .wait (setCan { h with fifo := setAt 0 { x with cancel := some s.now } h.fifo } s) c)) ∧
  (∀ r, completes .canRecover specCanRecover
    (fun c s => decide (s.datum.canRec (p8 c.d 0) = some r) && decide ((s.canCh (p8 c.d 0)).state = 2) && !cnAuto r)
    (fun c s => setCan { s.canCh (p8 c.d 0) with recovering := true } s) (fun _ _ => 0)) ∧
  (∀ r, goesOn .canClaim (fun _ _ => specCanClaim)
    (fun c s => decide (canSendRec c s = some r) && !((s.canCh (p8 c.d 0)).claim.any fun k => !k.holding))
    (fun c s => .wait (setCan (startClaim r s.now c.d (s.canCh (p8 c.d 0))) s) c)) ∧
  completes .canRelease specCanRelease (fun c s => (s.datum.canRec (p8 c.d 0)).isSome)
    (fun c s => claimsLost (p8 c.d 0) (setCan { s.canCh (p8 c.d 0) with claim := none } s)) (fun _ _ => 0)

/-! System, power and safe state (13, 19, 20). -/

/-- SYS_INFO, EXCHANGE_READ and READ_DATUM answer their bytes; SAMPLE_FEED takes its records one by one; ABORT ends its target with
ABORTED; LOAD_DATUM of an image that the checker accepts waits for its completion point. -/
def Obligations.SystemCommandsComplete : Prop :=
  answers .sysInfo specSysInfo always (fun _ s => sysInfoBytes s) (fun _ s => b2n s.hif.ready + 2 * b2n s.armed + 4 * b2n s.rpl.active) ∧
  answers .exchangeRead specExchangeRead (fun c _ => decide (p16 c.d 2 ≠ 0) && decide (p16 c.d 0 + p16 c.d 2 ≤ 1024))
    (fun c s => ((List.range (p16 c.d 2)).map fun i => slotBytes s (p16 c.d 0 + i)).flatten) (fun c _ => p16 c.d 2) ∧
  answers .readDatum specReadDatum always (fun _ s => (s.area.datum.body).getD []) (fun _ s => ((s.area.datum.body).getD []).length) ∧
  (∀ f, completes .sampleFeed specSampleFeed
    (fun c s => decide (c.d.plen % 16 = 0) &&
      decide ((chunks 16 (c.d.plen / 16) c.d.data).foldl feedOne { s := s, taken := 0, refused := 0 } = f))
    (fun _ _ => f.s) (fun _ _ => f.taken + 2 ^ 32 * f.refused)) ∧
  (∀ x, completes .abort specAbort (fun c s => decide (abortTarget c.d s = some x))
    (fun _ s => finish x stAborted (stopProgress x s) 0 (stopWork x s).used) (fun _ _ => 0)) ∧
  goesOn .loadDatum (fun _ _ => specLoadDatum) (fun c s => !s.armed && (checkImage c.d.data c.d.plen (legImages s)).isNone)
    (fun c s => .wait s c)

/-- SAFE_SET sets the line with cause 3; SAFE_STATUS answers; a SAFE_RELEASE that R510 lets pass waits for its frame, where the line
clears and the release number rises; PLAN_SET stores the plan with the security version and the configuration hash in force; PLAN_READ
answers it; PWR_STATE waits for its frame (WATCH and HALT from the move it notes); PWR_RESET orders a reset in 100 ms. -/
def Obligations.SafeAndPowerCommandsComplete : Prop :=
  completes .safeSet specSafeSet always (fun _ s => setLine 3 s) (fun _ s => s.now) ∧
  completes .safeStatus specSafeStatus always (fun _ s => s) (fun _ s => safeWord s + 2 ^ 32 * maskOf 3 fun k => (s.near k).farSafe) ∧
  waits .safeRelease (fun _ => specSafeRelease) (fun _ s => (releaseBad s).isNone) ∧
  takes 0x0130 (fun _ c s => decide (s.safe.at' < c.acc)) (fun n _ s => releaseLine n s) (fun n _ _ => n) ∧
  (∀ k s2, completes .planSet specPlanSet
    (fun c s => decide (20 ≤ p16 c.d 2) && decide (p16 c.d 2 ≤ 7200) && decide (p8 c.d 1 < 64) && decide (s.areaNo = some k) &&
      decide (storePlan k { armed := p8 c.d 0, causes := p8 c.d 1, delay := p16 c.d 2, secVer := s.boot.secVer, hash := configHash s }
        (ledTarget c.led (0x3006 + 0x1000 * k) (s.areaAt k).plan.nextGen s) = (s2, true)))
    (fun _ _ => s2) (fun _ s => (s.areaAt k).plan.nextGen)) ∧
  answers .planRead specPlanRead always (fun _ s => match s.area.plan.body with | some p => planBytes p | none => zeros 64) (fun _ _ => 0) ∧
  waits .pwrState (fun _ => specPwrState) (fun c _ => decide (p8 c.d 0 < 2) && decide (p32 c.d 4 = 0)) ∧
  goesOn .pwrState (fun _ _ => specPwrState)
    (fun c s => (decide (p8 c.d 0 = 2) && decide (p32 c.d 4 = 0) || decide (p8 c.d 0 = 3)) && !pwrBusy c.eff s && s.clk.lfProven)
    (fun c s => .wait { s with pwr := { s.pwr with move := some (p8 c.d 0, c.eff), moved := false } } c) ∧
  takes 0x0120 (fun _ c _ => decide (p8 c.d 0 < 2)) (fun _ c s => { s with pwr := { s.pwr with state := p8 c.d 0 } }) (fun n _ _ => n) ∧
  completes .pwrReset specPwrReset (fun _ s => !s.armed)
    (fun _ s => { s with pwr := { s.pwr with resetDue := some (s.now + 1677722), resetCause := 5 } }) (fun _ _ => 0)

/-! Keys, the store, update, the Gazetteer (15 - 18). -/

/-- KEY_STATUS and COSIGN_READ answer; KEY_CHANGE installs the key that its payload carries (wrapped by KS0's key with CRIT, plain into
an empty KS0); KEY_ERASE empties a slot; COSIGN_SET stores the owner key. QUERY_LEDGER and NVS_STATUS answer; SETTINGS_COMMIT commits
the learned items and completes with OK when both are stored, with PARTIAL and their mask else. -/
def Obligations.KeyAndStoreCommandsComplete : Prop :=
  completes .keyStatus specKeyStatus (fun c _ => decide (p8 c.d 0 ≤ 7)) (fun _ s => s) (fun c s => keyStatusWord s (p8 c.d 0)) ∧
  answers .cosignRead specCosignRead always (fun _ s => s.cosign.key.getD []) (fun _ s => b2n s.cosign.require + 2 * b2n s.cosign.key.isSome) ∧
  (∀ key q, goesOn .keyChange specKeyChange
    (fun c s => decide (p8 c.d 0 ≤ 7) && decide (newKeyOf c s = some key) &&
      decide (storeKey (p8 c.d 0) { key := some key, mask := installMask (p8 c.d 0) (p16 c.d 2), installs := (s.keyRec (p8 c.d 0)).installs + 1 }
        (ledTarget c.led (0xA200 + p8 c.d 0) (s.kslot (p8 c.d 0)).key.nextGen s) = (q, true)))
    (fun c s => .done q stOk 0 ((s.keyRec (p8 c.d 0)).installs + 1))) ∧
  (∀ q, completes .keyErase specKeyErase
    (fun c s => decide (1 ≤ p8 c.d 0) && decide (p8 c.d 0 ≤ 7) &&
      decide (storeKey (p8 c.d 0) { key := none, mask := 0, installs := (s.keyRec (p8 c.d 0)).installs }
        (ledTarget c.led (0xA200 + p8 c.d 0) (s.kslot (p8 c.d 0)).key.nextGen s) = (q, true)))
    (fun _ _ => q) (fun _ _ => 0)) ∧
  (∀ q, completes .cosignSet specCosignSet
    (fun c s => onP256 c.d.data && decide (storeCosign { key := some c.d.data, require := bit (p8 c.d 0) 0 }
      (ledTarget c.led 0xA208 s.auth.cosign.nextGen s) = (q, true)))
    (fun _ _ => q) (fun _ _ => 0)) ∧
  answers .queryLedger specQueryLedger (fun c _ => decide (p8 c.d 1 ≠ 0) && decide (p8 c.d 0 + p8 c.d 1 ≤ 64))
    (fun c s => ((List.range (p8 c.d 1)).map fun i => (ledRead s (p8 c.d 0 + i)).take 56).flatten) (fun _ s => s.ledInUse) ∧
  completes .nvsStatus specNvsStatus always (fun _ s => s) (fun _ s => nvsStatusWord s) ∧
  goesOn .settingsCommit (fun _ _ => specSettingsCommit) (fun c _ => !bit (p8 c.d 0) 0) (fun _ s =>
    let q := commitAll (dieBins s.power) s
    .done q.1 (if q.2 = 3 then stOk else stPartial) q.2 q.2)

/-- UPD_STATUS, UPD_BITMAP and STAGE_STATUS answer; UPD_BEGIN and STAGE_BEGIN resume or open a session; UPD_BLOCK and STAGE_WRITE store a
new block, or find it stored; UPD_APPLY of a whole body waits for its completion point; UPD_CANCEL closes the session. -/
def Obligations.DownloadCommandsComplete : Prop :=
  completes .updStatus specUpdStatus always (fun _ s => s) (fun _ s => updStatusResult s) ∧
  completes .stageStatus specStageStatus always (fun _ s => s) (fun _ s => updStatusResult s) ∧
  answers .updBitmap specUpdBitmap always (fun _ s => leBytes 80 s.upd.bitmap) (fun _ s => blocksStored s) ∧
  completes .updBegin specUpdBegin
    (fun c s => !s.upd.applyBusy && (headerCheck c.d.data 1 s).isNone && decide (s.session.state ≠ 0) &&
      decide (s.session.hash = hdHash c.d.data) && decide (s.session.path = 1))
    (fun _ s => s) (fun _ s => beginResult s) ∧
  (∀ s2, completes .updBegin specUpdBegin
    (fun c s => !s.upd.applyBusy && (headerCheck c.d.data 1 s).isNone &&
      !(s.session.state != 0 && decide (s.session.hash = hdHash c.d.data) && decide (s.session.path = 1)) &&
      decide (openSession c.d.data 1 s = (s2, true)))
    (fun _ _ => s2) (fun _ _ => beginResult s2)) ∧
  (∀ s2, completes .stageBegin specStageBegin
    (fun c s => !stageBusy s && (headerCheck c.d.data 2 s).isNone &&
      !(s.session.state != 0 && decide (s.session.hash = hdHash c.d.data) && decide (s.session.path = 2)) &&
      decide (openSession c.d.data 2 s = (s2, true)))
    (fun _ _ => s2) (fun _ _ => beginResult s2)) ∧
  (∀ s2, completes .updBlock specUpdBlock
    (fun c s => !s.upd.applyBusy && decide (s.session.state = 1) && decide (s.session.path = 1) && decide (p16 c.d 0 < s.session.blocks) &&
      decide (c.d.plen = blockLen (p16 c.d 0) s) && !bit s.upd.bitmap (p16 c.d 0) &&
      decide (putBlock (p16 c.d 0) c.d.data s = (s2, true)))
    (fun _ _ => s2) (fun _ _ => 0)) ∧
  (∀ s2, completes .stageWrite specStageWrite
    (fun c s => !stageBusy s && decide (s.session.state = 1) && decide (p32 c.d 0 % 4096 = 0) && decide (p32 c.d 0 / 4096 < s.session.blocks) &&
      decide (c.d.plen = blockLen (p32 c.d 0 / 4096) s) && !bit s.upd.bitmap (p32 c.d 0 / 4096) &&
      decide (putBlock (p32 c.d 0 / 4096) c.d.data s = (s2, true)))
    (fun _ _ => s2) (fun _ _ => blocksStored s2)) ∧
  goesOn .updApply (fun _ _ => specUpdApply)
    (fun _ s => !s.upd.applyBusy && decide (s.session.state = 1) && decide (s.session.path = 1) && bitmapFull s)
    (fun c s => .wait (ledgerMap c.led (fun e => { e with total := applyTotal s }) { s with upd := { s.upd with applyBusy := true } })
      { c with aux := applyTotal s }) ∧
  (∀ s2, completes .updCancel specUpdCancel
    (fun _ s => !s.upd.applyBusy && decide (s.session.state ≠ 0) && decide (storeSession { s.session with state := 0 } s = (s2, true)))
    (fun _ _ => s2) (fun _ _ => 0))

/-- UPD_ACTIVATE of a verified image stores a trial record (and orders a reset where flag bit 1 says so); UPD_CONFIRM of a healthy trial
whose window still runs confirms; UPD_FALLBACK falls back with cause 5; STAGE_COMMIT of a whole body stores a trial record and orders a reset. -/
def Obligations.ActivationCommandsComplete : Prop :=
  (∀ s1, completes .updActivate specUpdActivate
    (fun c s => decide (s.session.state = 2) && decide (s.session.path = 1) && !(bit (p8 c.d 2) 1 && s.armed) &&
      decide (storeBoot (trialRec (clampN 60 3600 (dflt (p16 c.d 0) 900)) (2 * b2n (bit (p8 c.d 2) 0)) s)
        (ledTarget c.led 0xA100 s.upd.boot.nextGen s) = (s1, true)))
    (fun c s =>
      let s2 := (storeSession { s1.session with state := 0 } s1).1
      if bit (p8 c.d 2) 1 then orderReset (s.now + 1677722) s2 else s2)
    (fun _ _ => 0)) ∧
  (∀ s1, completes .updConfirm specUpdConfirm
    (fun c s => onTrial s.boot && s.upd.healthy && !trialOver s && decide (confirm (ledTarget c.led 0xA100 s.upd.boot.nextGen s) = (s1, true)))
    (fun _ _ => s1) (fun _ _ => s1.secFloor)) ∧
  completes .updFallback specUpdFallback (fun _ s => onTrial s.boot && !s.armed) (fun _ s => fallBack 5 s.boot s) (fun _ _ => 0) ∧
  (∀ s1, completes .stageCommit specStageCommit
    (fun c s => !s.armed && !stageBusy s && decide (s.session.state = 1) && bitmapFull s &&
      decide (storeBoot (trialRec 900 3 s) (ledTarget c.led 0xA100 s.upd.boot.nextGen s) = (s1, true)))
    (fun _ s => orderReset (s.now + 1677722) s1) (fun _ _ => 0))

/-- GAZ_STATUS, GAZ_READ, LIFE_READ and LAST_WORDS_READ answer; GAZ_CLEAR stores the new control record, wipes what its bits name and
raises GAZ_CLEARED; LIFE_REPLACE restarts a valve's counters; MAINT_ACK clears DUE and answers the firings. -/
def Obligations.RecorderCommandsComplete : Prop :=
  completes .gazStatus specGazStatus always (fun _ s => s) (fun _ s => s.gaz.next + 2 ^ 32 * aUsed s + 2 ^ 48 * bSlot s) ∧
  answers .gazRead specGazRead
    (fun c _ => decide (p8 c.d 0 ≤ 1) && decide (1 ≤ p16 c.d 4) && decide (p16 c.d 4 ≤ 512) &&
      decide (p16 c.d 2 + p16 c.d 4 ≤ if p8 c.d 0 = 0 then 16384 else 8192))
    (fun c s => ((List.range (p16 c.d 4)).map fun i => (gazSlot (p8 c.d 0 == 1) (p16 c.d 2 + i) s).take 64).flatten) (fun c _ => p16 c.d 4) ∧
  (∀ s2, completes .gazClear specGazClear
    (fun c s => decide (p8 c.d 0 % 8 ≠ 0) && decide (storeG0
      { s.g0 with aFirst := if bit (p8 c.d 0 % 8) 0 then s.gaz.next else s.g0.aFirst
                  bFirst := if bit (p8 c.d 0 % 8) 1 then s.gaz.next else s.g0.bFirst }
      (ledTarget c.led 0xA001 s.gaz.g0.nextGen s) = (s2, true)))
    (fun c _ => raise 0x0E04 [] (gazWipe (bit (p8 c.d 0 % 8) 0) (bit (p8 c.d 0 % 8) 2) s2)) (fun _ s => s.gaz.next)) ∧
  answers .lifeRead specLifeRead (fun c _ => decide (p8 c.d 0 ≤ 8)) (fun c s => lifeInForce s (p8 c.d 0)) (fun c s => (lifeInForce s (p8 c.d 0)).length) ∧
  completes .lifeReplace specLifeReplace (fun c s => (s.datum.valveRec (p8 c.d 0)).isSome) (fun c s => onValve (p8 c.d 0) replaceValve s) (fun _ _ => 0) ∧
  (∀ m, completes .maintAck specMaintAck (fun c s => decide ((s.gaz.life.maint.find? fun m => m.item == p8 c.d 0) = some m) && m.due)
    (fun _ s => s.setLife { s.gaz.life with maint := s.gaz.life.maint.map fun x => if x.item = m.item then { x with due := false } else x })
    (fun _ _ => m.firings)) ∧
  answers .lastWordsRead specLastWordsRead always
    (fun _ s => ((List.range 8).map fun k => (padTo 64 ((lookupKey k s.gaz.words).getD [])).take 64).flatten) (fun _ s => s.gaz.words.length)


/-! Host interface, registers, interrupt controller, SPI (13, 14, 23). -/

/-- A doorbell that is no ring error moves the host index of an enabled ring; a consumer's doorbell arms the notification, which
follows at once when entries are unread. A heartbeat restarts its timer; without one HOST_SILENT follows, and the next one brings
HOST_RETURN. -/
def Obligations.DoorbellAndHeartbeatComplete : Prop :=
  (∀ r v, happens (fun t => .doorbellWrite t r v)
    (fun s => s.awake && decide (r < 46) && (s.ring r).enable && hostProducer r && !doorbellBad r v (s.ring r))
    (fun s => s.setRing r { s.ring r with host := v })) ∧
  (∀ r v, happens (fun t => .doorbellWrite t r v)
    (fun s => s.awake && decide (r < 46) && (s.ring r).enable && !hostProducer r && !doorbellBad r v (s.ring r))
    (fun s =>
      let s1 := s.setRing r { s.ring r with host := v, armed := true }
      if (s1.ring r).unread = 0 then s1 else ringNotify r s1)) ∧
  (∀ v, happens (fun t => .heartbeatDoorbell t v)
    (fun s => s.awake && !s.hif.hostSilent && (heartbeatEnd s).all fun e => decide (s.now ≤ e))
    (fun s => { s with hif := { s.hif with hbLast := v % 2 ^ 32, hbStart := s.now } })) ∧
  (∀ v, happens (fun t => .heartbeatDoorbell t v) (fun s => s.awake && s.hif.hostSilent) (fun s =>
    let s1 := { s with hif := { s.hif with hbLast := v % 2 ^ 32, hbStart := s.now, hostSilent := false } }
    internalCmd opHostReturn [] (s1.n0 s1.now) (raise 0x0102 [] s1))) ∧
  (∀ v e, happens (fun t => .heartbeatDoorbell t v) (fun s => s.awake && decide (heartbeatEnd s = some e) && decide (e < s.now))
    (fun s0 =>
      let s := internalCmdAt e opHostSilent [] (s0.n0 e) (raiseAt e 0x0101 [] { s0 with hif := { s0.hif with hostSilent := true } })
      let s1 := { s with hif := { s.hif with hbLast := v % 2 ^ 32, hbStart := s.now, hostSilent := false } }
      internalCmd opHostReturn [] (s1.n0 s1.now) (raise 0x0102 [] s1))) ∧
  (∀ v, lands (fun t => .hifHbkick t v)
    (fun s => s.awake && !s.hif.hostSilent && (heartbeatEnd s).all fun e => decide (s.now ≤ e))
    (fun s => { s with hif := { s.hif with hbLast := v % 2 ^ 32, hbStart := s.now } })) ∧
  (∀ v, lands (fun t => .hifHbcfgWrite t v) State.awake
    (fun s0 =>
      let s := heartbeatLapse s0
      { s with hif := { s.hif with hbTimeout := min 3000 (v % 4096), hbStart := s.now } })) ∧
  (∀ e, happens .heartbeatTimeout (fun s => s.awake && decide (heartbeatEnd s = some e) && decide (e ≤ s.now) && !heartbeatWaits s) (fun s =>
    internalCmdAt e opHostSilent [] (s.n0 e) (raiseAt e 0x0101 [] { s with hif := { s.hif with hostSilent := true } }))) ∧
  (∀ m r a, happens (fun t => .hostLimitTimeout t m)
    (fun s => s.awake && decide (s.datum.dryerOf m = some r) && decide (s.plant.silentAt = some a) && s.hif.hostSilent &&
      decide (dcAutoLimit r ≠ 0) && decide (a + dcAutoLimit r * 60 * 2 ^ 24 ≤ s.now) &&
      !(s.cmds.any fun c => c.op == opHostLimit && u8 c.d.params 0 == m) && !((dryerAt s.plant m).any fun x => x.stopped))
    (fun s => internalCmd opHostLimit (leBytes 1 m) (s.n0 s.now) s))

/-- An enable that nothing refuses starts a ring at index 0; a write of ENABLE 0 stops it; a held completion enters its ring when it
has room; spilled records move as far as the ring takes them; the resets of the interface and the link's return act on it. -/
def Obligations.RingAndLinkEventsComplete : Prop :=
  (∀ r v, lands (fun t => .ringEnable t r v)
    (fun s => s.awake && decide (r < 46) && !(s.ring r).enable && bit v 31 &&
      !enableRefused r { s.ring r with vector := bits v 20 16, cq := if r < 16 then bits v 11 8 else 0, log2 := bits v 4 0 } s)
    (fun s =>
      let x := { s.ring r with vector := bits v 20 16, cq := if r < 16 then bits v 11 8 else 0, log2 := bits v 4 0 }
      let s1 := writeShadow r ((s.setRing r x).setRing r { x with enable := true, dev := 0, host := 0, phase := true })
      s1.setRing r { s1.ring r with armed := true })) ∧
  (∀ r v, lands (fun t => .ringDisable t r v) (fun s => s.awake && decide (r < 46) && (s.ring r).enable && !bit v 31)
    (fun s =>
      let s1 := s.setRing r { s.ring r with enable := false, armed := false }
      if 16 ≤ r ∧ r < 32 then { s1 with hif := { s1.hif with held := s1.hif.held.filter fun p => p.1 != r - 16 } } else s1)) ∧
  (∀ cq p, happens (fun t => .heldCompletionWrite t cq)
    (fun s => s.awake && decide ((s.hif.held.find? fun q => q.1 == cq) = some p) && decide ((s.ring (16 + cq)).room ≠ 0))
    (fun s => writeBatch (16 + cq) [p.2] { s with hif := { s.hif with held := s.hif.held.erase p } })) ∧
  (∀ r, happens (fun t => .spillDrain t r) (fun s => s.awake && decide (0 < min (s.spill r).recs.length (s.ring r).room))
    (fun s =>
      let k := min (s.spill r).recs.length (s.ring r).room
      writeBatch r ((s.spill r).recs.take k) (s.setSpill r { s.spill r with recs := (s.spill r).recs.drop k }))) ∧
  happens .functionLevelReset State.awake (fun s => hifResetOf true s) ∧
  happens .pcieLinkReset State.awake (fun s => hifResetOf false s) ∧
  (∀ sp w b, happens (fun t => .pcieLinkUp t sp w b) State.awake
    (fun s => { s with hif := { s.hif with linkUp := true, linkSpeed := sp, linkWidth := w, bme := b } }))

/-- An aligned 32-bit write reaches its register; a read of MER_NOW_LO latches the upper half of the count for its path; the registers
whose writes act take effect as their chapters say. -/
def Obligations.RegisterCommandsComplete : Prop :=
  (∀ a v, lands (fun t => .registerWrite t (4 * a) 4 v) State.awake (fun s => writeReg (4 * a) (v % 2 ^ 32) s)) ∧
  happens (fun t => .merNowLoRead t .pcie) State.awake (fun s =>
    { s with time := { s.time with hiPcie := s.now / 2 ^ 32 % 2 ^ 32 }
             host := { s.host with readData := if s.hif.ready then s.now % 2 ^ 32 else 0 } }) ∧
  happens (fun t => .merNowLoRead t .spi) (fun s => !s.pwr.reset) (fun s =>
    let b := leBytes 4 (if s.hif.ready then s.now % 2 ^ 32 else 0)
    { s with time := { s.time with hiSpi := s.now / 2 ^ 32 % 2 ^ 32 }, spi := { s.spi with out := b ++ leBytes 2 (crc16 b) } }) ∧
  (∀ n v, lands (fun t => .sysIlcfgWrite t n v) (fun s => s.awake && decide (n < 3) && s.safe.set)
    (fun s => s.setNear n { s.near n with timeout := clampN 10 10000 (v % 16384) })) ∧
  (∀ v, lands (fun t => .sysLedgerSelWrite t v) (fun s => !s.pwr.reset) (fun s =>
    { s with nvs := { s.nvs with ledSel := v % 64, ledValid := (s.led (v % 64)).isSome,
                                 ledData := match s.led (v % 64) with | some e => ledBytes e | none => zeros 56 } })) ∧
  (∀ v, lands (fun t => .gazCfgWrite t v) (fun s => s.awake && decide (clampN 1 24 (v % 32) ≠ s.gaz.bHours))
    (fun s => closePeriod true true { s with gaz := { s.gaz with bHours := clampN 1 24 (v % 32) } })) ∧
  (∀ ch v, lands (fun t => .canMbbaseWrite t ch true v) (fun s => s.awake && decide (ch < 4))
    (fun s =>
      let c := { s.canCh ch with mbHi := v % 2 ^ 32 }
      if mbBase c = 0 then setCan c s
      else postAll ((List.range 32).map fun b => let m := c.bufs.getD b emptyBuf; slotWrites (mbBase c) b m.count m).flatten (setCan c s))) ∧
  (∀ ch v, lands (fun t => .canMbbaseWrite t ch false v) (fun s => s.awake && decide (ch < 4))
    (fun s =>
      let c := { s.canCh ch with mbLo := v % 2 ^ 32 / 4096 * 4096 }
      if mbBase c = 0 then setCan c s
      else postAll ((List.range 32).map fun b => let m := c.bufs.getD b emptyBuf; slotWrites (mbBase c) b m.count m).flatten (setCan c s)))

/-- Claim, done, target reset, software sources, pending clear, source configuration, target sleep, source occurrences and coalescing
timers act on the interrupt controller; nothing else changes before it settles. A claim comes after the register writes of its cycle
and uses the cycle's assignment; a pending clear keeps what its cycle brings. -/
def Obligations.InterruptCommandsComplete : Prop :=
  (∀ n, happens (fun t => .icClaim t n) (fun s => s.awake && decide (n < 8)) (fun s =>
    let s1 := timersUp (writesFirst s)
    let asg := s1.cy.asg.getD (assignment s1.ic)
    { s1 with ic := (icClaim asg n s1.ic).1, cyc := { s1.cy with asg := some asg }
              host := { s1.host with readData := (icClaim asg n s1.ic).2 } })) ∧
  (∀ n v, lands (fun t => .icDone t n v) (fun s => s.awake && decide (n < 8)) (fun s =>
    if v % 256 = 0 ∨ (s.ic.tgt n).frozen = true then s else
    onIc (fun j => let i := icDone s.now n (v % 256) j; i.setTgt n { i.tgt n with req := false }) s)) ∧
  (∀ v, lands (fun t => .icTreset t v) State.awake (fun s =>
    onIc (fun i => (List.range 8).foldl (fun a n => if bit v n then icTreset s.now n a else a) i) s)) ∧
  (∀ v, lands (fun t => .icSwset t v) State.awake (fun s =>
    (List.range 16).foldl (fun a k => if bit v k then irq (240 + k) a else a) s)) ∧
  (∀ w v, lands (fun t => .icPendClear t w v) (fun s => s.awake && decide (w < 8))
    (fun s => { s with ic := icPendClear s.now w v s.cy.evs s.cy.pends s.ic })) ∧
  (∀ n v, lands (fun t => .icSrccfgWrite t n v) (fun s => s.awake && decide (n < 256)) (fun s => onIc (icSrccfg n v) s)) ∧
  (∀ v, lands (fun t => .icTsleepWrite t v) State.awake (fun s => { s with ic := icTsleep v s.ic })) ∧
  (∀ n l, happens (fun t => .icSourceEvent t n l) (fun s => s.awake && !(decide (9 ≤ n) && decide (n ≤ 24)) && s.pwr.cycle.isNone)
    (fun s => let s1 := onIc (icEvent s.now n) s; { s1 with cyc := { s1.cyc with evs := n :: s1.cyc.evs } })) ∧
  (∀ n, happens (fun t => .icSourceEvent t n true) (fun s => s.awake && decide (9 ≤ n) && decide (n ≤ 24) && !bit s.ic.gpl (n - 9))
    (fun s => { s with ic := { s.ic with gpl := s.ic.gpl + 2 ^ (n - 9) } })) ∧
  (∀ n, happens (fun t => .icCoalesceTimeout t n)
    (fun s => s.awake && !(s.ic.src n).pend && !s.ic.inSvc n && timeUp s.now (s.ic.src n))
    (fun s => onIc (fun i => i.setSrc n { i.src n with pend := true, byTime := true }) s))

/-- SPI transactions with a right CRC and length do what their operation says: a register write comes after the PCIe writes of its cycle
to that register, a claim read after every write of its cycle. Buffer writes and posts with a wrong CRC or length, and a post while the
mailbox is taken, are discarded and counted in CRC_ERR. Bytes beyond the 64 KB buffer, of which the spec says nothing
(notes/assumptions/10.md), are written nowhere and read as open values. -/
def Obligations.SpiCommandsComplete : Prop :=
  (∀ x, lands (fun t => .spiRegisterWrite t x)
    (fun s => !(hostFirst (fun off => off == x.addr) s).pwr.reset && decide (x.len = 4) && spiWriteOk 1 x && decide (x.addr % 4 = 0))
    (fun s => writeReg x.addr (leNat x.data) (hostFirst (fun off => off == x.addr) s))) ∧
  (∀ x, happens (fun t => .spiRegisterRead t x)
    (fun s => !(readTurn x.addr s).pwr.reset && decide (x.len = 4) && decide (x.addr % 4 = 0))
    (fun s =>
      let q := readReg .spi x.addr (readTurn x.addr s)
      { q.1 with spi := { q.1.spi with out := leBytes 4 q.2 ++ leBytes 2 (crc16 (leBytes 4 q.2)) } })) ∧
  (∀ x, happens (fun t => .spiBufferWrite t x)
    (fun s => !s.pwr.reset && decide (1 ≤ x.len) && decide (x.len ≤ 4096) && spiWriteOk 3 x)
    (fun s => { s with spi := { s.spi with buffer := memWrite s.spi.buffer x.addr (x.data.take (spiInBuffer x)) } })) ∧
  (∀ x, happens (fun t => .spiBufferRead t x) (fun s => !s.pwr.reset && decide (1 ≤ x.len) && decide (x.len ≤ 4096))
    (fun s =>
      let b := memRead s.spi.buffer x.addr (spiInBuffer x) ++ spiBeyond x s
      { s with spi := { s.spi with out := b ++ leBytes 2 (crc16 b) }, free := s.free + (x.len - spiInBuffer x) })) ∧
  (∀ x s, x.addr + x.len ≤ 65536 → spiInBuffer x = x.len ∧ spiBeyond x s = []) ∧
  (∀ x, happens (fun t => .spiMailboxPost t x)
    (fun s => !s.pwr.reset && decide (x.addr = 0) && decide (x.len = 64) && spiWriteOk 5 x && s.spi.mailbox.isNone)
    (fun s => strayMailbox { s with spi := { s.spi with mailbox := some x.data } })) ∧
  (∀ x, happens (fun t => .spiMailboxRead t x) (fun s => !s.pwr.reset && decide (x.addr = 0) && decide (x.len = 32))
    (fun s => { s with spi := { s.spi with mbDone := false, out := s.spi.last ++ leBytes 2 (crc16 s.spi.last) } })) ∧
  (∀ x, happens (fun t => .spiBufferWrite t x)
    (fun s => !s.pwr.reset && (decide (x.len = 0) || decide (4096 < x.len) || !spiWriteOk 3 x))
    (fun s => { s with spi := { s.spi with crcErr := sat 65535 (s.spi.crcErr + 1) } })) ∧
  (∀ x, happens (fun t => .spiMailboxPost t x)
    (fun s => !s.pwr.reset && (decide (x.addr ≠ 0) || decide (x.len ≠ 64) || !spiWriteOk 5 x || s.spi.mailbox.isSome))
    (fun s => { s with spi := { s.spi with crcErr := sat 65535 (s.spi.crcErr + 1) } }))

/-! Links and the SENSE die (01, 07, 08). -/

/-- Both ends of a link send frames under a CRC and take those that pass its check; a discarded frame counts once and its sequence goes
on; the silence timers and a hold lease expire, unless a good frame of that cycle waits; LINK_LOST samples of a frame that began after the
silence stand in for a silent die's. -/
def Obligations.LinkEventsComplete : Prop :=
  (∀ k, happens (fun t => .logicFrameSend t k) (fun s => decide (k < 3) && linkRuns k s && (s.near k).session.isSome)
    (fun s => s.setNear k { s.near k with seqOut := ((s.near k).seqOut + 1) % 16
                                          wire := (s.near k).wire ++ [sealOut k (outFrame k 0 false s)] })) ∧
  (∀ k dmg f g rest, happens (fun t => .farFrameReceive t k dmg)
    (fun s => decide (k < 3) && decide (((judgedFirst k s).near k).wire = f :: rest) && decide (outTaken k dmg f = some g) &&
      !dieDown k ((judgedFirst k s).setNear k { (judgedFirst k s).near k with wire := rest }))
    (fun s => farGood k g (farLapse k ((judgedFirst k s).setNear k { (judgedFirst k s).near k with wire := rest })))) ∧
  (∀ k dmg f rest, happens (fun t => .farFrameReceive t k dmg)
    (fun s => decide (k < 3) && decide (((judgedFirst k s).near k).wire = f :: rest) && decide (outTaken k dmg f = none) &&
      !dieDown k ((judgedFirst k s).setNear k { (judgedFirst k s).near k with wire := rest }))
    (fun s =>
      let s1 := (judgedFirst k s).setNear k { (judgedFirst k s).near k with wire := rest }
      let x := s1.far k
      s1.setFar k { x with errs := x.errs + 1, seqIn := x.seqIn.map fun q => (q + 1) % 16 })) ∧
  (∀ k, happens (fun t => .farFrameSend t k) (fun s => decide (k < 3) && !dieDown k s)
    (fun s0 =>
      let s := farLapse k s0
      let x := s.far k
      let recs := dueRecs s.now x.queue
      let f := sealIn k { seq := x.seqOut, short := dieShort x s.now, session := x.session, farSafe := x.safe, cause := x.cause
                          expiries := x.expiries, leases := x.leases, errs := x.errs, drops := x.drops, view := dieView k s, recs, crc := 0 }
      s.setFar k { x with seqOut := (x.seqOut + 1) % 16, wire := x.wire ++ [f]
                          queue := x.queue.map fun r => if recs.any (fun p => p.num == r.num) then { r with sent := some s.now } else r })) ∧
  (∀ k dmg f g rest, happens (fun t => .logicFrameReceive t k dmg)
    (fun s => decide (k < 3) && decide ((s.far k).wire = f :: rest) && decide (inTaken k dmg f = some g) && s.awake && !s.upd.recovery &&
      !s.resetNow)
    (fun s => nearGood k g (s.setFar k { s.far k with wire := rest }))) ∧
  (∀ k dmg f rest, happens (fun t => .logicFrameReceive t k dmg)
    (fun s => decide (k < 3) && decide ((s.far k).wire = f :: rest) && decide (inTaken k dmg f = none) && s.awake && !s.upd.recovery &&
      !s.resetNow)
    (fun s =>
      let s1 := s.setFar k { s.far k with wire := rest }
      let x := s1.near k
      s1.setNear k { x with nearErr := sat 65535 (x.nearErr + 1), seqIn := x.seqIn.map fun q => (q + 1) % 16 })) ∧
  (∀ k, happens (fun t => .farSilenceTimeout t k)
    (fun s => decide (k < 3) && !dieDown k s && farTimerUp s.now (s.far k).timer && !frameWaits k s)
    (fun s =>
      let s1 := enterSafe k 1 (s.setFar k { s.far k with timer := none, up := false, expiries := (s.far k).expiries + 1 })
      if k = 0 then dropRequests s1 else s1)) ∧
  (∀ k, happens (fun t => .nearSilenceTimeout t k)
    (fun s => decide (k < 3) && s.awake && !(s.near k).stopped && timerUp s.now (s.near k).timer)
    (fun s =>
      let s1 := raise 0x0107 (leBytes 1 k ++ leBytes 1 0) (hit (0x110 + 4 * k) 3
        (s.setNear k { s.near k with nearSilence := true, up := false, lost := true, silentAt := s.now, timer := none }))
      if k = 0 then dropRequests s1 else s1)) ∧
  (∀ k e, happens (fun t => .leaseExpiry t k)
    (fun s => decide (k < 3) && !dieDown k s && decide ((s.far k).lease = some e) && (decide (e < s.now) || decide (e = s.now) && !frameWaits k s))
    (fun s => enterSafe k 2 (s.setFar k { s.far k with lease := none, up := false, leases := (s.far k).leases + 1 }))) ∧
  (∀ k, happens (fun t => .linkLostSynth t k)
    (fun s => decide (k < 3) && s.awake && (s.near k).lost && decide ((s.near k).silentAt < frameStart (frameOf s.now)))
    (fun s => (lostNow k s).foldl
      (fun a src => frontEndAt (frameStart (frameOf s.now)) (frameStart (frameOf s.now)) (mkSample (frameStart (frameOf s.now)) src 4 0) a) s))

/-- Core M loads a die with what the configuration windows of LOGIC's frames have brought to it, a sequencer load ends well or is retried
100 ms later, the SENSE die powers up. -/
def Obligations.DieLoadsComplete : Prop :=
  (∀ k w, happens (fun t => .dieConfigLoad t k)
    (fun s => canLoad k s && decide ((s.far k).window = some w) && decide (s.store.datum = some w.datum) && s.upd.seqRun.getD k false)
    (fun s => healthCheck (loadDie k w s))) ∧
  (∀ k, happens (fun t => .sequencerLoad t k true) (fun s => canLoad k s && !s.upd.seqRun.getD k false) (fun s =>
    healthCheck (cfgInvalid k { s with upd := { s.upd with seqRun := setAt k true s.upd.seqRun, seqRetry := setAt k none s.upd.seqRetry } }))) ∧
  (∀ k, happens (fun t => .sequencerLoad t k false) (fun s => canLoad k s && !s.upd.seqRun.getD k false) (fun s =>
    raise 0x0D06 (leBytes 1 k) { s with upd := { s.upd with seqRun := setAt k false s.upd.seqRun
                                                            seqRetry := setAt k (some (s.now + ticks100ms)) s.upd.seqRetry } })) ∧
  (∀ k, happens (fun t => .seqLoadRetry t k true) (fun s => canLoad k s && retryDue k s) (fun s =>
    healthCheck (cfgInvalid k { s with upd := { s.upd with seqRun := setAt k true s.upd.seqRun, seqRetry := setAt k none s.upd.seqRetry } }))) ∧
  happens .senseDiePowerUp (fun s => !s.sense.powered && s.pwr.senseGate) (fun s =>
    let s1 := s.setFar 0 { farReset false 0 with at' := s.now }
    let s2 := s1.setNear 0 { s1.near 0 with stopped := !s.awake }
    { s2 with sense := { senseReset with pins := s.sense.pins }, upd := { s2.upd with seqRun := setAt 0 false s2.upd.seqRun } })

/-- The SENSE die's sequences, conversions, releases, comparator runs and impedance checks change the die alone, but for the records
they send. -/
def Obligations.SenseDieEventsComplete : Prop :=
  (∀ i r, happens (fun t => .seqPeriodicDue t i)
    (fun s =>
      let loc := dieShort (s.far 0) s.now
      let q := s.sense.seq i
      s.sense.powered && s.sense.cfgValid && decide (s.sense.cfg.seqRec i = some r) && decide (sqTrig r = 2) && decide (sqPeriod r ≠ 0) &&
      decide (loc % sqPeriod r = sqPhase r) && decide (q.lastDue ≠ some loc) && !q.due && !((s.sense.pass (sqList r)).any fun p => p.seq == i))
    (fun s =>
      let d := s.sense.setSeq { s.sense.seq i with due := true, lastDue := some (dieShort (s.far 0) s.now) }
      { s with sense := takePass s.now (sqList r) d })) ∧
  (∀ l p r, happens (fun t => .modulationStart t l)
    (fun s => decide (s.sense.pass l = some p) && decide (s.sense.cfg.chanRec (s.sense.entryAt p.seq p.pos) = some r) && !p.waiting &&
      p.modAt.isNone && decide (p.entAt + usTicks (max (chSettle r) 2) ≤ s.now))
    (fun s => { s with sense := s.sense.setPass l (some { p with modAt := some s.now, convAt := s.now }) })) ∧
  (∀ l nv sref p r m e, happens (fun t => .conversionEnd t l ⟨nv, sref⟩ false)
    (fun s =>
      let q := divr (nv * 2 ^ (23 + e.gain)) (refNv (chRef r) sref)
      decide (l < 4) && decide (converting s.sense l = some (p, r, m)) && decide (convDue r m (p.k + 1) ≤ s.now) &&
      decide (sref ≠ 0) && decide (s.sense.ent (chEntry r) = some e) && !((entryPins r).any s.sense.faulted) && decide (p.openPins = []) &&
      decide (p.settling = 0) && decide (-0x800000 ≤ q) && decide (q ≤ 0x7FFFFF))
    (fun s =>
      let auto := match e.prev with | some g => g != e.gain | none => false
      let y : PendRes := { list := l, seq := p.seq, pos := p.pos, entry := chEntry r, endAt := s.now, gain := e.gain, delayed := p.delayed
                           autoranged := auto, code := 0, raw := divr (nv * 2 ^ (23 + e.gain)) (refNv (chRef r) sref), r := 0, rows := []
                           empty := false, gain0 := e.gain }
      { s with sense := bookResult s.now l p r y [] s.sense })) ∧
  (∀ z, happens (fun t => .toneConversionEnd t z)
    (fun s => match converting s.sense 4 with | some (_, r, m) => decide (m + usTicks ((toneEighths r + 7) / 8) ≤ s.now) | none => false)
    (fun s => { s with sense := toneConversionEnd s.now z s.sense })) ∧
  (∀ x rest r e, happens .resultRelease
    (fun s => decide (s.sense.pend = x :: rest) && decide (20 * 16777216 ≤ (s.now - x.endAt) * 1000000) &&
      decide (s.sense.cfg.chanRec x.entry = some r) && decide (s.sense.ent x.entry = some e))
    (fun s =>
      let d := { s.sense with pend := rest }
      let cv := linearise s.now d r x
      let d1 := d.setEnt { e with latest := some { code := cv.1, value := cv.2, endAt := x.endAt, relAt := s.now }, before := e.latest }
      let cs := contours d1.cfg x.entry cv.1 cv.2 d1.csws
      pushRecs 0 x.endAt ((cs.2.map fun c => RecBody.crossing c.1 c.2) ++ [.result x.entry (statusOf r x cv.1) cv.2])
        { s with sense := { d1 with csws := cs.1 } })) ∧
  (∀ l vsa runs p r m, happens (fun t => .openWireRun t l ⟨vsa, runs⟩)
    (fun s => decide (s.sense.pend = []) && decide (converting s.sense l = some (p, r, m)))
    (fun s =>
      let trip := (trippedPins r vsa runs).filter fun q => !p.openPins.contains q
      { s with sense := s.sense.setPass l (some { p with openPins := p.openPins ++ trip }) })) ∧
  (∀ c, happens .impCheckStart
    (fun s => s.sense.powered && s.sense.cfgValid && decide (nextChk s.sense = some c) && s.sense.chk.isNone &&
      (s.sense.turn || (match s.sense.pass 4 with | none => true | some p => p.waiting)) &&
      !pinInUse s.sense (askedAt s.sense c s.now) c.pin && !pinInUse s.sense (askedAt s.sense c s.now) c.partner)
    (fun s => { s with sense := { s.sense with chk := some (c, s.now), ask := none, turn := false
                                               chkQ := s.sense.chkQ.filter fun q => q != c } })) ∧
  (∀ lp gr c t0, happens (fun t => .impCheckEnd t lp gr)
    (fun s => decide (s.sense.chk = some (c, t0)) && decide (t0 + usTicks 3700 ≤ s.now))
    (fun s => pushRecs 0 s.now (impCheckEnd s.now lp gr s.sense).2 { s with sense := (impCheckEnd s.now lp gr s.sense).1 })) ∧
  happens .checkRound
    (fun s => s.sense.powered && s.sense.cfgValid && decide (s.sense.lastRound + secTicks s.sense.cfg.chkPeriod ≤ s.now))
    (fun s =>
      let d := (s.sense.cfg.recs tyChkRec).zipIdx.foldl
        (fun a x => queueChk { pin := ckPin x.1, partner := ckPartner x.1, origin := 3, rec' := some x.2 } a)
        { s.sense with lastRound := s.now }
      { s with sense := d }) ∧
  (∀ pin p d, happens (fun t => .pinRecheckDue t pin)
    (fun s => decide ((s.sense.pins.find? fun q => q.pin == pin) = some p) && decide (p.recheck = some d) && decide (d ≤ s.now))
    (fun s =>
      let d1 := { s.sense with pins := s.sense.pins.map fun q => if q.pin = pin then { q with recheck := none } else q }
      let ent := (d1.cfg.recs tyChan).find? fun r => (entryPins r).contains pin
      { s with sense := queueChk (chkFor d1 pin (partnerFor d1 (ent.getD []) pin) 1) d1 }))

/-! POWER and IO dies (09, 10, 11). -/

/-- A valve's current phases: RISE to DWELL at the peak, DWELL to DROP, DROP to HOLD, the end of DECAY, and the two timeouts. -/
def Obligations.ValvePhasesComplete : Prop :=
  (∀ ch code v, happens (fun t => .vlvPeakReached t ⟨ch, code⟩)
    (fun s => !dieDown 1 s && decide (stateIs s.power ch 2 = some v) && codeReaches (s.power.vrec ch) code (vaIPeak (s.power.vrec ch)))
    (fun s => onPower (fun p => p.setValve { v with state := 3, dwellAt := s.now, moveDue := vaMoveEn (p.vrec ch) }) s)) ∧
  (∀ ch v, happens (fun t => .vlvDwellEnd t ch)
    (fun s => !dieDown 1 s && decide (stateIs s.power ch 3 = some v) && decide (v.dwellAt + usTicks (100 * vaDwell (s.power.vrec ch)) ≤ s.now))
    (fun s => onPower (fun p => p.setValve { v with state := 4 }) s)) ∧
  (∀ ch code v, happens (fun t => .vlvHoldReached t ⟨ch, code⟩)
    (fun s => !dieDown 1 s && decide (stateIs s.power ch 4 = some v) && codeWithin (s.power.vrec ch) code (vaIHold (s.power.vrec ch)))
    (fun s => onPower (fun p => toState s.now { v with state := 5, holdAt := s.now } p) s)) ∧
  (∀ ch top v, happens (fun t => .vlvDecayEnd t ⟨ch, top⟩)
    (fun s => !dieDown 1 s && decide (stateIs s.power ch 6 = some v) && decide (top < 32) && !v.toFault && v.pendOn)
    (fun s => onPower (fun p => valveOn s.now { v with state := 0 } p) s)) ∧
  (∀ ch top v, happens (fun t => .vlvDecayEnd t ⟨ch, top⟩)
    (fun s => !dieDown 1 s && decide (stateIs s.power ch 6 = some v) && decide (top < 32) && !v.toFault && !v.pendOn)
    (fun s => onPower (fun p => toState s.now { v with state := 0 } p) s)) ∧
  (∀ ch top v, happens (fun t => .vlvDecayEnd t ⟨ch, top⟩)
    (fun s => !dieDown 1 s && decide (stateIs s.power ch 6 = some v) && decide (top < 32) && v.toFault)
    (fun s => onPower (fun p => toState s.now { v with state := 7, toFault := false } p) s)) ∧
  (∀ ch v, happens (fun t => .vlvPeakTimeout t ch)
    (fun s => !dieDown 1 s && !peakWins ch s && decide (stateIs s.power ch 2 = some v) &&
      decide (v.riseAt + usTicks (100 * vaTPeakMax (s.power.vrec ch)) ≤ s.now))
    (fun s => onPower (fun p => toState s.now { v with state := 6, fault := 0x05 } { p with noPeak := sat 65535 (p.noPeak + 1) }) s)) ∧
  (∀ ch v, happens (fun t => .vlvDeferTimeout t ch)
    (fun s => !dieDown 1 s && !releaseWins ch s && decide (stateIs s.power ch 1 = some v) && decide (v.waitAt + usTicks (100 * vaDefer (s.power.vrec ch)) ≤ s.now))
    (fun s => onPower (fun p => { p.setValve { v with state := 0, fault := 0x06, pendOn := false, denials := v.denials + 1 } with
      denied := sat 65535 (p.denied + 1) }) s))

/-- A valve's coil model, resistance and diagnostics: the millisecond tick, a HOLD interval, the off-state test, on-state faults, the
open test, the bank faults, the movement report, the clamp warning. -/
def Obligations.ValveDiagnosticsComplete : Prop :=
  (∀ i2 dt, happens (fun t => .vlvThermalTick t i2 dt) (fun s => !dieDown 1 s && decide (s.power.tickAt + usTicks 1000 ≤ s.now))
    (fun s =>
      let amb := fun (a : PowerSt) ch => ((slotFresh s.fanEnv.linkUp (s.dieNow 1) a.cmd.slots (vaAmb (a.vrec ch))).getD dt : Rat) / 128
      let one := fun (a : PowerSt) ch => match a.valve ch with
        | none => a
        | some v => thermLimits s.now (a.vrec ch) (coilStep (a.vrec ch) (amb a ch) (i2.getD ch 0) v) a
      onPower (fun p => (List.range 16).foldl one { p with tickAt := s.now }) s)) ∧
  (∀ ch sv si mi v, happens (fun t => .vlvResistanceMeasure t ch sv si mi)
    (fun s => !dieDown 1 s && decide (stateIs s.power ch 5 = some v) && decide (v.holdAt + usTicks 10000 ≤ s.now) &&
      decide (256 ≤ mi) && decide (si ≠ 0))
    (fun s =>
      let r := s.power.vrec ch
      let tm : Rat := 20 + ((sv : Rat) * (vaShunt r : Rat) / (25 * (si : Rat)) / (vaR20 r : Rat) - 1) / (393 / 100000)
      onPower (fun p => p.setValve { v with holdAt := s.now, rm := (sv * vaShunt r / (25 * si)) % 0x100000000
                                            tw := v.tw + (vaCorr r : Rat) * (tm - v.tw) / 65536 }) s)) ∧
  (∀ ch vd vb v, happens (fun t => .vlvOffStateTest t ch vd vb)
    (fun s => !dieDown 1 s && decide (s.power.valve ch = some v) && decide (v.state = 0) && decide (bankHigh s.power (bankOf ch) = 0) &&
      decide (6000 ≤ vd))
    (fun s => onPower (fun p => toState s.now { v with state := 7, fault := 0x03 } p) s)) ∧
  (∀ ch vd vb v, happens (fun t => .vlvOffStateTest t ch vd vb)
    (fun s => !dieDown 1 s && decide (s.power.valve ch = some v) && decide (v.state = 0) && decide (bankHigh s.power (bankOf ch) = 0) &&
      decide (4000 ≤ vd) && decide (vd < 6000))
    (fun s => onPower (fun p => p.setValve { v with fault := 0x01 }) s)) ∧
  (∀ ch us v1 v2 i0 i1 i2 v, happens (fun t => .vlvOnStateFault t ch ⟨us, v1, v2, i0, i1, i2⟩)
    (fun s => !dieDown 1 s && decide (s.power.valve ch = some v) && (decide (v.state = 2) || decide (v.state = 3) || decide (v.state = 5)) &&
      decide (4 ≤ us) && decide (3000 < v1) && decide (3000 < v2))
    (fun s => onPower (fun p => toState s.now { v with state := 7, fault := 0x03 } p) s)) ∧
  (∀ ch us v1 v2 i0 i1 i2 v, happens (fun t => .vlvOnStateFault t ch ⟨us, v1, v2, i0, i1, i2⟩)
    (fun s => !dieDown 1 s && decide (s.power.valve ch = some v) && (decide (v.state = 2) || decide (v.state = 3) || decide (v.state = 5)) &&
      decide (4 ≤ us) && decide (v2 ≤ 3000) && decide (i2 ≤ i0) && codeReaches (s.power.vrec ch) i1 (vaOcLimit (s.power.vrec ch)) &&
      codeReaches (s.power.vrec ch) i2 (vaOcLimit (s.power.vrec ch)))
    (fun s => onPower (fun p => toState s.now { v with state := 7, fault := 0x04 } p) s)) ∧
  (∀ ch i vd v, happens (fun t => .vlvOpenTest t ch i vd)
    (fun s => !dieDown 1 s && decide (stateIs s.power ch 2 = some v) && decide (v.riseAt + usTicks (100 * vaTDet (s.power.vrec ch)) ≤ s.now) &&
      !codeReaches (s.power.vrec ch) i (vaIDet (s.power.vrec ch)) && decide (4000 ≤ vd))
    (fun s => onPower (fun p => toState s.now { v with state := 6, fault := 0x01 } p) s)) ∧
  (∀ k us top sup, happens (fun t => .bankShort t ⟨k, us, top, sup⟩)
    (fun s => !dieDown 1 s && decide (bankHigh s.power k = 2) && decide (k < 4) && decide (4 ≤ us) && decide (top + 3000 < sup))
    (fun s => onPower (bankFault k 0x08) s)) ∧
  (∀ k least, happens (fun t => .bankStuckOn t ⟨k, least⟩)
    (fun s => !dieDown 1 s && decide (bankHigh s.power k = 0) && decide (k < 4) && decide (6000 < least))
    (fun s => onPower (bankFault k 0x09) s)) ∧
  (∀ ch bins v, happens (fun t => .vlvMovement t ch bins)
    (fun s => !dieDown 1 s && decide (s.power.valve ch = some v) && v.moveDue && decide (kinkAt (vaMoveMin (s.power.vrec ch)) bins = none) &&
      decide (v.state ≠ 3))
    (fun s => onValve ch (lifeMove 0) (pushRec 1 s.now (.sample (vaMoveSrc (s.power.vrec ch)) 0 0)
      (onPower (fun p => p.setValve { v with moveDue := false, warns := flagTo 2 true v.warns }) s)))) ∧
  (∀ vf, happens (fun t => .clampLow t vf) (fun s => !dieDown 1 s)
    (fun s =>
      let warn := fun (p : PowerSt) (v : ValveSt) =>
        let c := vaClampMv (p.vrec v.ch)
        flagTo 3 (if bit v.warns 3 then !decide (vf < c - 4000) else decide (c - 3000 < vf)) v.warns
      onPower (fun p => { p with vfld := vf, valves := p.valves.map fun v => { v with warns := warn p v } }) s))

/-- A fan's tach, start window, judgement, faults, retries, loop, table, sensor, bins, report and slew, for a channel whose record is
loaded. -/
def Obligations.FanEventsComplete : Prop :=
  (∀ ch us v, happens (fun t => .fanTachEdge t ch us) (fun s => !dieDown 1 s && decide (s.power.fan ch = some v))
    (fun s => onPower (fun p => p.setFan (tachEdge s.fanEnv (p.frec ch) us v)) s)) ∧
  (∀ ch i v w g, happens (fun t => .fanStartWindowEnd t ch i)
    (fun s =>
      let q := fanFirst ch s
      let r := s.power.frec ch
      !dieDown 1 s && decide (s.power.fan ch = some v) && decide (q.power.fan ch = some g) && decide (g.state = 1) && decide (v.state = 1) &&
      decide (v.winAt = some w) && decide (w + usTicks (100000 * fnTStart r) ≤ q.now) && decide (fanCur r i < fnIOpen r) &&
      decide ((fanTarget q.fanEnv q.power.supplyOff (q.power.fcmd ch) r v).1 ≠ 0))
    (fun s => onPower (fun p => p.setFan { toRun (fanFirst ch s).fanEnv v with fault := 0x03, cur := fanCur (p.frec ch) i, cnt := 0 }) s)) ∧
  (∀ ch i v w g, happens (fun t => .fanStartWindowEnd t ch i)
    (fun s =>
      let q := fanFirst ch s
      let r := s.power.frec ch
      !dieDown 1 s && decide (s.power.fan ch = some v) && decide (q.power.fan ch = some g) && decide (g.state = 1) && decide (v.state = 1) &&
      decide (v.winAt = some w) && decide (w + usTicks (100000 * fnTStart r) ≤ q.now) && decide (fnIOpen r ≤ fanCur r i) &&
      decide (fnPpr r ≠ 0) && decide ((fanTarget q.fanEnv q.power.supplyOff (q.power.fcmd ch) r v).1 ≠ 0))
    (fun s => onPower (fun p => p.setFan (fanStall (fanFirst ch s).fanEnv (p.frec ch) { v with cur := fanCur (p.frec ch) i })) s)) ∧
  (∀ ch i v g, happens (fun t => .fanRunJudge t ch i)
    (fun s => !dieDown 1 s && decide (s.power.fan ch = some v) && decide ((fanFirst ch s).power.fan ch = some g) && decide (v.state = 2) &&
      fnRef (s.power.frec ch) && decide (fnPpr (s.power.frec ch) ≠ 0) && tachSilent s.now (s.power.frec ch) g)
    (fun s => onPower (fun p => p.setFan { v with cur := 0, warns := flagTo 0 true v.warns }) s)) ∧
  (∀ ch mv v, happens (fun t => .fanOutputFault t ch ⟨mv, false, true⟩)
    (fun s => !dieDown 1 s && decide (s.power.fan ch = some v) && !fnRef (s.power.frec ch) && decide (v.state ≠ 5) &&
      decide (fanVolts (s.power.frec ch) v.r + 2000 < mv))
    (fun s => onPower (fun p => p.setFan { v with state := 5, r := 0, fault := 0x05, winAt := none, runAt := none, retryAt := none
                                                  rSince := s.now }) s)) ∧
  (∀ ch v a, happens (fun t => .fanRetryTimeout t ch)
    (fun s => !dieDown 1 s && decide (s.power.fan ch = some v) && decide (v.state = 3) && decide (v.retryAt = some a) && decide (a ≤ s.now) &&
      decide (fanAsk s.fanEnv (s.power.fcmd ch) (s.power.frec ch) v ≠ 0))
    (fun s => onPower (fun p => p.setFan (fanStart s.fanEnv (p.frec ch) { v with retryAt := none })) s)) ∧
  (∀ ch v a, happens (fun t => .fanRun60s t ch)
    (fun s => !dieDown 1 s && decide (s.power.fan ch = some v) && decide (v.state = 2) && decide (v.runAt = some a) && decide (a + secTicks 60 ≤ s.now))
    (fun s => onPower (fun p => p.setFan { v with attempts := 0 }) s)) ∧
  (∀ ch v, happens (fun t => .fanLoopTick t ch)
    (fun s => !dieDown 1 s && decide (s.power.fan ch = some v) && decide (fnSource (s.power.frec ch) = 1) &&
      decide (v.evalAt + usTicks 100000 ≤ s.now) &&
      decide (slotFresh s.fanEnv.linkUp (s.dieNow 1) s.power.cmd.slots (fnXslot (s.power.frec ch)) = none))
    (fun s => onPower (fun p => p.setFan { v with
      evalAt := s.now, looping := false, tableT := tableRef s.fanEnv p.cmd.slots (p.frec ch) { v with evalAt := s.now }
      warns := flagTo 3 true v.warns }) s)) ∧
  (∀ ch v, happens (fun t => .fanTableTick t ch)
    (fun s => !dieDown 1 s && decide (s.power.fan ch = some v) && decide (fnSource (s.power.frec ch) ≠ 1) &&
      decide (v.evalAt + usTicks 100000 ≤ s.now))
    (fun s => onPower (fun p => p.setFan { v with tableT := tableRef s.fanEnv p.cmd.slots (p.frec ch) v, evalAt := s.now }) s)) ∧
  (∀ ch temp v, happens (fun t => .fanTsnsRead t ch temp)
    (fun s => !dieDown 1 s && decide (s.power.fan ch = some v) && (decide (temp < -6400) || decide (19200 < temp)))
    (fun s => onPower (fun p => p.setFan { v with tsns := temp, tsnsOk := none, warns := flagTo 2 true v.warns }) s)) ∧
  (∀ ch i v, happens (fun t => .fanBinLearn t ch i)
    (fun s => !dieDown 1 s && decide (s.power.fan ch = some v) && decide (v.state = 2) && !tachSilent s.now (s.power.frec ch) v &&
      decide (v.rSince + secTicks 2 ≤ s.now) && decide (v.learnAt + secTicks 1 ≤ s.now))
    (fun s =>
      let upd := fun (b : FanBin) => { l := b.l + divr ((fanCur (s.power.frec ch) i : Int) - b.l) 16, s := b.s + divr ((v.speed : Int) - b.s) 16, n := min (b.n + 1) 255 }
      onPower (fun p => p.setFan { v with learnAt := s.now, cur := fanCur (p.frec ch) i, bins := modifyAt upd (v.r / 8192) v.bins }) s)) ∧
  (∀ ch i v, happens (fun t => .fanFrameReport t ch i) (fun s => !dieDown 1 s && decide (s.power.fan ch = some v))
    (fun s =>
      let short := dieShort (s.far 1) s.now
      let q := frameReport s.fanEnv s.power.supplyOff (s.power.fcmd ch) (s.power.frec ch) i short v
      q.2.foldl (fun a b => pushShort 1 (reportUnit short) b a) (onPower (fun p => p.setFan q.1) s))) ∧
  (∀ ch v, happens (fun t => .fanReferenceSlew t ch) (fun s => !dieDown 1 s && decide (s.power.fan ch = some v))
    (fun s => onPower (fun p => p.setFan (fanSlew s.fanEnv p.supplyOff (p.fcmd ch) (p.frec ch) v)) s))

/-- Universal channels: an input's samples, its filter and its wire break, the frame report of either kind, PWM periods, overloads, open
loads and the tests of an output. -/
def Obligations.UniversalChannelEventsComplete : Prop :=
  (∀ ch x v, happens (fun t => .uioFilterChange t ch [x])
    (fun s => !dieDown 2 s && ucIsIn (s.io.urec ch) && decide (s.io.chan ch = some v))
    (fun s =>
      let w := uioSample (s.io.urec ch) s.io.cfg.uvOff (unitFrame (dieShort (s.far 2) s.now)) x v
      (edgeSample (s.io.urec ch) s.io.cfg.uvOff x v w).foldl (fun a b => pushRec 2 s.now b a) (onIo (fun p => p.setChan w) s))) ∧
  (∀ ch l, happens (fun t => .uioFilterChange t ch l) (fun s => !dieDown 2 s && ucIsIn (s.io.urec ch))
    (fun s => l.zipIdx.foldl (fun a q => inputSample ch (l.length - 1 - q.2) q.1 a) s)) ∧
  (∀ ch l x, happens (fun t => .uioWireBreak t ch l x) (fun s => !dieDown 2 s && ucIsIn (s.io.urec ch))
    (fun s => (l ++ [x]).zipIdx.foldl (fun a q => inputSample ch ((l ++ [x]).length - 1 - q.2) q.1 a) s)) ∧
  (∀ ch cur l v, happens (fun t => .uioFrameReport t ch ⟨cur, l⟩)
    (fun s => !dieDown 2 s && decide (s.io.chan ch = some v) && !ucIsIn (s.io.urec ch) &&
      decide (v.lastRep ≠ some (uioUnit (dieShort (s.far 2) s.now))))
    (fun s =>
      let u := uioUnit (dieShort (s.far 2) s.now)
      let low := uioSupOff s.io ch
      let st := 16 * (uioLevel s.now (s.far 2).safe s.io v).2 + if low then 7 else 0
      (pushShort 2 u (.sample (ucSrc (s.io.urec v.ch)) st (if low then 0 else s.open'))
        (onIo (fun p => p.setChan { v with cur := cur, lastRep := some u }) s)).used)) ∧
  (∀ ch cur v, happens (fun t => .uioFrameReport t ch ⟨cur, []⟩)
    (fun s => !dieDown 2 s && decide (s.io.chan ch = some v) && ucIsIn (s.io.urec ch) &&
      decide (v.lastRep ≠ some (uioUnit (dieShort (s.far 2) s.now))))
    (fun s =>
      let u := uioUnit (dieShort (s.far 2) s.now)
      let f := frameSums (unitFrame u) v
      let code := if f.low || uioSupOff s.io ch then 7 else if v.broken then 3 else 0
      let val := if code = 0 then f.edges + 65536 * b2n f.after + 131072 * b2n f.changed else 0
      pushShort 2 u (.sample (ucSrc (s.io.urec ch)) code (val : Nat))
        (onIo (fun p => p.setChan { v with frames := framesAfter (unitFrame u) v.frames, lastRep := some u }) s))) ∧
  (∀ ch v a, happens (fun t => .uioPwmPeriod t ch)
    (fun s => !dieDown 2 s && decide (s.io.chan ch = some v) && ucIsPwm (s.io.urec ch) && decide (v.perAt = some a) &&
      decide (periodOf s.now a (s.io.ucmd ch).period ≠ v.perIx))
    (fun s => onIo (fun p => p.setChan { v with perIx := periodOf s.now a (p.ucmd ch).period, duty := (p.ucmd ch).dec }) s)) ∧
  (∀ ch ms curs v, happens (fun t => .uioOverload t ⟨ch, ms, curs⟩)
    (fun s => !dieDown 2 s && decide (s.io.chan ch = some v) && uioOnNow s.now (s.far 2).safe s.io v &&
      decide (ucOlTime (s.io.urec ch) ≤ ms) && decide (600 * ucPar (s.io.urec ch) ≤ sumN curs))
    (fun s => onIo (fun p => p.setChan { v with fault := 0x01, testOff := false, cur := sumN curs }) s)) ∧
  (∀ n sums curs, happens (fun t => .uioBudgetOverload t ⟨.segment n, sums⟩)
    (fun s => !dieDown 2 s && budgetOver s.io (.segment n) sums && decide (sums.getLast? = some curs))
    (fun s =>
      let judge := fun (v : UioSt) =>
        let w := { v with cur := groupCur (s.io.urec v.ch) curs }
        if !ucIsOut (s.io.urec v.ch) then v else if segOf v.ch == n && !uioFaulted v then { w with fault := 0x04, testOff := false } else w
      onIo (fun p => { p with chans := p.chans.map judge }) s)) ∧
  (∀ sums curs, happens (fun t => .uioBudgetOverload t ⟨.die, sums⟩)
    (fun s => !dieDown 2 s && budgetOver s.io .die sums && decide (sums.getLast? = some curs))
    (fun s =>
      let judge := fun (v : UioSt) =>
        let w := { v with cur := groupCur (s.io.urec v.ch) curs }
        if !ucIsOut (s.io.urec v.ch) then v else if !uioFaulted v then { w with fault := 0x05, testOff := false } else w
      onIo (fun p => { p with chans := p.chans.map judge }) s)) ∧
  (∀ ch cur pin sup v, happens (fun t => .uioOpenLoad t ch ⟨cur, pin, sup⟩)
    (fun s => !dieDown 2 s && decide (s.io.chan ch = some v) && ucIsOut (s.io.urec ch) && uioOnNow s.now (s.far 2).safe s.io v &&
      decide (4 ≤ cur))
    (fun s => onIo (fun p => p.setChan { v with cur := cur, warns := flagTo 0 false v.warns }) s)) ∧
  (∀ ch cur pin sup v, happens (fun t => .uioOpenLoad t ch ⟨cur, pin, sup⟩)
    (fun s => !dieDown 2 s && decide (s.io.chan ch = some v) && ucIsOut (s.io.urec ch) && uioOnNow s.now (s.far 2).safe s.io v &&
      decide (cur < 4) && decide (pin + 1000 < sup))
    (fun s => onIo (fun p => p.setChan { v with cur := cur, warns := flagTo 0 true v.warns }) s)) ∧
  (∀ ch cur pin sup v, happens (fun t => .uioOpenLoad t ch ⟨cur, pin, sup⟩)
    (fun s => !dieDown 2 s && decide (s.io.chan ch = some v) && ucIsOut (s.io.urec ch) && uioOnNow s.now (s.far 2).safe s.io v &&
      decide (cur < 4) && decide (sup ≤ pin + 1000) && !s.io.tests.contains (ch, true))
    (fun s => onIo (fun p => { p.setChan { v with cur := cur } with tests := p.tests ++ [(ch, true)] }) s)) ∧
  (∀ ch cur pin sup v, happens (fun t => .uioOpenLoad t ch ⟨cur, pin, sup⟩)
    (fun s => !dieDown 2 s && decide (s.io.chan ch = some v) && ucIsOut (s.io.urec ch) && !uioOnNow s.now (s.far 2).safe s.io v &&
      decide (3000 ≤ pin) && ucOffDiag (s.io.urec ch))
    (fun s => onIo (fun p => p.setChan { v with warns := flagTo 1 true v.warns }) s)) ∧
  (∀ ch mv v, happens (fun t => .uioOffStateTest t ch mv)
    (fun s => !dieDown 2 s && decide (s.io.chan ch = some v) && s.io.cross.isNone && s.io.tests.contains (ch, true) &&
      !(s.io.tests.any fun q => decide (q.1 < ch)) && uioOnNow s.now (s.far 2).safe s.io v && decide (mv < 5000))
    (fun s => onIo (fun p => serveTests s.now (s.far 2).safe
      ({ p with tests := p.tests.filter fun q => q != (ch, true) }.setChan { v with warns := flagTo 0 true v.warns })) s)) ∧
  (∀ mv c m rest t0 v, happens (fun t => .uioCrossfeedPulse t mv)
    (fun s => !dieDown 2 s && decide (s.io.cross = some (c, m :: rest, t0)) && decide (t0 + usTicks 200 ≤ s.now) &&
      decide (s.io.chan c = some v) && !ucIsPwm (s.io.urec m) && decide (5000 ≤ mv) && decide (rest ≠ []))
    (fun s => onIo (fun p => { p with cross := some (c, rest, s.now) }) s)) ∧
  (∀ mv c m t0 v, happens (fun t => .uioCrossfeedPulse t mv)
    (fun s => !dieDown 2 s && decide (s.io.cross = some (c, [m], t0)) && decide (t0 + usTicks 200 ≤ s.now) &&
      decide (s.io.chan c = some v) && !ucIsPwm (s.io.urec m) && decide (5000 ≤ mv))
    (fun s => onIo (fun p => serveTests s.now (s.far 2).safe { p.setChan { v with fault := 0x02, testOff := false } with cross := none }) s)) ∧
  (∀ ch mv v, happens (fun t => .shortToSupplyOff t ⟨ch, mv⟩)
    (fun s => !dieDown 2 s && decide (s.io.chan ch = some v) && decide (5000 < mv) && ucIsOut (s.io.urec ch) &&
      !uioOnNow s.now (s.far 2).safe s.io v && !uioFaulted v && !v.testOff && !s.io.tests.contains (ch, false))
    (fun s => onIo (fun p => serveTests s.now (s.far 2).safe { p with tests := p.tests ++ [(ch, false)] }) s))

/-- A field supply's loss and return, its warning, and a far die's loss of its own supply and restart. -/
def Obligations.FieldSupplyEventsComplete : Prop :=
  (∀ mv, happens (fun t => .fieldSupplyOff t ⟨.vfldPower, mv⟩) (fun s => !dieDown 1 s && decide (mv < s.power.cfg.uvOff))
    (fun s => onPower (fun p =>
      let q := valveSupplyOff s.now p
      { q with supplyOff := true, fans := q.fans.map (fanSupplyOff s.now) }) s)) ∧
  (∀ mv, happens (fun t => .fieldSupplyOff t ⟨.vfldIo, mv⟩) (fun s => !dieDown 2 s && decide (mv < s.io.cfg.uvOff))
    (fun s => onIo (fun p => ioSupplyOff none { p with vfld := mv }) s)) ∧
  (∀ n mv, happens (fun t => .fieldSupplyOff t ⟨.segment n, mv⟩) (fun s => !dieDown 2 s && decide (mv < s.io.cfg.uvOff))
    (fun s => onIo (ioSupplyOff (some n)) s)) ∧
  (∀ mv, happens (fun t => .supplyRecovery t ⟨.vfldPower, mv⟩)
    (fun s => !dieDown 1 s && s.power.supplyOff && decide (s.power.cfg.uvOff + 1000 ≤ mv))
    (fun s => onPower (fun p =>
      let q := valveRecover s.now { p with supplyOff := false }
      { q with fans := q.fans.map fun f => fanRecover s.fanEnv (q.fcmd f.ch) (q.frec f.ch) f }) s)) ∧
  (∀ mv, happens (fun t => .supplyRecovery t ⟨.vfldIo, mv⟩) (fun s => !dieDown 2 s && decide (s.io.cfg.uvOff + 1000 ≤ mv))
    (fun s => onIo (fun p => ioRecover none { p with vfld := mv }) s)) ∧
  (∀ n mv, happens (fun t => .supplyRecovery t ⟨.segment n, mv⟩) (fun s => !dieDown 2 s && decide (s.io.cfg.uvOff + 1000 ≤ mv))
    (fun s => onIo (ioRecover (some n)) s)) ∧
  (∀ v, happens (fun t => .uvWarn t v) (fun s => !dieDown 2 s && !s.io.uvWarn && decide (v < s.io.cfg.uvWarn))
    (fun s => putIo (ioUvWarn true v s.io, [.report 0x0902 (zeros 2 ++ leBytes 2 v)]) s)) ∧
  (∀ v, happens (fun t => .uvWarnEnd t v) (fun s => !dieDown 2 s && decide (s.io.cfg.uvWarn + 1000 ≤ v))
    (fun s => onIo (ioUvWarn false v) s)) ∧
  (∀ mv, happens (fun t => .fieldDieReset t ⟨1, mv⟩) (fun _ => decide (mv < 7000)) (fun s =>
    let s1 := s.setFar 1 { farReset true 4 with down := true, at' := s.now }
    { s1 with upd := { s1.upd with seqRun := setAt 1 false s1.upd.seqRun }, power := powerReset })) ∧
  (∀ mv, happens (fun t => .fieldDieReset t ⟨2, mv⟩) (fun _ => decide (mv < 7000)) (fun s =>
    let s1 := s.setFar 2 { farReset true 4 with down := true, at' := s.now }
    { s1 with upd := { s1.upd with seqRun := setAt 2 false s1.upd.seqRun }, io := { ioReset with dieReset := true } })) ∧
  (∀ k mv, happens (fun t => .fieldDieRestart t ⟨k, mv⟩) (fun s => (s.far k).down && decide (7500 ≤ mv))
    (fun s => s.setFar k { s.far k with down := false, at' := s.now }))

/-- A complete CAN frame meets REC's rule, the claims and the filters; the transmit ring fills the FIFO; a sent frame, an error, bus-off,
its end, a claim's 250 ms, a wake-up pattern and the entry to sleep act on the channel. -/
def Obligations.CanBusEventsComplete : Prop :=
  (∀ ch sof f r, happens (fun t => .canFrameReceive t ch sof f)
    (fun s => canLive ch s && decide ((s.canCh ch).state ≠ 2) && decide (s.datum.canRec ch = some r) && decide ((s.canCh ch).rec' ≤ 127) &&
      !cableFrame ch f s && !cycleRequest ch f s)
    (fun s => strayRequests ch (claimsLost ch (canStep ch sof (canReceive s.datum r s.now (frameOf s.now) sof (recValue s) f) s)))) ∧
  (∀ ch recs, happens (fun t => .canTxRingTake t ch recs) (fun s => canTake ch recs s)
    (fun s =>
      let f := ringFrame recs
      let key := noteKey ch f.2.2
      let s1 := { s with can := s.can.map fun c => { c with outcomes := c.outcomes.filter fun p => p.1 != key } }
      let x : TxFrame := { frame := f.1, attrs := f.2.1, tag := f.2.2, enq := s.now, origin := ch, fw := false, out := none, cancel := none }
      writeShadow (41 + ch) ((setCan { s1.canCh ch with fifo := (s1.canCh ch).fifo ++ [x] } s1).setRing (41 + ch)
        { s.ring (41 + ch) with dev := ((s.ring (41 + ch)).dev + recs.length) % (s.ring (41 + ch)).size }))) ∧
  (∀ ch sof, happens (fun t => .canTxComplete t ch sof) (fun s => canSends ch s && (txHead (s.canCh ch)).isSome)
    (fun s => cancelsDone (canStep ch sof (txComplete (s.canRecord ch) sof) s))) ∧
  (∀ ch sof, happens (fun t => .canTxError t ch ⟨sof, .busError⟩) (fun s => canSends ch s && (txHead (s.canCh ch)).isSome)
    (fun s => cancelsDone (canStep ch s.now (txError (s.canRecord ch) sof false) s))) ∧
  (∀ ch sof, happens (fun t => .canTxError t ch ⟨sof, .lostArbitration⟩) (fun s => canSends ch s && (txHead (s.canCh ch)).isSome)
    (fun s => cancelsDone (canStep ch s.now (txError (s.canRecord ch) sof true) s))) ∧
  (∀ ch sof, happens (fun t => .canDominantTimeout t ⟨ch, sof⟩) (fun s => canSends ch s && (txHead (s.canCh ch)).isSome)
    (fun s => cancelsDone (canStep ch s.now (txError (s.canRecord ch) sof false) s))) ∧
  (∀ ch, happens (fun t => .canRxError t ch .busError) (fun s => canLive ch s)
    (fun s => canStep ch s.now (fun c => errState { c with rec' := c.rec' + 1 }) s)) ∧
  (∀ ch, happens (fun t => .canRxError t ch .dominantAfterFlag) (fun s => canLive ch s)
    (fun s => canStep ch s.now (fun c => errState { c with rec' := c.rec' + 8 }) s)) ∧
  (∀ ch, happens (fun t => .canRxError t ch .protocolException) (fun s => canLive ch s)
    (fun s => setCan { s.canCh ch with pexc := sat 65535 ((s.canCh ch).pexc + 1) } s)) ∧
  (∀ ch r, happens (fun t => .canBusOff t ch false)
    (fun s => decide (s.datum.canRec ch = some r) && canSends ch s && decide ((s.canCh ch).state < 2) && decide (256 ≤ (s.canCh ch).tec))
    (fun s => cancelsDone (failover ch (canStep ch s.now (busOff r) s)))) ∧
  (∀ ch, happens (fun t => .canRecoveryDone t ch) (fun s => canLive ch s && decide ((s.canCh ch).state = 2) && (s.canCh ch).recovering)
    (fun s => raise 0x0A03 (leBytes 1 ch) (setCan { s.canCh ch with state := 0, recovering := false, tec := 0, rec' := 0 } s))) ∧
  (∀ ch k, happens (fun t => .canClaimTimeout t ch)
    (fun s => decide ((s.canCh ch).claim = some k) && canLive ch s && !k.holding && decide (k.since + usTicks 250000 ≤ s.now))
    (fun s => (waiting 0x0A04 ch s).foldl (fun a q => finish q stOk 0 k.addr a)
      (setCan { s.canCh ch with claim := some { k with holding := true } } s))) ∧
  (∀ ch, happens (fun t => .canWakePattern t ch) (fun s => s.pwr.canWake.contains ch && s.pwr.ao && s.time.asleep)
    (fun s => irq (4 + ch) (hit (0x6000 + 0x400 * ch) 4 (setCan { s.canCh ch with wake := true } s)))) ∧
  (∀ ch, happens (fun t => .canSleepDiscard t ch)
    (fun s => decide (s.pwr.state = 2) && (s.canCh ch).standby && decide (s.pwr.sleepAt + ticks100ms ≤ s.now))
    (fun s =>
      let c := s.canCh ch
      cancelsDone (c.fifo.foldl (fun a x => (outcomeRecs 0 6 ch x).foldl (fun b r => canRecords r.1 r.2 b) a)
        (setCan (c.fifo.foldl (fun d x => noteOutcome 6 x d) { c with fifo := [] }) s))))

/-! Power, clocks, non-volatile store, recorder (01, 02, 15-20). -/

/-- Each cause of a reset leaves the state that its power domains keep, and a start follows where PORN is released. -/
def Obligations.ResetsComplete : Prop :=
  happens .powerLoss anyState (fun s =>
    let s1 := resetL 1 { s with pwr := { s.pwr with marker := false } }
    { s1 with time := { s1.time with asleep := false }
              pwr := { s1.pwr with porn := true, ao := false, pwrEn := false, haltAt := none }, ic := { s1.ic with latched := [] } }) ∧
  happens .pornLow (fun s => !s.pwr.porn && !(s.pwr.reset && s.time.asleep)) (fun s =>
    let s1 := resetL 2 { s with pwr := { s.pwr with marker := false } }
    { s1 with time := { s1.time with asleep := false }, pwr := { s1.pwr with porn := true } }) ∧
  happens .sysrstNLow (fun s => !s.pwr.reset)
    (fun s => warmReset 3 { s with pwr := { s.pwr with marker := false }, time := { s.time with asleep := false } }) ∧
  happens .watchdogTimeout State.awake (fun s => warmReset 4 { s with pwr := { s.pwr with marker := false } }) ∧
  (∀ e, happens .orderedReset (fun s => s.awake && decide (s.pwr.resetDue = some e) && decide (e ≤ s.now)) (fun s =>
    let s1 := lifeCommit (if s.hif.ready then commitItems s else s)
    warmReset 5 { s1 with pwr := { s1.pwr with marker := true } })) ∧
  happens .pornRelease (fun s => s.pwr.porn && s.pwr.reset && decide (s.pwr.state ≠ 3)) (fun s => startUp s) ∧
  (∀ b, happens (fun t => .startupReady t b)
    (fun s => s.awake && !s.hif.ready && !s.upd.recovery && !s.resetNow && (List.range 3).all fun k => dieTried k s)
    (fun s => readyUp b s)) ∧
  (∀ e, happens .trialWindowEnd (fun s => s.awake && decide (s.upd.trialEnd = some e) && decide (e ≤ s.now) && onTrial s.boot)
    (fun s => fallBack 1 s.boot s))

/-- A move's apply instant is followed by sleep; WATCH wakes for its cycles and lease renewals, a latched source brings RUN back, HALT
ends by a source or its timer; FSAFE_N sets the safe-state line. -/
def Obligations.SleepAndWakeComplete : Prop :=
  happens .sleepEntry (fun s => s.awake && s.pwr.moved && s.pwr.cycle.isSome) (fun s => enterWatch s) ∧
  (∀ e, happens .sleepEntry (fun s => s.awake && s.pwr.moved && s.pwr.cycle.isNone && decide (s.pwr.move = some (3, e))) (fun s => enterHalt s)) ∧
  (∀ st e, happens .sleepEntry
    (fun s => s.awake && s.pwr.moved && s.pwr.cycle.isNone && decide (s.pwr.move = some (st, e)) && decide (st ≠ 3)) (fun s => enterWatch s)) ∧
  (∀ w, happens .watchCycle (fun s => decide (s.pwr.nextWake = some w) && s.watching && decide (w ≤ s.now)) (fun s =>
    let n := frameOf (w + 2 ^ 21) + sgLead s.stoGlob - 1
    let s1 := cablesUp (restart 2 (restart 1 (lifeCommit (countWake (restore s)))))
    strayMailbox (resumeAt (frameOf (w + 2 ^ 21))
      { s1 with pwr := { s1.pwr with cycle := some (some n), nextWake := none, renewAt := none, wakeSrc := 2, wakeStamp := s1.now / 512 * 512 }
                sto := { s1.sto with readFor := none } }))) ∧
  (∀ r, happens .leaseRenewalWake (fun s => decide (s.pwr.renewAt = some r) && s.watching && decide (r ≤ s.now))
    (fun s => schedule (countWake (sendFrame 2 (leaseFrames s) false (sendFrame 1 (leaseFrames s) false s))))) ∧
  (∀ n p, happens (fun t => .wakeSource t n)
    (fun s => decide ((s.ic.latched.find? fun q => q.1 == n) = some p) && !s.halted && s.watching)
    (fun s => backToRun n p.2 (lifeCommit (countWake (restore s))))) ∧
  (∀ n p, happens (fun t => .wakeSource t n) (fun s => decide ((s.ic.latched.find? fun q => q.1 == n) = some p) && s.halted)
    (fun s => { s with pwr := { s.pwr with state := 0, pwrEn := true, haltAt := none, wakeSrc := n, wakeStamp := p.2 } })) ∧
  (∀ e, happens .haltTimer (fun s => decide (s.pwr.haltAt = some e) && s.halted && decide (e ≤ s.now))
    (fun s => { s with pwr := { s.pwr with state := 0, pwrEn := true, haltAt := none, wakeSrc := 2, wakeStamp := s.now / 512 * 512 } })) ∧
  happens .fsafeNLow (fun s => s.awake && s.pwr.ao) (fun s => setLine 2 (irq 3 { s with safe := { s.safe with fsafeLow := true } })) ∧
  happens .fsafeNHigh anyState (fun s => { s with safe := { s.safe with fsafeLow := false } })

/-- The Meridian's floor is rewritten before the count reaches it less 2^39; the clock monitor's losses and returns, PLL locks. -/
def Obligations.ClockEventsComplete : Prop :=
  happens .meridianFloorWrite (fun s => s.pwr.ao && !(s.pwr.reset && !s.time.asleep) && decide ((s.time.floor.body).getD 0 ≤ s.now + 2 ^ 39))
    (fun s =>
      let q := storeTwo placeMerFloor s.time.floor (s.now + 2 ^ 40) s
      { q.1 with time := { q.1.time with floor := q.2.1 } }) ∧
  happens .refClockLost (fun s => s.awake && !s.clk.onRc)
    (fun s => raise 0x0104 [] (hit 0x130 0 { s with clk := { s.clk with refLost := true, onRc := true, rcFrom := s.now } })) ∧
  happens .refClockRestored (fun s => s.clk.onRc)
    (fun s => { s with clk := { s.clk with onRc := false, rcSpans := (s.clk.rcFrom, s.now) :: s.clk.rcSpans } }) ∧
  happens .lfClockLost State.awake
    (fun s => raise 0x0105 [] (hit 0x130 2 { s with clk := { s.clk with lfLost := true, lfProven := false } })) ∧
  happens .lfClockProven anyState (fun s => { s with clk := { s.clk with lfProven := true } }) ∧
  (∀ p, happens (fun t => .pllUnlock t p) (fun s => s.awake && !s.clk.held.contains p)
    (fun s => raise 0x0106 (leBytes 1 p) (hit 0x130 3 { s with clk := { s.clk with pllUnlock := true, held := s.clk.held ++ [p] } }))) ∧
  (∀ p, happens (fun t => .pllRelock t p) (fun s => s.clk.held.contains p && decide (p ≠ 0))
    (fun s => { s with clk := { s.clk with held := s.clk.held.filter fun q => q != p } })) ∧
  happens (fun t => .pllRelock t 0) (fun s => s.clk.held.contains 0) (fun s =>
    s.frm.queue.foldl (fun a x => intakeAt x a)
      { s with clk := { s.clk with held := s.clk.held.filter fun q => q != 0 }, frm := { s.frm with queue := [] } })

/-- A housekeeping round reads the sites and rails; a far die judges its own site; a shutdown ends 10 s after the site has cooled; a key
slot's lock ends; the settings are committed; the scrub reads a word. -/
def Obligations.HousekeepingComplete : Prop :=
  (∀ ts rs, happens (fun t => .housekeepingRound t ts rs false) roundDue (fun s =>
    let s1 := ts.zipIdx.foldl (fun a p => logicSite p.2 p.1 a) s
    let s2 := [4, 5, 6].foldl (fun a n => farSite n a) s1
    gazErrors (rs.zipIdx.foldl (fun a p => railRead p.2 p.1 a) { s2 with pwr := { s2.pwr with roundAt := s2.now } }))) ∧
  (∀ ts rs, happens (fun t => .housekeepingRound t ts rs true) roundDue (fun s =>
    let s1 := ts.zipIdx.foldl (fun a p => logicSite p.2 p.1 a) s
    let s2 := [4, 5, 6].foldl (fun a n => farSite n a) s1
    setLine 7 (gazErrors (rs.zipIdx.foldl (fun a p => railRead p.2 p.1 a) { s2 with pwr := { s2.pwr with roundAt := s2.now } })))) ∧
  (∀ k v, happens (fun t => .farTempCheck t k v)
    (fun s => !dieDown k s && !s.linkUp k && (s.site (k + 4)).throttle && (s.site (k + 4)).shut)
    (fun s => s.setSite (k + 4) (siteJudge s.now (siteReading v).1 (s.site (k + 4))))) ∧
  (∀ n a, happens (fun t => .thermalShutdownEnd t n)
    (fun s => decide ((s.site n).coolAt = some a) && (s.site n).shut && decide (a + 10 * 2 ^ 24 ≤ s.now))
    (fun s =>
      let s1 := s.setSite n { s.site n with shut := false }
      { s1 with pwr := { s1.pwr with shutdown := logicShut s1 } })) ∧
  (∀ k, happens (fun t => .authLockEnd t k) (fun s => s.awake && decide ((s.ctrRec k).lockEnd ≠ 0) && decide ((s.ctrRec k).lockEnd ≤ s.now))
    (fun s => (storeCtr k { s.ctrRec k with fails := 0, lockEnd := 0 } s).1)) ∧
  happens .settingsPeriodicCommit
    (fun s => s.awake && s.hif.ready && s.pwr.cycle.isNone && decide (s.pwr.commitAt + 7200 ≤ frameOf s.now)) (fun s =>
      let s1 := (commitLearn { s with pwr := { s.pwr with commitAt := frameOf s.now } }).1
      (commitBins (if s.pwr.state = 0 then (commitStore s1).1 else s1)).1) ∧
  (∀ a, happens (fun t => .mramScrub t a .corrected) State.awake (fun s =>
    addWrites (regionOf (a / 8 * 8)) 1 { s with nvs := { s.nvs with scrubBusy := true, ceCnt := sat 65535 (s.nvs.ceCnt + 1) } })) ∧
  (∀ a, happens (fun t => .mramScrub t a .uncorrectable) State.awake (fun s =>
    gazUe (a / 8 * 8) (ueFound (regionOf (a / 8 * 8)) (a / 8 * 8)
      (loseWord (a / 8 * 8) { s with nvs := { s.nvs with scrubBusy := true } })))) ∧
  (∀ a, happens (fun t => .mramScrub t a .passEnd) State.awake (fun s => { s with nvs := { s.nvs with scrubBusy := false, passes := (s.nvs.passes + 1) % 2 ^ 32 } }))

/-- The recorder's instants: a second's samples, the end of a period, an hour's benchmark, a maintenance item, the lifetime commit. -/
def Obligations.RecorderInstantsComplete : Prop :=
  happens .gazSecondSample (fun s => s.awake && decide (s.gaz.secAt < s.now / 2 ^ 24)) (fun s => gazSecond s) ∧
  happens (fun t => .gazPeriodClose t 0) (fun s => s.awake && decide (s.gaz.perA.endAt ≤ s.now)) (fun s =>
    closePeriod false false (if s.gaz.perB.endAt ≤ s.now then closePeriod true false s else s)) ∧
  happens (fun t => .gazPeriodClose t 1) (fun s => s.awake && decide (s.gaz.perB.endAt ≤ s.now)) (fun s => closePeriod true false s) ∧
  happens .hourlyBenchmark
    (fun s => s.awake && decide (s.gaz.hourAt < s.now / (3600 * 2 ^ 24)) && decide (s.now / (3600 * 2 ^ 24) % s.gaz.bHours ≠ 0))
    (fun s => benchB 1 { s with gaz := { s.gaz with hourAt := s.now / (3600 * 2 ^ 24) } }) ∧
  (∀ n m, happens (fun t => .maintItemFire t n)
    (fun s => s.awake && decide ((s.gaz.life.maint.find? fun x => x.item == n) = some m) && maintReached s m)
    (fun s =>
      let v := maintCounter s m.basis m.ch
      let m1 := { m with due := true, base := v, firings := m.firings + 1 }
      let s1 := s.setLife { s.gaz.life with maint := s.gaz.life.maint.map fun x => if x.item = n then m1 else x }
      raise 0x0E03 (leBytes 1 n) (putB 5 0 n 0
        (leBytes 1 n ++ leBytes 1 m.basis ++ leBytes 2 s.time.era ++ zeros 4 ++ leBytes 8 v ++ leBytes 4 m1.firings) s1))) ∧
  happens .lifetimeCommit (fun s => s.awake && decide (s.pwr.state ≤ 1) && decide (s.gaz.lifeAt + 2 ^ 30 ≤ s.now)) (fun s => lifeCommit s)

/-! The plant frame (01, 02, 04). -/

/-- A frame whose closing instant has come is decided, late where its apply instant has passed without decisions; its outputs reach the field at its apply instant; a frame without decisions then
is missed; a prediction run that ends frees its lane; a long-running command completes at its completion point. -/
def Obligations.FrameEventsComplete : Prop :=
  (∀ tu eu ce n, happens (fun t => .frameDecisions t tu eu ce) (fun s => decide (frameDue (lapseFrame s) = some n) && canDecide n (lapseFrame s))
    (fun s => decideFrame n tu eu ce (lapseFrame s))) ∧
  (∀ n ovr outs, happens .applyInstant
    (fun s => decide (s.frm.decided = some (n, ovr, outs)) && s.awake && decide (s.applyAt n ≤ s.now)) (fun s => applyFrame n ovr outs s)) ∧
  (∀ n, happens .applyInstant
    (fun s => s.frm.decided.isNone && decide (frameDue s = some n) && !s.rpl.active && s.frm.missed.isNone && decide (s.applyAt n ≤ s.now))
    (fun s => sendDecisions { s with
      frm := { s.frm with missed := some n }
      svy := if predReady n s.plant then s.svy else { s.svy with predLate := sat 65535 (s.svy.predLate + 1) } })) ∧
  (∀ k m st ca me, happens (fun t => .predictionRunEnd t k)
    (fun s => s.awake && !(lapseFrame s).pwr.shutdown && decide (((lapseFrame s).svy.lanes[k]?).join = some (m, st, ca, me)))
    (fun s0 =>
      let s := lapseFrame s0
      fillLanes { s with
        svy := { s.svy with lanes := setAt k none s.svy.lanes }
        plant := { s.plant with maps := s.plant.maps.map fun x => if x.shape.num = m then mapRan st ca me x else x } })) ∧
  (∀ src tag c e, happens (fun t => .completionPoint t src tag)
    (fun s => s.awake && decide ((s.cmds.find? fun x => x.d.src == src && x.d.tag == tag && (longWork x.op).isSome) = some c) &&
      decide (c.op = 0x0302) && decide (endedOk (commitLegend c s) = some e))
    (fun _ => finish c stOk e.2.1 e.2.2 e.1)) ∧
  (∀ src tag c e, happens (fun t => .completionPoint t src tag)
    (fun s => s.awake && decide ((s.cmds.find? fun x => x.d.src == src && x.d.tag == tag && (longWork x.op).isSome) = some c) &&
      decide (c.op = 0x0102) && decide (endedOk (commitDatum c s) = some e))
    (fun _ => finish c stOk e.2.1 e.2.2 e.1))

/-! The machine as a whole. -/

/-- The block takes the command at the front of its queue and runs it on the state with the queue's rest. -/
def Obligations.StepRunsFrontCommand : Prop :=
  ∀ (s : State) (c : Instr) (rest : List Instr), s.pending = c :: rest → step s = exec c { s with pending := rest }

/-- The model's choices. With no command waiting a step is one cycle of the clock (notes/assumptions/1.md): INC is added to the count
and its fraction awake, 512 ticks asleep, and nothing else changes. The opcode table gives no bits, so no word spells a command
(notes/assumptions/6.md). -/
def Obligations.IdleStepAndTableWords : Prop :=
  (∀ s : State, s.pending = [] →
    step s = .next { s with time := { s.time with acc := s.time.acc + if s.time.asleep then 512 * 2 ^ 32 else incOf s.time.slew } }) ∧
  (∀ (nbits w : Nat) (s : State), decodeTableWord nbits w = none ∧ s.withFetchWord nbits w = s)

/-- A device that leaves the factory: the count and its floor are 0, era 0, offset 0, no wall time; the safe-state line is set; no ring
runs and nothing is READY; the registers that the summary gives a reset value hold it; the state has its shape. -/
def Obligations.ResetStateHolds : Prop :=
  let s := State.reset
  s.now = 0 ∧ s.time.floor.body = some 0 ∧ s.time.era = 0 ∧ s.time.offset = 0 ∧ s.time.slew = 0 ∧ s.time.wallValid = false ∧
  s.safe.set = true ∧ s.hif.ready = false ∧ (s.hif.rings.all fun r => !r.enable) = true ∧ s.hif.hbTimeout = 50 ∧ s.gaz.bHours = 4 ∧
  (s.links.near.all fun x => x.timeout == 100) = true ∧ (s.ic.src 1).prio = 15 ∧ (s.ic.src 1).targets = 255 ∧ s.cmds = [] ∧
  s.pending = [] ∧ s.shapeOk = true

/-- Every step keeps the shape: the SPI buffer and the image slots list strictly rising addresses and no byte 0; three links, four
channels, 46 rings and eight key slots stay. -/
def Obligations.ShapeIsKept : Prop :=
  ∀ s s' : State, s.shapeOk = true → step s = .next s' → s'.shapeOk = true

/-- No step takes the Meridian back: not a command, a sleep, a wake, a reset or the loss of the always-on domain. -/
def Obligations.MeridianNeverGoesBack : Prop :=
  ∀ s s' : State, step s = .next s' → s.now ≤ s'.now

/-- A command's meaning leaves the queue of waiting commands as it is. -/
def Obligations.CommandsLeaveTheQueue : Prop :=
  ∀ (c : Instr) (s s' : State), exec c s = .next s' → s'.pending = s.pending

/-- While the safe-state line is set, only the decisions of a frame can clear it: every other command, and an idle step, leaves it set. -/
def Obligations.OnlyFrameDecisionsReleaseTheLine : Prop :=
  ∀ s s' : State, s.safe.set = true → (∀ t tu eu ce rest, s.pending ≠ .frameDecisions t tu eu ce :: rest) → step s = .next s' →
    s'.safe.set = true

/-- The frame of the completion statements: the settling of the interrupt controller changes the controller, the host interface and the
posted writes alone; taking, judging, accepting and completing a host command leave the body of the state as it is. -/
def Obligations.HandlingLeavesTheBody : Prop :=
  (∀ s : State, (icSettle s).behind = s.behind) ∧
  (∀ (k : Spec) (d : Desc) (s : State) (c : Cmd) (s1 : State), begins k d s = some (c, s1) → s1.body = s.body) ∧
  (∀ (c : Cmd) (st prog r : Nat) (s : State), (finish c st prog r s).body = s.body)

/-- Two reads change the state: one of MER_NOW_LO latches the upper half of the count for its path and returns the lower, one of
IC_CLAIM_n claims. Every other read of a register leaves the state as it is, over PCIe and over SPI. -/
def Obligations.TwoReadsChangeState : Prop :=
  (∀ (p : Path) (a : Nat) (s : State), a ≠ 0x400 → claimOf a = none → (readReg p a s).1 = s) ∧
  (∀ (p : Path) (s : State), s.hif.ready = true → (readReg p 0x400 s).2 = s.now % 2 ^ 32 ∧
    (readReg p 0x400 s).1 = { s with time := match p with
      | .pcie => { s.time with hiPcie := s.now / 2 ^ 32 % 2 ^ 32 }
      | .spi => { s.time with hiSpi := s.now / 2 ^ 32 % 2 ^ 32 } }) ∧
  (∀ (p : Path) (n : Nat) (s : State), n < 8 →
    let asg := s.cy.asg.getD (assignment s.ic)
    readReg p (0x1040 + 16 * n) s =
      ({ s with ic := (icClaim asg n s.ic).1, cyc := { s.cy with asg := some asg } }, (icClaim asg n s.ic).2))

/-- A stamp's frame is the one whose interval holds it; a rebuilt stamp later than its arrival instant is that instant with bits 19:0
cleared; a host-fed sample stamped after its arrival is refused, counted in FUTURE and captured with the flag, and not streamed. -/
def Obligations.StampsFramesAndFutures : Prop :=
  (∀ st n : Nat, frameOf st = n ↔ n * 2 ^ 23 ≤ st ∧ st < (n + 1) * 2 ^ 23) ∧
  (∀ m short : Nat, short < 2 ^ 24 →
    let u : Nat := m / 2 ^ 20
    let d0 : Nat := (short + 2 ^ 24 - u % 2 ^ 24) % 2 ^ 24
    let d : Int := if 2 ^ 23 ≤ d0 then (d0 : Int) - 2 ^ 24 else d0
    (0 ≤ (u : Int) + d → (m : Int) < ((u : Int) + d) * 2 ^ 20 → rebuildStamp m short = m - m % 2 ^ 20) ∧
    (0 ≤ (u : Int) + d → ((u : Int) + d) * 2 ^ 20 ≤ m → (rebuildStamp m short : Int) = ((u : Int) + d) * 2 ^ 20)) ∧
  (∀ (f : Feed) (r : Bytes), feedBad f.s r = false → f.s.now < u64 r 0 →
    let x : Sample := { stamp := u64 r 0, src := u16 r 8, status := u16 r 10, value := s32 r 12, arrival := f.s.now }
    (feedOne f r).taken = f.taken ∧ (feedOne f r).refused = f.refused + 1 ∧
    (feedOne f r).s = { f.s with
      time := { f.s.time with future := sat 65535 (f.s.time.future + 1) }
      cap := if f.s.cap.active then { f.s.cap with odd := f.s.cap.odd ++ [capSample true x] } else f.s.cap })

/-- A frame that a receiver discards (a lost start, a coding violation, a wrong CRC, link number or direction) adds 1 to its error count
and changes no output, set-point or reported value: at a far die, which keeps all its state (fault judgements of the IO die that wait for
the same cycle come before the frame), and at LOGIC, whose counter saturates. -/
def Obligations.DiscardedFramesCountOnly : Prop :=
  (∀ (t k : Nat) (dmg : Damage) (s0 s : State) (f : OutFrame) (rest : List OutFrame), s = judgedFirst k (advance t s0) →
    s.shapeOk = true → k < 3 → outTaken k dmg f = none → (s.near k).wire = f :: rest → dieDown k s = false →
    ∃ u, exec (.farFrameReceive t k dmg) s0 = .next u ∧ (u.far k).errs = (s.far k).errs + 1 ∧ u.power = s.power ∧ u.io = s.io ∧
      u.sense = s.sense ∧ { u.far k with errs := 0, seqIn := none } = { s.far k with errs := 0, seqIn := none }) ∧
  (∀ (k : Nat) (dmg : Damage) (f : OutFrame),
    dmg.noStart = true ∨ dmg.violation = true ∨
      leNat (slice (outArrived k dmg f) 93 2) ≠ crc16 ((outArrived k dmg f).take 93) → outTaken k dmg f = none) ∧
  (∀ (t k : Nat) (dmg : Damage) (s : State) (f : InFrame) (rest : List InFrame), s.shapeOk = true → k < 3 → inTaken k dmg f = none →
    (s.far k).wire = f :: rest → s.awake = true → s.upd.recovery = false → (advance t s).resetNow = false →
    ∃ u, exec (.logicFrameReceive t k dmg) s = .next u ∧ (u.near k).nearErr = sat 65535 ((s.near k).nearErr + 1) ∧
      u.links.viewS = s.links.viewS ∧ u.links.viewP = s.links.viewP ∧ u.links.viewI = s.links.viewI ∧ u.field = s.field ∧
      u.senLog = s.senLog ∧ u.exch = s.exch ∧ u.frm = s.frm ∧
      { u.near k with nearErr := 0, seqIn := none } = { s.near k with nearErr := 0, seqIn := none })

/-- A FENCE command is offered only when no earlier command of its ring is incomplete; while one is, no later command of the ring is
offered; what is incomplete elsewhere does not matter; a command that is not offered is not taken. -/
def Obligations.FencesOrderOneRing : Prop :=
  (∀ (op n : Nat) (d : Desc) (s : State), d.src = .ring n → flFence d = true → offered op d s = true →
    (s.cmds.all fun c => c.d.src != .ring n || c.internal) = true) ∧
  (∀ (op n : Nat) (d : Desc) (s : State), d.src = .ring n →
    (s.cmds.any fun c => c.d.src == .ring n && !c.internal && flFence c.d) = true → offered op d s = false) ∧
  (∀ (op n : Nat) (d : Desc) (s : State), d.src = .ring n →
    offered op d s = offered op d { s with cmds := s.cmds.filter fun c => c.d.src == .ring n }) ∧
  (∀ (k : Spec) (go : Cmd → State → Next) (d : Desc) (s : State), offered k.op d s = false → command k go d s = s)

/-- A ring's command whose TAG an incomplete command of the ring carries completes with TAG_IN_USE, one whose payload cannot be read,
has no address or is too short with PAYLOAD_ERROR; it has no effect. The order among the checks, READY first, is the model's
(notes/assumptions/18.md). -/
def Obligations.TagAndPayloadRefusals : Prop :=
  ∀ (k : Spec) (go : Cmd → State → Next) (n : Nat) (d : Desc) (s : State), d.src = .ring n → sourceOpen d.src s = true →
    offered k.op d s = true → notReady k.op (takeOut d s) = false → badDescriptor k d = false →
    (tagInUse d (takeOut d s) = true → command k go d s = sendCompletion d.src d.tag stTagInUse false 0 0 (takeOut d s)) ∧
    (tagInUse d (takeOut d s) = false →
      d.readError = true ∨ (d.payload = 0 ∧ d.plen ≠ 0) ∨ d.plen < k.need →
      command k go d s = sendCompletion d.src d.tag stPayloadError false 0 0 (takeOut d s))

/-- A descriptor, from whichever source, with a non-zero reserved field, a bit among FLAGS 12:0, or KEY_SLOT, COUNTER or CHECK without CRIT
completes with BAD_DESCRIPTOR and has no effect; FRAME and AT_FRAME do so on every command that is neither frame-tied nor LOAD_DATUM,
LOAD_LEGEND or ERASE_LEGEND; a critical command without CRIT completes with AUTH_FAIL, where no check before it fails (their order:
notes/assumptions/18.md). On the three AT_FRAME completes with AT_FRAME_REFUSED of the block, in the ledger where the command has an
entry, and the command's own work does not begin. -/
def Obligations.MalformedDescriptorsAreRefused : Prop :=
  (∀ (k : Spec) (go : Cmd → State → Next) (d : Desc) (s : State), sourceOpen d.src s = true → offered k.op d s = true →
    notReady k.op (takeOut d s) = false → d.check.length = 8 →
    (d.rsv1 ≠ 0 ∨ d.rsv2 ≠ 0 ∨ d.flags % 2 ^ 13 ≠ 0 ∨ (bit d.flags 15 = false ∧ (d.keySlot ≠ 0 ∨ d.counter ≠ 0 ∨ d.check ≠ zeros 8)) ∨
      (k.frame = 0 ∧ (d.frame ≠ 0 ∨ bit d.flags 13 = true)) →
      command k go d s = sendCompletion d.src d.tag 0x0005 false 0 0 (takeOut d s)) ∧
    (badDescriptor k d = false → tagInUse d (takeOut d s) = false → (d.src = .spi → spiOp k.op = true) →
      refuseAtTaking.canRefused k d (takeOut d s) = none → payloadOf d (takeOut d s) ≠ none →
      (d.payload = 0 → d.plen = 0) → k.need ≤ d.plen → (k.exact = true → d.plen = k.need) →
      k.crit = true → bit d.flags 15 = false →
      command k go d s = sendCompletion d.src d.tag 0x0010 false 0 0 (takeOut d s))) ∧
  (∀ (k : Spec) (go : Cmd → State → Next) (d : Desc) (led : Option Nat) (s : State), k.frame = 2 → bit d.flags 13 = true →
    s.rpl.active = false ∨ k.query = true →
    accept k go d led s =
      finish { op := k.op, d, acc := s.now, eff := 0, tied := k.frame == 1, internal := false, led, prog := 0, aux := 0 }
        (if k.op / 256 = 1 then 0x0107 else 0x0308) 0 0 (openEntry led k d s.now 0 s)) ∧
  specLoadDatum.frame = 2 ∧ specLoadLegend.frame = 2 ∧ specEraseLegend.frame = 2

/-- A read of IC_CLAIM_n with target n neither frozen nor holding a copy of source 1: of the sources assigned to n with a PRIO above its
running priority it returns the one with the highest PRIO, the lowest number among equals; it is pushed, its count goes to IC_CLAIMX_n and
is cleared. With no such source the read returns 0, IC_CLAIMX_n is 0, and nothing else changes. A copy of source 1 is claimed first
while the running priority is below 15: IC_CLAIMX_n takes the merged faults. -/
def Obligations.ClaimsTakeTheHighestSource : Prop :=
  ∀ (n : Nat) (i : Ic), (i.tgt n).frozen = false →
    let mine (s : Nat) : Prop := routed i s = true ∧ assigned i s = some n ∧ i.running n < (i.src s).prio
    ((i.tgt n).s1 = 0 →
      (∀ s, mine s → (∀ r, mine r → (i.src r).prio < (i.src s).prio ∨ ((i.src r).prio = (i.src s).prio ∧ s ≤ r)) →
        icClaim (assignment i) n i = ((i.setSrc s { i.src s with c := 0, start := none, pend := false, byTime := false }).setTgt n
          { i.tgt n with
            stack := s :: (i.tgt n).stack
            claimx := (i.src s).c + 2 ^ 16 * (i.src s).prio + 2 ^ 20 * b2n (isLevelSrc s) + 2 ^ 21 * b2n (i.src s).byTime }, s)) ∧
      ((∀ s, ¬ mine s) → icClaim (assignment i) n i = (i.setTgt n { i.tgt n with claimx := 0 }, 0))) ∧
    ((i.tgt n).s1 ≠ 0 → i.running n < 15 →
      icClaim (assignment i) n i = (i.setTgt n { i.tgt n with s1 := 0, stack := 1 :: (i.tgt n).stack, claimx := (i.tgt n).s1 + 2 ^ 16 * 15 }, 1))

/-- No counter is accepted twice: a judgement that accepts a CRIT descriptor finds its COUNTER above the slot's last accepted one and
leaves it there; after it no descriptor of that slot whose COUNTER is not higher is accepted, whatever its opcode, source and check. -/
def Obligations.CountersAreAcceptedOnce : Prop :=
  ∀ (op : Nat) (d : Desc) (data : Bytes) (s s1 : State), s.shapeOk = true → judgeCrit op d data s = (s1, none) →
    (s.ctrRec d.keySlot).last < d.counter ∧ (s1.ctrRec d.keySlot).last = d.counter ∧
    ∀ (op2 : Nat) (d2 : Desc) (data2 : Bytes), d2.keySlot = d.keySlot → d2.counter ≤ d.counter → (judgeCrit op2 d2 data2 s1).2 ≠ none
end

