-- ==== Sys2Proof/Laws/Cmd.lean ====
section
/-!
SUPPORT. What a host command does when it begins, said once: the rest of it is its own work.
-/
namespace Sys2Proof.Machine

/-- An accepted command goes on as its own work says. -/
theorem accept_follow {k : Spec} {d : Desc} {s : State} (go : Cmd → State → Next) (led : Option Nat)
    (h : (refuseAccepted k d s).2 = none) :
    accept k go d led s =
      (let s1 := openEntry led k d s.now (refuseAccepted k d s).1 s
       let c : Cmd := { op := k.op, d, acc := s.now, eff := (refuseAccepted k d s).1, tied := k.frame == 1, internal := false, led
                        prog := 0, aux := 0 }
       follow c (go c (if k.frame = 1 then s1 else ledRun led s1))) := by
  unfold accept
  simp only [h]
  generalize go _ _ = r
  cases r <;> rfl

/-- A command that begins goes on as its own work says. -/
theorem command_begins {k : Spec} {d : Desc} {s : State} {c : Cmd} {s1 : State} (go : Cmd → State → Next)
    (h : begins k d s = some (c, s1)) : command k go d s = follow c (go c s1) := by
  unfold begins at h
  unfold command
  cases h0 : (sourceOpen d.src s && offered k.op d s) with
  | false => simp [h0] at h
  | true =>
    simp only [h0, Bool.true_eq_false, if_false, if_true] at h ⊢
    unfold take
    revert h
    generalize takeOut d s = s2
    generalize hp : payloadOf d s2 = pay
    generalize hd : ({ d with data := pay.getD [] } : Desc) = d1
    simp only [hd]
    have hdata : d1.data = pay.getD [] := by rw [← hd]
    simp only [← hdata]
    intro h
    cases hr : refuseAtTaking k d1 pay s2 with
    | some st => simp [hr] at h
    | none =>
      simp only [hr, Option.isSome_none, Bool.false_eq_true, false_or] at h ⊢
      by_cases hl : ledgered k d1 = true ∧ (if ledgered k d1 = true then ledgerPick s2 else none) = none
      · simp [hl.1] at h hl
        exact absurd hl h.1
      · simp only [hl, if_false] at h ⊢
        by_cases hc : flCrit d1 = true
        · simp only [hc, if_true] at h ⊢
          generalize hj : judgeCrit k.op d1 d1.data s2 = j at h ⊢
          obtain ⟨sj, (_ | st)⟩ := j
          · simp only [Option.isSome_none, Bool.false_eq_true, false_or] at h ⊢
            cases hq : (refuseAccepted k d1 sj).2 with
            | some st => simp [hq] at h
            | none =>
              simp [hq] at h
              rw [accept_follow go _ hq]
              simp only [h.2, h.1]
          · simp at h
        · simp only [hc, Bool.false_eq_true, if_false, Option.isSome_none, false_or] at h ⊢
          cases hq : (refuseAccepted k d1 s2).2 with
          | some st => simp [hq] at h
          | none =>
            simp [hq] at h
            rw [accept_follow go _ hq]
            simp only [h.2, h.1]

/-- A row goes on as stated where its own work `go` does. -/
theorem goesOn_intro {i : Nat → Desc → Instr} {k : Desc → State → Spec} {P : Cmd → State → Bool} {o : Cmd → State → Next}
    (go : Cmd → State → Next)
    (he : ∀ t d s, exec (i t d) s = .next (icSettle (command (k d (advance t s)) go d (advance t s))))
    (hg : ∀ c s, P c s = true → go c s = o c s) : goesOn i k P o := by
  intro t d s c s1 hb hp
  rw [he, command_begins go hb, hg c s1 hp]

/-- A row completes as stated where its own work ends so. -/
theorem completes_intro {i : Nat → Desc → Instr} {k : Spec} {P : Cmd → State → Bool} {f : Cmd → State → State}
    {r : Cmd → State → Nat} (go : Cmd → State → Next)
    (he : ∀ t d s, exec (i t d) s = .next (icSettle (command k go d (advance t s))))
    (hg : ∀ c s, P c s = true → go c s = .done (f c s) stOk 0 (r c s)) : completes i k P f r :=
  goesOn_intro go he hg

/-- A query answers as stated where its own work ends with those bytes at the payload address. -/
theorem answers_intro {i : Nat → Desc → Instr} {k : Spec} {P : Cmd → State → Bool} {b : Cmd → State → Bytes}
    {r : Cmd → State → Nat} (go : Cmd → State → Next)
    (he : ∀ t d s, exec (i t d) s = .next (icSettle (command k go d (advance t s))))
    (hg : ∀ c s, P c s = true → fits c.d (b c s) = true → go c s = .done (putData c.d (b c s) s) stOk 0 (r c s)) :
    answers i k P b r :=
  completes_intro go he fun c s h => by
    rw [Bool.and_eq_true] at h
    exact hg c s h.1 h.2

/-- A row waits where its own work waits and changes nothing. -/
theorem waits_intro {i : Nat → Desc → Instr} {k : Desc → Spec} {P : Cmd → State → Bool} (go : Cmd → State → Next)
    (he : ∀ t d s, exec (i t d) s = .next (icSettle (command (k d) go d (advance t s))))
    (hg : ∀ c s, P c s = true → go c s = .wait s c) : waits i k P :=
  goesOn_intro go he hg

/-- A frame takes a tied command as stated where the opcode's effect ends so. -/
theorem takes_intro {op : Nat} {P : Nat → Cmd → State → Bool} {f : Nat → Cmd → State → State} {r : Nat → Cmd → State → Nat}
    (e : Effect) (he : frameEffect op = some e)
    (hg : ∀ n c s, P n c s = true → e n c s = .done (f n c s) stOk 0 (r n c s)) : takes op P f r := by
  intro n c s hop hp
  subst hop
  simp only [takeEffect, he, hg n c _ hp, settleNext, resultAtE, true_or, if_true]

/-- An event has the effect stated where its own work `g` has it. -/
theorem happens_intro {i : Nat → Instr} {P : State → Bool} {f : State → State} (g : State → State)
    (he : ∀ t s, exec (i t) s = .next (icSettle (g (advance t s)))) (hg : ∀ s, P s = true → g s = f s) : happens i P f := by
  intro t s hp
  rw [he, hg _ hp]

end Sys2Proof.Machine
end

