-- ==== Sys2Proof/Laws/Mem.lean ====
section
/-!
SUPPORT. Laws of the addressed storage: a write keeps the canonical form, puts its bytes in place and leaves every other byte.
-/
namespace Sys2Proof.Machine

theorem memByte_append {a : Nat} {l r : List Host.Cell} : memByte a (l ++ r) =
    if (l.any fun c => c.1 == a) = true then memByte a l else memByte a r := by
  induction l with
  | nil => simp
  | cons c l ih =>
    by_cases h : c.1 = a
    · simp [memByte, h]
    · simp [memByte, h, ih]

theorem memByte_absent {a : Nat} {l : List Host.Cell} (h : (l.any fun c => c.1 == a) = false) : memByte a l = 0 := by
  induction l with
  | nil => rfl
  | cons c l ih => simp at h; simp [memByte, h.1]; apply ih; simpa using h.2

/-- Keys of a list in canonical form do not lie below its bound. -/
theorem cellsOk_lower {l : List Host.Cell} {lo : Nat} (h : cellsOk lo l = true) {c : Host.Cell} (hc : c ∈ l) : lo ≤ c.1 := by
  induction l generalizing lo with
  | nil => cases hc
  | cons d l ih =>
    obtain ⟨a, v⟩ := d
    simp only [cellsOk, Bool.and_eq_true, decide_eq_true_eq] at h
    cases hc with
    | head => exact h.1.1
    | tail _ hc => have := ih h.2 hc; omega

theorem cellsOk_mono {l : List Host.Cell} {lo lo' : Nat} (h : cellsOk lo l = true) (hl : lo' ≤ lo) : cellsOk lo' l = true := by
  cases l with
  | nil => rfl
  | cons d l =>
    simp only [cellsOk, Bool.and_eq_true, decide_eq_true_eq] at h ⊢
    exact ⟨⟨by omega, h.1.2⟩, h.2⟩

theorem cellsOk_filter {l : List Host.Cell} {lo : Nat} (p : Host.Cell → Bool) (h : cellsOk lo l = true) : cellsOk lo (l.filter p) = true := by
  induction l generalizing lo with
  | nil => rfl
  | cons d l ih =>
    simp only [cellsOk, Bool.and_eq_true, decide_eq_true_eq] at h
    by_cases hp : p d = true
    · simp only [List.filter_cons_of_pos hp, cellsOk, Bool.and_eq_true, decide_eq_true_eq]
      exact ⟨h.1, ih h.2⟩
    · rw [List.filter_cons_of_neg hp]; exact cellsOk_mono (ih h.2) (by omega)

/-- Two lists in canonical form, the second wholly above the first. -/
theorem cellsOk_append {l r : List Host.Cell} {lo hi : Nat} (hl : cellsOk lo l = true) (hr : cellsOk hi r = true) (hlo : lo ≤ hi)
    (hb : ∀ c ∈ l, c.1 < hi) : cellsOk lo (l ++ r) = true := by
  induction l generalizing lo with
  | nil => exact cellsOk_mono hr hlo
  | cons d l ih =>
    simp only [cellsOk, Bool.and_eq_true, decide_eq_true_eq, List.cons_append] at hl ⊢
    exact ⟨hl.1, ih hl.2 (hb d (List.mem_cons_self ..)) fun c hc => hb c (List.mem_cons_of_mem _ hc)⟩

theorem cellsOk_raise {l : List Host.Cell} {lo hi : Nat} (h : cellsOk lo l = true) (hb : ∀ c ∈ l, hi ≤ c.1) : cellsOk hi l = true := by
  cases l with
  | nil => rfl
  | cons d l =>
    simp only [cellsOk, Bool.and_eq_true, decide_eq_true_eq] at h ⊢
    exact ⟨⟨hb d (List.mem_cons_self ..), h.1.2⟩, h.2⟩

theorem cellsFrom_zero {v : Byte} (h : v = 0) (a : Nat) (b : Bytes) : cellsFrom a (v :: b) = cellsFrom (a + 1) b := if_pos h
theorem cellsFrom_cons {v : Byte} (h : v ≠ 0) (a : Nat) (b : Bytes) : cellsFrom a (v :: b) = (a, v) :: cellsFrom (a + 1) b := if_neg h

theorem cellsFrom_ok (b : Bytes) (a : Nat) : cellsOk a (cellsFrom a b) = true := by
  induction b generalizing a with
  | nil => rfl
  | cons v b ih =>
    by_cases h : v = 0
    · rw [cellsFrom_zero h]; exact cellsOk_mono (ih (a + 1)) (by omega)
    · rw [cellsFrom_cons h]; simpa [cellsOk, ih] using h

theorem cellsFrom_range {b : Bytes} {a : Nat} {c : Host.Cell} (h : c ∈ cellsFrom a b) : a ≤ c.1 ∧ c.1 < a + b.length := by
  induction b generalizing a with
  | nil => cases h
  | cons v b ih =>
    by_cases hv : v = 0
    · rw [cellsFrom_zero hv] at h
      have := ih h
      simp only [List.length_cons]; omega
    · rw [cellsFrom_cons hv, List.mem_cons] at h
      rcases h with rfl | h
      · simp
      · have := ih h
        simp only [List.length_cons]; omega

/-- A write keeps the canonical form. -/
theorem memWrite_wf {m : List Host.Cell} (h : Memory.wf m = true) (a : Nat) (b : Bytes) : Memory.wf (memWrite m a b) = true := by
  unfold Memory.wf memWrite at *
  refine cellsOk_append (hi := a + b.length) (cellsOk_append (hi := a) (cellsOk_filter _ h) (cellsFrom_ok b a) (by omega) ?_) ?_ (by omega) ?_
  · intro c hc; simpa using (List.mem_filter.mp hc).2
  · refine cellsOk_raise (cellsOk_filter _ h) ?_
    intro c hc; simpa using (List.mem_filter.mp hc).2
  · intro c hc
    rcases List.mem_append.mp hc with hc | hc
    · have := (List.mem_filter.mp hc).2; simp at this; omega
    · exact (cellsFrom_range hc).2

theorem memByte_filter {m : List Host.Cell} {a : Nat} {p : Host.Cell → Bool} (hp : ∀ v, p (a, v) = true) : memByte a (m.filter p) = memByte a m := by
  induction m with
  | nil => rfl
  | cons c m ih =>
    obtain ⟨x, v⟩ := c
    by_cases h : x = a
    · subst h; simp [memByte, hp]
    · by_cases hc : p (x, v) = true
      · simp [hc, memByte, h, ih]
      · simp [hc, memByte, h, ih]

theorem memByte_none {l : List Host.Cell} {a : Nat} (h : ∀ c ∈ l, c.1 ≠ a) : memByte a l = 0 :=
  memByte_absent (by simpa using fun x v hc => h (x, v) hc)

theorem any_none {l : List Host.Cell} {a : Nat} (h : ∀ c ∈ l, c.1 ≠ a) : (l.any fun c => c.1 == a) = false := by
  simpa using fun x v hc => h (x, v) hc

/-- A write leaves every byte outside its range. -/
theorem memWrite_frame (m : List Host.Cell) (b : Bytes) {a x : Nat} (h : x < a ∨ a + b.length ≤ x) :
    memByte x (memWrite m a b) = memByte x m := by
  unfold memWrite
  have hm : (cellsFrom a b).any (fun c => c.1 == x) = false :=
    any_none fun c hc => by have := cellsFrom_range hc; omega
  rcases h with h | h
  · by_cases hx : ((m.filter fun c => decide (c.1 < a)).any fun c => c.1 == x) = true
    · rw [List.append_assoc, memByte_append, if_pos hx, memByte_filter (by simpa using h)]
    · rw [List.append_assoc, memByte_append, if_neg hx, memByte_append, hm, if_neg (by simp),
        memByte_none (fun c hc => by have := (List.mem_filter.mp hc).2; simp at this; omega),
        ← memByte_filter (m := m) (p := fun c => decide (c.1 < a)) (by simpa using h), memByte_absent (by simpa only [Bool.not_eq_true] using hx)]
  · rw [List.append_assoc, memByte_append, if_neg (by
      rw [any_none fun c hc => by have := (List.mem_filter.mp hc).2; simp at this; omega]; simp), memByte_append, hm, if_neg (by simp),
      memByte_filter (by simpa using h)]

theorem memByte_cellsFrom (b : Bytes) (a i : Nat) (h : i < b.length) : memByte (a + i) (cellsFrom a b) = b[i] := by
  induction b generalizing a i with
  | nil => simp at h
  | cons v b ih =>
    cases i with
    | zero =>
      by_cases hv : v = 0
      · rw [cellsFrom_zero hv]; simp only [Nat.add_zero, List.getElem_cons_zero, hv]
        exact memByte_none fun c hc => by have := cellsFrom_range hc; omega
      · rw [cellsFrom_cons hv]; simp [memByte]
    | succ i =>
      have hi : i < b.length := by simpa using h
      have := ih (a + 1) i hi
      rw [show a + (i + 1) = a + 1 + i by omega]
      by_cases hv : v = 0
      · rw [cellsFrom_zero hv]; simpa using this
      · rw [cellsFrom_cons hv]; simpa [memByte, show ¬ a = a + 1 + i by omega] using this

/-- A byte written reads back. -/
theorem memWrite_read (m : List Host.Cell) (b : Bytes) (a i : Nat) (h : i < b.length) : memByte (a + i) (memWrite m a b) = b[i] := by
  unfold memWrite
  have h1 : ((m.filter fun c => decide (c.1 < a)).any fun c => c.1 == a + i) = false :=
    any_none fun c hc => by have := (List.mem_filter.mp hc).2; simp at this; omega
  rw [List.append_assoc, memByte_append, h1, if_neg (by simp), memByte_append]
  by_cases h2 : ((cellsFrom a b).any fun c => c.1 == a + i) = true
  · rw [if_pos h2, memByte_cellsFrom b a i h]
  · rw [if_neg h2, memByte_none (fun c hc => by have := (List.mem_filter.mp hc).2; simp at this; omega), ← memByte_cellsFrom b a i h,
      memByte_absent (by simpa only [Bool.not_eq_true] using h2)]

end Sys2Proof.Machine
end

