-- ==== Sys2Proof/Laws/Keeps.lean ====
section
/-!
SUPPORT. What every operation of the machine keeps, as one relation between the state before and the state after: the count does not
fall, the queue stays, the shape stays, a safe-state line that is set stays set (where `b` is true). The rules that carry it through
updates, branches and folds.
-/
namespace Sys2Proof.Machine

structure Keeps (b : Bool) (a s : State) : Prop where
  now : a.now ≤ s.now
  queue : s.pending = a.pending
  shape : a.shapeOk = true → s.shapeOk = true
  line : b = true → a.safe.set = true → s.safe.set = true

variable {b : Bool} {a s x : State}

theorem Keeps.rfl' : Keeps b s s := ⟨le_refl _, rfl, id, fun _ => id⟩
theorem Keeps.trans (h : Keeps b a s) (g : Keeps b s x) : Keeps b a x :=
  ⟨h.now.trans g.now, g.queue.trans h.queue, g.shape ∘ h.shape, fun hb => g.line hb ∘ h.line hb⟩

/-- The state in which a command goes on. -/
def Next.st : Next → State
  | .done s _ _ _ => s
  | .wait s _ => s

theorem Keeps.done {st p r : Nat} (h : Keeps b a s) : Keeps b a (Next.done s st p r).st := h
theorem Keeps.wait {c : Cmd} (h : Keeps b a s) : Keeps b a (Next.wait s c).st := h
theorem Keeps.ofDone {n : Next} {st p r : Nat} (e : n = .done s st p r) (h : Keeps b a n.st) : Keeps b a s := by rw [e] at h; exact h
theorem Keeps.ofWait {n : Next} {c : Cmd} (e : n = .wait s c) (h : Keeps b a n.st) : Keeps b a s := by rw [e] at h; exact h
theorem Keeps.fst {β : Type} {y : β} (h : Keeps b a s) : Keeps b a (s, y).1 := h
theorem Keeps.ofPair {β : Type} {q : State × β} {y : β} (e : q = (s, y)) (h : Keeps b a q.1) : Keeps b a s := by rw [e] at h; exact h
theorem Keeps.ofSome {β : Type} {o : Option (State × β)} {q : State × β} (e : o = some q) (h : ∀ q, o = some q → Keeps b a q.1) :
    Keeps b a q.1 := h q e

theorem Keeps.foldl {α : Type} {f : State → α → State} {l : List α} (hf : ∀ s y, Keeps b a s → Keeps b a (f s y)) (h : Keeps b a s) :
    Keeps b a (l.foldl f s) := by
  induction l generalizing s with
  | nil => exact h
  | cons y l ih => exact ih (hf s y h)

theorem Keeps.foldlPair {α β : Type} {f : State × β → α → State × β} {l : List α} {q : State × β}
    (hf : ∀ q y, Keeps b a q.1 → Keeps b a (f q y).1) (h : Keeps b a q.1) : Keeps b a (l.foldl f q).1 := by
  induction l generalizing q with
  | nil => exact h
  | cons y l ih => exact ih (hf q y h)

@[simp] theorem modifyAt_length {α : Type} (f : α → α) (i : Nat) (l : List α) : (modifyAt f i l).length = l.length := by
  induction l generalizing i with
  | nil => cases i <;> rfl
  | cons y l ih => cases i <;> simp [modifyAt, ih]
@[simp] theorem setAt_length {α : Type} (i : Nat) (y : α) (l : List α) : (setAt i y l).length = l.length := modifyAt_length _ i l

theorem shapeOk_iff : s.shapeOk = true ↔ Memory.wf s.spi.buffer = true ∧ Memory.wf s.upd.slotA = true ∧ Memory.wf s.upd.slotB = true ∧
    s.links.near.length = 3 ∧ s.links.far.length = 3 ∧ s.can.length = 4 ∧ s.hif.rings.length = 46 ∧
    s.auth.slots.length = 8 := by
  simp [State.shapeOk, State.memOk, and_assoc]

/-- A state whose parts that the relation looks at are those of `x`, or as good. -/
theorem Keeps.parts (h : Keeps b a x) (ht : x.time.acc ≤ s.time.acc) (hp : s.pending = x.pending)
    (hb : Memory.wf x.spi.buffer = true → Memory.wf s.spi.buffer = true) (hA : Memory.wf x.upd.slotA = true → Memory.wf s.upd.slotA = true)
    (hB : Memory.wf x.upd.slotB = true → Memory.wf s.upd.slotB = true) (hn : x.links.near.length = 3 → s.links.near.length = 3)
    (hf : x.links.far.length = 3 → s.links.far.length = 3) (hc : x.can.length = 4 → s.can.length = 4)
    (hr : x.hif.rings.length = 46 → s.hif.rings.length = 46) (hk : x.auth.slots.length = 8 → s.auth.slots.length = 8)
    (hs : b = true → x.safe.set = true → s.safe.set = true) : Keeps b a s := by
  refine h.trans ⟨?_, hp, ?_, hs⟩
  · exact Nat.div_le_div_right ht
  · rw [shapeOk_iff, shapeOk_iff]
    rintro ⟨h1, h2, h3, h4, h5, h6, h7, h8⟩
    exact ⟨hb h1, hA h2, hB h3, hn h4, hf h5, hc h6, hr h7, hk h8⟩

/-- An update of fields that the relation does not look at. -/
theorem Keeps.upd {p tm ck fm cp rp ex lk ss sl fd pw io cn pl sv st hf sp ho cs ic au nv sr up gz pr sf cy fr}
    (hp : p = x.pending) (h : Keeps b a x) (ht : tm.acc = x.time.acc := by rfl)
    (hb : sp.buffer = x.spi.buffer := by rfl) (hA : up.slotA = x.upd.slotA := by rfl) (hB : up.slotB = x.upd.slotB := by rfl)
    (hn : lk.near.length = x.links.near.length := by first | rfl | simp)
    (hf' : lk.far.length = x.links.far.length := by first | rfl | simp)
    (hc : cn.length = x.can.length := by first | rfl | simp)
    (hr : hf.rings.length = x.hif.rings.length := by first | rfl | simp)
    (hk : au.slots.length = x.auth.slots.length := by first | rfl | simp)
    (hs : sf.set = x.safe.set := by rfl) :
    Keeps b a (State.mk p tm ck fm cp rp ex lk ss sl fd pw io cn pl sv st hf sp ho cs ic au nv sr up gz pr sf cy fr) := by
  refine h.parts ?_ hp ?_ ?_ ?_ ?_ ?_ ?_ ?_ ?_ ?_
  · exact le_of_eq ht.symm
  all_goals intro h; try simp_all

/-- An update of the time. -/
theorem Keeps.updTime {p tm ck fm cp rp ex lk ss sl fd pw io cn pl sv st hf sp ho cs ic au nv sr up gz pr sf cy fr}
    (hp : p = x.pending) (h : Keeps b a x) (ht : x.time.acc ≤ tm.acc)
    (hb : sp.buffer = x.spi.buffer := by rfl) (hA : up.slotA = x.upd.slotA := by rfl) (hB : up.slotB = x.upd.slotB := by rfl)
    (hn : lk.near.length = x.links.near.length := by rfl) (hf' : lk.far.length = x.links.far.length := by rfl)
    (hc : cn.length = x.can.length := by rfl) (hr : hf.rings.length = x.hif.rings.length := by rfl)
    (hk : au.slots.length = x.auth.slots.length := by rfl)
    (hs : sf.set = x.safe.set := by rfl) :
    Keeps b a (State.mk p tm ck fm cp rp ex lk ss sl fd pw io cn pl sv st hf sp ho cs ic au nv sr up gz pr sf cy fr) := by
  refine h.parts ht hp ?_ ?_ ?_ ?_ ?_ ?_ ?_ ?_ ?_
  all_goals intro h; try simp_all

/-- A write into the SPI buffer. -/
theorem Keeps.updBuf {p tm ck fm cp rp ex lk ss sl fd pw io cn pl sv st hf sp ho cs ic au nv sr up gz pr sf cy fr}
    (hp : p = x.pending) (h : Keeps b a x) (hb : Memory.wf x.spi.buffer = true → Memory.wf sp.buffer = true) (ht : tm.acc = x.time.acc := by rfl)
    (hA : up.slotA = x.upd.slotA := by rfl) (hB : up.slotB = x.upd.slotB := by rfl)
    (hn : lk.near.length = x.links.near.length := by rfl) (hf' : lk.far.length = x.links.far.length := by rfl)
    (hc : cn.length = x.can.length := by rfl) (hr : hf.rings.length = x.hif.rings.length := by rfl)
    (hk : au.slots.length = x.auth.slots.length := by rfl)
    (hs : sf.set = x.safe.set := by rfl) :
    Keeps b a (State.mk p tm ck fm cp rp ex lk ss sl fd pw io cn pl sv st hf sp ho cs ic au nv sr up gz pr sf cy fr) := by
  refine h.parts (le_of_eq ht.symm) hp ?_ ?_ ?_ ?_ ?_ ?_ ?_ ?_ ?_
  all_goals intro h; try simp_all

/-- A write into an image slot. -/
theorem Keeps.updSlots {p tm ck fm cp rp ex lk ss sl fd pw io cn pl sv st hf sp ho cs ic au nv sr up gz pr sf cy fr}
    (hp : p = x.pending) (h : Keeps b a x) (hA : Memory.wf x.upd.slotA = true → Memory.wf up.slotA = true)
    (hB : Memory.wf x.upd.slotB = true → Memory.wf up.slotB = true) (ht : tm.acc = x.time.acc := by rfl)
    (hb : sp.buffer = x.spi.buffer := by rfl)
    (hn : lk.near.length = x.links.near.length := by rfl) (hf' : lk.far.length = x.links.far.length := by rfl)
    (hc : cn.length = x.can.length := by rfl) (hr : hf.rings.length = x.hif.rings.length := by rfl)
    (hk : au.slots.length = x.auth.slots.length := by rfl)
    (hs : sf.set = x.safe.set := by rfl) :
    Keeps b a (State.mk p tm ck fm cp rp ex lk ss sl fd pw io cn pl sv st hf sp ho cs ic au nv sr up gz pr sf cy fr) := by
  refine h.parts (le_of_eq ht.symm) hp ?_ ?_ ?_ ?_ ?_ ?_ ?_ ?_ ?_
  all_goals intro h; try simp_all

/-- An update that sets the safe-state line and looks at no other field. -/
theorem Keeps.updSet {p tm ck fm cp rp ex lk ss sl fd pw io cn pl sv st hf sp ho cs ic au nv sr up gz pr sf cy fr}
    (hp : p = x.pending) (h : Keeps b a x) (ht : tm.acc = x.time.acc := by rfl)
    (hb : sp.buffer = x.spi.buffer := by rfl) (hA : up.slotA = x.upd.slotA := by rfl) (hB : up.slotB = x.upd.slotB := by rfl)
    (hn : lk.near.length = x.links.near.length := by first | rfl | simp)
    (hf' : lk.far.length = x.links.far.length := by first | rfl | simp)
    (hc : cn.length = x.can.length := by first | rfl | simp)
    (hr : hf.rings.length = x.hif.rings.length := by first | rfl | simp)
    (hk : au.slots.length = x.auth.slots.length := by first | rfl | simp)
    (hs : sf.set = true := by rfl) :
    Keeps b a (State.mk p tm ck fm cp rp ex lk ss sl fd pw io cn pl sv st hf sp ho cs ic au nv sr up gz pr sf cy fr) := by
  refine h.parts ?_ hp ?_ ?_ ?_ ?_ ?_ ?_ ?_ ?_ (fun _ _ => hs)
  · exact le_of_eq ht.symm
  all_goals intro h; try simp_all

theorem Keeps.ite {c : Prop} [Decidable c] (hx : c → Keeps b a s) (hy : ¬c → Keeps b a x) : Keeps b a (if c then s else x) := by
  split
  exacts [hx ‹_›, hy ‹_›]

theorem Keeps.itePair {β : Type} {c : Prop} [Decidable c] {q r : State × β} (hx : c → Keeps b a q.1) (hy : ¬c → Keeps b a r.1) :
    Keeps b a (if c then q else r).1 := by
  split
  exacts [hx ‹_›, hy ‹_›]

theorem Keeps.iteNext {c : Prop} [Decidable c] {q r : Next} (hx : c → Keeps b a q.st) (hy : ¬c → Keeps b a r.st) :
    Keeps b a (if c then q else r).st := by
  split
  exacts [hx ‹_›, hy ‹_›]

end Sys2Proof.Machine
end

