-- ==== Sys2Proof/Laws/Link.lean ====
section
/-!
SUPPORT. Laws of the link frames: what a sender seals, a clean line delivers, and the receiver takes (01 R12-R15).
-/
namespace Sys2Proof.Machine

@[simp] theorem leBytes_length (n v : Nat) : (leBytes n v).length = n := by
  induction n generalizing v with
  | zero => rfl
  | succ n ih => simp [leBytes, ih]

@[simp] theorem padTo_length (n : Nat) (b : Bytes) : (padTo n b).length = n := by
  simp only [padTo, List.length_take, List.length_append, List.length_replicate]; omega

theorem linkBytes_length (h p : Nat) (b : Bytes) : (linkBytes h p b).length = 93 := by simp [linkBytes]

theorem crc16Bits_lt {c : Nat} (h : c < 2 ^ 16) (n : Nat) : crc16Bits n c < 2 ^ 16 := by
  induction n generalizing c with
  | zero => exact h
  | succ n ih =>
    simp only [crc16Bits]
    split
    · exact ih (Nat.xor_lt_two_pow (by omega) (by decide))
    · exact ih (by omega)

theorem crc16_lt (b : Bytes) : crc16 b < 2 ^ 16 := by
  suffices h : ∀ (b : Bytes) (c : Nat), c < 2 ^ 16 → b.foldl (fun c x => crc16Bits 8 (Nat.xor c (x.toNat * 256))) c < 2 ^ 16 from
    h b _ (by decide)
  intro b
  induction b with
  | nil => exact fun _ h => h
  | cons x r ih => exact fun c h => ih _ (crc16Bits_lt (Nat.xor_lt_two_pow h (by have := x.isLt; omega)) 8)

theorem flipBits_none (b : Bytes) : flipBits [] b = b := by
  have m : ∀ n, maskOf n (fun _ => false) = 0 := by
    intro n
    induction n with
    | zero => rfl
    | succ n ih => simp [maskOf, ih]
  simp [flipBits, m]

theorem linkHeader_lt {k : Nat} (hk : k < 4) (d s : Bool) (q : Nat) : linkHeader k d s q < 256 := by
  have := Nat.mod_lt q (show 16 > 0 by decide)
  cases d <;> cases s <;> simp only [linkHeader, b2n] <;> norm_num <;> omega

/-- The receiver's checks pass on a frame whose CRC its sender formed, on a clean line. -/
theorem linkGood_clean {k : Nat} (hk : k < 4) (d s : Bool) (q p : Nat) (b : Bytes) :
    linkGood k d cleanLine (linkBytes (linkHeader k d s q) p b ++ leBytes 2 (crc16 (linkBytes (linkHeader k d s q) p b))) = true := by
  have l := linkBytes_length (linkHeader k d s q) p b
  have c := crc16_lt (linkBytes (linkHeader k d s q) p b)
  have h := linkHeader_lt hk d s q
  have u : u8 (linkBytes (linkHeader k d s q) p b ++ leBytes 2 (crc16 (linkBytes (linkHeader k d s q) p b))) 0 = linkHeader k d s q := by
    simp [u8, slice, linkBytes, leBytes, leNat, Nat.mod_eq_of_lt h]
  have t : slice (linkBytes (linkHeader k d s q) p b ++ leBytes 2 (crc16 (linkBytes (linkHeader k d s q) p b))) 93 2 =
      leBytes 2 (crc16 (linkBytes (linkHeader k d s q) p b)) := by
    rw [slice, List.drop_append_of_le_length (by omega), List.drop_of_length_le (by omega), List.nil_append,
      List.take_of_length_le (by simp)]
  have n : leNat (leBytes 2 (crc16 (linkBytes (linkHeader k d s q) p b))) = crc16 (linkBytes (linkHeader k d s q) p b) := by
    simp only [leBytes, leNat, BitVec.toNat_ofNat]; omega
  have e : linkHeader k d s q / 64 = k ∧ bit (linkHeader k d s q) 5 = d := by
    have := Nat.mod_lt q (show 16 > 0 by decide)
    constructor
    · cases d <;> cases s <;> simp only [linkHeader, b2n] <;> norm_num <;> omega
    · cases d <;> cases s <;> simp only [linkHeader, b2n, bit] <;> norm_num <;> omega
  have w : (linkBytes (linkHeader k d s q) p b ++ leBytes 2 (crc16 (linkBytes (linkHeader k d s q) p b))).take 93 =
      linkBytes (linkHeader k d s q) p b := by
    rw [List.take_append_of_le_length (by omega), List.take_of_length_le (by omega)]
  rw [linkGood, u, t, n, w]
  simp [cleanLine, e]

/-- A receiver takes the frame that the sender sealed (01 R14, R15). -/
theorem outTaken_clean {k : Nat} (hk : k < 4) (f : OutFrame) : outTaken k cleanLine (sealOut k f) = some (sealOut k f) := by
  have g : outArrived k cleanLine (sealOut k f) = outBytes k f ++ leBytes 2 (crc16 (outBytes k f)) := flipBits_none _
  have h : linkGood k false cleanLine (outBytes k f ++ leBytes 2 (crc16 (outBytes k f))) = true := linkGood_clean hk ..
  rw [outTaken, g, if_pos h]; rfl

theorem inTaken_clean {k : Nat} (hk : k < 4) (f : InFrame) : inTaken k cleanLine (sealIn k f) = some (sealIn k f) := by
  have g : inArrived k cleanLine (sealIn k f) = inBytes k f ++ leBytes 2 (crc16 (inBytes k f)) := flipBits_none _
  have h : linkGood k true cleanLine (inBytes k f ++ leBytes 2 (crc16 (inBytes k f))) = true := linkGood_clean hk ..
  rw [inTaken, g, if_pos h]; rfl

end Sys2Proof.Machine
end

