-- ==== Sys2Proof/Laws/State.lean ====
section
/-!
SUPPORT. What each update of the state does to each field, one lemma per field and update, so that no proof unfolds a record update.
-/
namespace Sys2Proof.Machine

variable (s : State)

/-! One field takes a value. -/

theorem with_pending_time (v : List Instr) : (State.time { s with pending := v }) = s.time := rfl
theorem with_pending_clk (v : List Instr) : (State.clk { s with pending := v }) = s.clk := rfl
theorem with_pending_frm (v : List Instr) : (State.frm { s with pending := v }) = s.frm := rfl
theorem with_pending_cap (v : List Instr) : (State.cap { s with pending := v }) = s.cap := rfl
theorem with_pending_rpl (v : List Instr) : (State.rpl { s with pending := v }) = s.rpl := rfl
theorem with_pending_exch (v : List Instr) : (State.exch { s with pending := v }) = s.exch := rfl
theorem with_pending_links (v : List Instr) : (State.links { s with pending := v }) = s.links := rfl
theorem with_pending_sense (v : List Instr) : (State.sense { s with pending := v }) = s.sense := rfl
theorem with_pending_senLog (v : List Instr) : (State.senLog { s with pending := v }) = s.senLog := rfl
theorem with_pending_field (v : List Instr) : (State.field { s with pending := v }) = s.field := rfl
theorem with_pending_power (v : List Instr) : (State.power { s with pending := v }) = s.power := rfl
theorem with_pending_io (v : List Instr) : (State.io { s with pending := v }) = s.io := rfl
theorem with_pending_can (v : List Instr) : (State.can { s with pending := v }) = s.can := rfl
theorem with_pending_plant (v : List Instr) : (State.plant { s with pending := v }) = s.plant := rfl
theorem with_pending_svy (v : List Instr) : (State.svy { s with pending := v }) = s.svy := rfl
theorem with_pending_sto (v : List Instr) : (State.sto { s with pending := v }) = s.sto := rfl
theorem with_pending_hif (v : List Instr) : (State.hif { s with pending := v }) = s.hif := rfl
theorem with_pending_spi (v : List Instr) : (State.spi { s with pending := v }) = s.spi := rfl
theorem with_pending_host (v : List Instr) : (State.host { s with pending := v }) = s.host := rfl
theorem with_pending_cmds (v : List Instr) : (State.cmds { s with pending := v }) = s.cmds := rfl
theorem with_pending_ic (v : List Instr) : (State.ic { s with pending := v }) = s.ic := rfl
theorem with_pending_auth (v : List Instr) : (State.auth { s with pending := v }) = s.auth := rfl
theorem with_pending_nvs (v : List Instr) : (State.nvs { s with pending := v }) = s.nvs := rfl
theorem with_pending_store (v : List Instr) : (State.store { s with pending := v }) = s.store := rfl
theorem with_pending_upd (v : List Instr) : (State.upd { s with pending := v }) = s.upd := rfl
theorem with_pending_gaz (v : List Instr) : (State.gaz { s with pending := v }) = s.gaz := rfl
theorem with_pending_pwr (v : List Instr) : (State.pwr { s with pending := v }) = s.pwr := rfl
theorem with_pending_safe (v : List Instr) : (State.safe { s with pending := v }) = s.safe := rfl
theorem with_pending_free (v : List Instr) : (State.free { s with pending := v }) = s.free := rfl

theorem with_time_pending (v : Meridian) : (State.pending { s with time := v }) = s.pending := rfl
theorem with_time_clk (v : Meridian) : (State.clk { s with time := v }) = s.clk := rfl
theorem with_time_frm (v : Meridian) : (State.frm { s with time := v }) = s.frm := rfl
theorem with_time_cap (v : Meridian) : (State.cap { s with time := v }) = s.cap := rfl
theorem with_time_rpl (v : Meridian) : (State.rpl { s with time := v }) = s.rpl := rfl
theorem with_time_exch (v : Meridian) : (State.exch { s with time := v }) = s.exch := rfl
theorem with_time_links (v : Meridian) : (State.links { s with time := v }) = s.links := rfl
theorem with_time_sense (v : Meridian) : (State.sense { s with time := v }) = s.sense := rfl
theorem with_time_senLog (v : Meridian) : (State.senLog { s with time := v }) = s.senLog := rfl
theorem with_time_field (v : Meridian) : (State.field { s with time := v }) = s.field := rfl
theorem with_time_power (v : Meridian) : (State.power { s with time := v }) = s.power := rfl
theorem with_time_io (v : Meridian) : (State.io { s with time := v }) = s.io := rfl
theorem with_time_can (v : Meridian) : (State.can { s with time := v }) = s.can := rfl
theorem with_time_plant (v : Meridian) : (State.plant { s with time := v }) = s.plant := rfl
theorem with_time_svy (v : Meridian) : (State.svy { s with time := v }) = s.svy := rfl
theorem with_time_sto (v : Meridian) : (State.sto { s with time := v }) = s.sto := rfl
theorem with_time_hif (v : Meridian) : (State.hif { s with time := v }) = s.hif := rfl
theorem with_time_spi (v : Meridian) : (State.spi { s with time := v }) = s.spi := rfl
theorem with_time_host (v : Meridian) : (State.host { s with time := v }) = s.host := rfl
theorem with_time_cmds (v : Meridian) : (State.cmds { s with time := v }) = s.cmds := rfl
theorem with_time_ic (v : Meridian) : (State.ic { s with time := v }) = s.ic := rfl
theorem with_time_auth (v : Meridian) : (State.auth { s with time := v }) = s.auth := rfl
theorem with_time_nvs (v : Meridian) : (State.nvs { s with time := v }) = s.nvs := rfl
theorem with_time_store (v : Meridian) : (State.store { s with time := v }) = s.store := rfl
theorem with_time_upd (v : Meridian) : (State.upd { s with time := v }) = s.upd := rfl
theorem with_time_gaz (v : Meridian) : (State.gaz { s with time := v }) = s.gaz := rfl
theorem with_time_pwr (v : Meridian) : (State.pwr { s with time := v }) = s.pwr := rfl
theorem with_time_safe (v : Meridian) : (State.safe { s with time := v }) = s.safe := rfl
theorem with_time_free (v : Meridian) : (State.free { s with time := v }) = s.free := rfl

theorem with_free_pending (v : Nat) : (State.pending { s with free := v }) = s.pending := rfl
theorem with_free_time (v : Nat) : (State.time { s with free := v }) = s.time := rfl
theorem with_free_clk (v : Nat) : (State.clk { s with free := v }) = s.clk := rfl
theorem with_free_frm (v : Nat) : (State.frm { s with free := v }) = s.frm := rfl
theorem with_free_cap (v : Nat) : (State.cap { s with free := v }) = s.cap := rfl
theorem with_free_rpl (v : Nat) : (State.rpl { s with free := v }) = s.rpl := rfl
theorem with_free_exch (v : Nat) : (State.exch { s with free := v }) = s.exch := rfl
theorem with_free_links (v : Nat) : (State.links { s with free := v }) = s.links := rfl
theorem with_free_sense (v : Nat) : (State.sense { s with free := v }) = s.sense := rfl
theorem with_free_senLog (v : Nat) : (State.senLog { s with free := v }) = s.senLog := rfl
theorem with_free_field (v : Nat) : (State.field { s with free := v }) = s.field := rfl
theorem with_free_power (v : Nat) : (State.power { s with free := v }) = s.power := rfl
theorem with_free_io (v : Nat) : (State.io { s with free := v }) = s.io := rfl
theorem with_free_can (v : Nat) : (State.can { s with free := v }) = s.can := rfl
theorem with_free_plant (v : Nat) : (State.plant { s with free := v }) = s.plant := rfl
theorem with_free_svy (v : Nat) : (State.svy { s with free := v }) = s.svy := rfl
theorem with_free_sto (v : Nat) : (State.sto { s with free := v }) = s.sto := rfl
theorem with_free_hif (v : Nat) : (State.hif { s with free := v }) = s.hif := rfl
theorem with_free_spi (v : Nat) : (State.spi { s with free := v }) = s.spi := rfl
theorem with_free_host (v : Nat) : (State.host { s with free := v }) = s.host := rfl
theorem with_free_cmds (v : Nat) : (State.cmds { s with free := v }) = s.cmds := rfl
theorem with_free_ic (v : Nat) : (State.ic { s with free := v }) = s.ic := rfl
theorem with_free_auth (v : Nat) : (State.auth { s with free := v }) = s.auth := rfl
theorem with_free_nvs (v : Nat) : (State.nvs { s with free := v }) = s.nvs := rfl
theorem with_free_store (v : Nat) : (State.store { s with free := v }) = s.store := rfl
theorem with_free_upd (v : Nat) : (State.upd { s with free := v }) = s.upd := rfl
theorem with_free_gaz (v : Nat) : (State.gaz { s with free := v }) = s.gaz := rfl
theorem with_free_pwr (v : Nat) : (State.pwr { s with free := v }) = s.pwr := rfl
theorem with_free_safe (v : Nat) : (State.safe { s with free := v }) = s.safe := rfl

theorem with_host_pending (v : HostSide) : (State.pending { s with host := v }) = s.pending := rfl
theorem with_host_time (v : HostSide) : (State.time { s with host := v }) = s.time := rfl
theorem with_host_clk (v : HostSide) : (State.clk { s with host := v }) = s.clk := rfl
theorem with_host_frm (v : HostSide) : (State.frm { s with host := v }) = s.frm := rfl
theorem with_host_cap (v : HostSide) : (State.cap { s with host := v }) = s.cap := rfl
theorem with_host_rpl (v : HostSide) : (State.rpl { s with host := v }) = s.rpl := rfl
theorem with_host_exch (v : HostSide) : (State.exch { s with host := v }) = s.exch := rfl
theorem with_host_links (v : HostSide) : (State.links { s with host := v }) = s.links := rfl
theorem with_host_sense (v : HostSide) : (State.sense { s with host := v }) = s.sense := rfl
theorem with_host_senLog (v : HostSide) : (State.senLog { s with host := v }) = s.senLog := rfl
theorem with_host_field (v : HostSide) : (State.field { s with host := v }) = s.field := rfl
theorem with_host_power (v : HostSide) : (State.power { s with host := v }) = s.power := rfl
theorem with_host_io (v : HostSide) : (State.io { s with host := v }) = s.io := rfl
theorem with_host_can (v : HostSide) : (State.can { s with host := v }) = s.can := rfl
theorem with_host_plant (v : HostSide) : (State.plant { s with host := v }) = s.plant := rfl
theorem with_host_svy (v : HostSide) : (State.svy { s with host := v }) = s.svy := rfl
theorem with_host_sto (v : HostSide) : (State.sto { s with host := v }) = s.sto := rfl
theorem with_host_hif (v : HostSide) : (State.hif { s with host := v }) = s.hif := rfl
theorem with_host_spi (v : HostSide) : (State.spi { s with host := v }) = s.spi := rfl
theorem with_host_cmds (v : HostSide) : (State.cmds { s with host := v }) = s.cmds := rfl
theorem with_host_ic (v : HostSide) : (State.ic { s with host := v }) = s.ic := rfl
theorem with_host_auth (v : HostSide) : (State.auth { s with host := v }) = s.auth := rfl
theorem with_host_nvs (v : HostSide) : (State.nvs { s with host := v }) = s.nvs := rfl
theorem with_host_store (v : HostSide) : (State.store { s with host := v }) = s.store := rfl
theorem with_host_upd (v : HostSide) : (State.upd { s with host := v }) = s.upd := rfl
theorem with_host_gaz (v : HostSide) : (State.gaz { s with host := v }) = s.gaz := rfl
theorem with_host_pwr (v : HostSide) : (State.pwr { s with host := v }) = s.pwr := rfl
theorem with_host_safe (v : HostSide) : (State.safe { s with host := v }) = s.safe := rfl
theorem with_host_free (v : HostSide) : (State.free { s with host := v }) = s.free := rfl

theorem with_hif_pending (v : Hif) : (State.pending { s with hif := v }) = s.pending := rfl
theorem with_hif_time (v : Hif) : (State.time { s with hif := v }) = s.time := rfl
theorem with_hif_clk (v : Hif) : (State.clk { s with hif := v }) = s.clk := rfl
theorem with_hif_frm (v : Hif) : (State.frm { s with hif := v }) = s.frm := rfl
theorem with_hif_cap (v : Hif) : (State.cap { s with hif := v }) = s.cap := rfl
theorem with_hif_rpl (v : Hif) : (State.rpl { s with hif := v }) = s.rpl := rfl
theorem with_hif_exch (v : Hif) : (State.exch { s with hif := v }) = s.exch := rfl
theorem with_hif_links (v : Hif) : (State.links { s with hif := v }) = s.links := rfl
theorem with_hif_sense (v : Hif) : (State.sense { s with hif := v }) = s.sense := rfl
theorem with_hif_senLog (v : Hif) : (State.senLog { s with hif := v }) = s.senLog := rfl
theorem with_hif_field (v : Hif) : (State.field { s with hif := v }) = s.field := rfl
theorem with_hif_power (v : Hif) : (State.power { s with hif := v }) = s.power := rfl
theorem with_hif_io (v : Hif) : (State.io { s with hif := v }) = s.io := rfl
theorem with_hif_can (v : Hif) : (State.can { s with hif := v }) = s.can := rfl
theorem with_hif_plant (v : Hif) : (State.plant { s with hif := v }) = s.plant := rfl
theorem with_hif_svy (v : Hif) : (State.svy { s with hif := v }) = s.svy := rfl
theorem with_hif_sto (v : Hif) : (State.sto { s with hif := v }) = s.sto := rfl
theorem with_hif_spi (v : Hif) : (State.spi { s with hif := v }) = s.spi := rfl
theorem with_hif_host (v : Hif) : (State.host { s with hif := v }) = s.host := rfl
theorem with_hif_cmds (v : Hif) : (State.cmds { s with hif := v }) = s.cmds := rfl
theorem with_hif_ic (v : Hif) : (State.ic { s with hif := v }) = s.ic := rfl
theorem with_hif_auth (v : Hif) : (State.auth { s with hif := v }) = s.auth := rfl
theorem with_hif_nvs (v : Hif) : (State.nvs { s with hif := v }) = s.nvs := rfl
theorem with_hif_store (v : Hif) : (State.store { s with hif := v }) = s.store := rfl
theorem with_hif_upd (v : Hif) : (State.upd { s with hif := v }) = s.upd := rfl
theorem with_hif_gaz (v : Hif) : (State.gaz { s with hif := v }) = s.gaz := rfl
theorem with_hif_pwr (v : Hif) : (State.pwr { s with hif := v }) = s.pwr := rfl
theorem with_hif_safe (v : Hif) : (State.safe { s with hif := v }) = s.safe := rfl
theorem with_hif_free (v : Hif) : (State.free { s with hif := v }) = s.free := rfl

theorem with_links_pending (v : Links) : (State.pending { s with links := v }) = s.pending := rfl
theorem with_links_time (v : Links) : (State.time { s with links := v }) = s.time := rfl
theorem with_links_clk (v : Links) : (State.clk { s with links := v }) = s.clk := rfl
theorem with_links_frm (v : Links) : (State.frm { s with links := v }) = s.frm := rfl
theorem with_links_cap (v : Links) : (State.cap { s with links := v }) = s.cap := rfl
theorem with_links_rpl (v : Links) : (State.rpl { s with links := v }) = s.rpl := rfl
theorem with_links_exch (v : Links) : (State.exch { s with links := v }) = s.exch := rfl
theorem with_links_sense (v : Links) : (State.sense { s with links := v }) = s.sense := rfl
theorem with_links_senLog (v : Links) : (State.senLog { s with links := v }) = s.senLog := rfl
theorem with_links_field (v : Links) : (State.field { s with links := v }) = s.field := rfl
theorem with_links_power (v : Links) : (State.power { s with links := v }) = s.power := rfl
theorem with_links_io (v : Links) : (State.io { s with links := v }) = s.io := rfl
theorem with_links_can (v : Links) : (State.can { s with links := v }) = s.can := rfl
theorem with_links_plant (v : Links) : (State.plant { s with links := v }) = s.plant := rfl
theorem with_links_svy (v : Links) : (State.svy { s with links := v }) = s.svy := rfl
theorem with_links_sto (v : Links) : (State.sto { s with links := v }) = s.sto := rfl
theorem with_links_hif (v : Links) : (State.hif { s with links := v }) = s.hif := rfl
theorem with_links_spi (v : Links) : (State.spi { s with links := v }) = s.spi := rfl
theorem with_links_host (v : Links) : (State.host { s with links := v }) = s.host := rfl
theorem with_links_cmds (v : Links) : (State.cmds { s with links := v }) = s.cmds := rfl
theorem with_links_ic (v : Links) : (State.ic { s with links := v }) = s.ic := rfl
theorem with_links_auth (v : Links) : (State.auth { s with links := v }) = s.auth := rfl
theorem with_links_nvs (v : Links) : (State.nvs { s with links := v }) = s.nvs := rfl
theorem with_links_store (v : Links) : (State.store { s with links := v }) = s.store := rfl
theorem with_links_upd (v : Links) : (State.upd { s with links := v }) = s.upd := rfl
theorem with_links_gaz (v : Links) : (State.gaz { s with links := v }) = s.gaz := rfl
theorem with_links_pwr (v : Links) : (State.pwr { s with links := v }) = s.pwr := rfl
theorem with_links_safe (v : Links) : (State.safe { s with links := v }) = s.safe := rfl
theorem with_links_free (v : Links) : (State.free { s with links := v }) = s.free := rfl

theorem with_can_pending (v : List CanCh) : (State.pending { s with can := v }) = s.pending := rfl
theorem with_can_time (v : List CanCh) : (State.time { s with can := v }) = s.time := rfl
theorem with_can_clk (v : List CanCh) : (State.clk { s with can := v }) = s.clk := rfl
theorem with_can_frm (v : List CanCh) : (State.frm { s with can := v }) = s.frm := rfl
theorem with_can_cap (v : List CanCh) : (State.cap { s with can := v }) = s.cap := rfl
theorem with_can_rpl (v : List CanCh) : (State.rpl { s with can := v }) = s.rpl := rfl
theorem with_can_exch (v : List CanCh) : (State.exch { s with can := v }) = s.exch := rfl
theorem with_can_links (v : List CanCh) : (State.links { s with can := v }) = s.links := rfl
theorem with_can_sense (v : List CanCh) : (State.sense { s with can := v }) = s.sense := rfl
theorem with_can_senLog (v : List CanCh) : (State.senLog { s with can := v }) = s.senLog := rfl
theorem with_can_field (v : List CanCh) : (State.field { s with can := v }) = s.field := rfl
theorem with_can_power (v : List CanCh) : (State.power { s with can := v }) = s.power := rfl
theorem with_can_io (v : List CanCh) : (State.io { s with can := v }) = s.io := rfl
theorem with_can_plant (v : List CanCh) : (State.plant { s with can := v }) = s.plant := rfl
theorem with_can_svy (v : List CanCh) : (State.svy { s with can := v }) = s.svy := rfl
theorem with_can_sto (v : List CanCh) : (State.sto { s with can := v }) = s.sto := rfl
theorem with_can_hif (v : List CanCh) : (State.hif { s with can := v }) = s.hif := rfl
theorem with_can_spi (v : List CanCh) : (State.spi { s with can := v }) = s.spi := rfl
theorem with_can_host (v : List CanCh) : (State.host { s with can := v }) = s.host := rfl
theorem with_can_cmds (v : List CanCh) : (State.cmds { s with can := v }) = s.cmds := rfl
theorem with_can_ic (v : List CanCh) : (State.ic { s with can := v }) = s.ic := rfl
theorem with_can_auth (v : List CanCh) : (State.auth { s with can := v }) = s.auth := rfl
theorem with_can_nvs (v : List CanCh) : (State.nvs { s with can := v }) = s.nvs := rfl
theorem with_can_store (v : List CanCh) : (State.store { s with can := v }) = s.store := rfl
theorem with_can_upd (v : List CanCh) : (State.upd { s with can := v }) = s.upd := rfl
theorem with_can_gaz (v : List CanCh) : (State.gaz { s with can := v }) = s.gaz := rfl
theorem with_can_pwr (v : List CanCh) : (State.pwr { s with can := v }) = s.pwr := rfl
theorem with_can_safe (v : List CanCh) : (State.safe { s with can := v }) = s.safe := rfl
theorem with_can_free (v : List CanCh) : (State.free { s with can := v }) = s.free := rfl

theorem with_auth_pending (v : Auth) : (State.pending { s with auth := v }) = s.pending := rfl
theorem with_auth_time (v : Auth) : (State.time { s with auth := v }) = s.time := rfl
theorem with_auth_clk (v : Auth) : (State.clk { s with auth := v }) = s.clk := rfl
theorem with_auth_frm (v : Auth) : (State.frm { s with auth := v }) = s.frm := rfl
theorem with_auth_cap (v : Auth) : (State.cap { s with auth := v }) = s.cap := rfl
theorem with_auth_rpl (v : Auth) : (State.rpl { s with auth := v }) = s.rpl := rfl
theorem with_auth_exch (v : Auth) : (State.exch { s with auth := v }) = s.exch := rfl
theorem with_auth_links (v : Auth) : (State.links { s with auth := v }) = s.links := rfl
theorem with_auth_sense (v : Auth) : (State.sense { s with auth := v }) = s.sense := rfl
theorem with_auth_senLog (v : Auth) : (State.senLog { s with auth := v }) = s.senLog := rfl
theorem with_auth_field (v : Auth) : (State.field { s with auth := v }) = s.field := rfl
theorem with_auth_power (v : Auth) : (State.power { s with auth := v }) = s.power := rfl
theorem with_auth_io (v : Auth) : (State.io { s with auth := v }) = s.io := rfl
theorem with_auth_can (v : Auth) : (State.can { s with auth := v }) = s.can := rfl
theorem with_auth_plant (v : Auth) : (State.plant { s with auth := v }) = s.plant := rfl
theorem with_auth_svy (v : Auth) : (State.svy { s with auth := v }) = s.svy := rfl
theorem with_auth_sto (v : Auth) : (State.sto { s with auth := v }) = s.sto := rfl
theorem with_auth_hif (v : Auth) : (State.hif { s with auth := v }) = s.hif := rfl
theorem with_auth_spi (v : Auth) : (State.spi { s with auth := v }) = s.spi := rfl
theorem with_auth_host (v : Auth) : (State.host { s with auth := v }) = s.host := rfl
theorem with_auth_cmds (v : Auth) : (State.cmds { s with auth := v }) = s.cmds := rfl
theorem with_auth_ic (v : Auth) : (State.ic { s with auth := v }) = s.ic := rfl
theorem with_auth_nvs (v : Auth) : (State.nvs { s with auth := v }) = s.nvs := rfl
theorem with_auth_store (v : Auth) : (State.store { s with auth := v }) = s.store := rfl
theorem with_auth_upd (v : Auth) : (State.upd { s with auth := v }) = s.upd := rfl
theorem with_auth_gaz (v : Auth) : (State.gaz { s with auth := v }) = s.gaz := rfl
theorem with_auth_pwr (v : Auth) : (State.pwr { s with auth := v }) = s.pwr := rfl
theorem with_auth_safe (v : Auth) : (State.safe { s with auth := v }) = s.safe := rfl
theorem with_auth_free (v : Auth) : (State.free { s with auth := v }) = s.free := rfl

theorem with_plant_pending (v : Plant) : (State.pending { s with plant := v }) = s.pending := rfl
theorem with_plant_time (v : Plant) : (State.time { s with plant := v }) = s.time := rfl
theorem with_plant_clk (v : Plant) : (State.clk { s with plant := v }) = s.clk := rfl
theorem with_plant_frm (v : Plant) : (State.frm { s with plant := v }) = s.frm := rfl
theorem with_plant_cap (v : Plant) : (State.cap { s with plant := v }) = s.cap := rfl
theorem with_plant_rpl (v : Plant) : (State.rpl { s with plant := v }) = s.rpl := rfl
theorem with_plant_exch (v : Plant) : (State.exch { s with plant := v }) = s.exch := rfl
theorem with_plant_links (v : Plant) : (State.links { s with plant := v }) = s.links := rfl
theorem with_plant_sense (v : Plant) : (State.sense { s with plant := v }) = s.sense := rfl
theorem with_plant_senLog (v : Plant) : (State.senLog { s with plant := v }) = s.senLog := rfl
theorem with_plant_field (v : Plant) : (State.field { s with plant := v }) = s.field := rfl
theorem with_plant_power (v : Plant) : (State.power { s with plant := v }) = s.power := rfl
theorem with_plant_io (v : Plant) : (State.io { s with plant := v }) = s.io := rfl
theorem with_plant_can (v : Plant) : (State.can { s with plant := v }) = s.can := rfl
theorem with_plant_svy (v : Plant) : (State.svy { s with plant := v }) = s.svy := rfl
theorem with_plant_sto (v : Plant) : (State.sto { s with plant := v }) = s.sto := rfl
theorem with_plant_hif (v : Plant) : (State.hif { s with plant := v }) = s.hif := rfl
theorem with_plant_spi (v : Plant) : (State.spi { s with plant := v }) = s.spi := rfl
theorem with_plant_host (v : Plant) : (State.host { s with plant := v }) = s.host := rfl
theorem with_plant_cmds (v : Plant) : (State.cmds { s with plant := v }) = s.cmds := rfl
theorem with_plant_ic (v : Plant) : (State.ic { s with plant := v }) = s.ic := rfl
theorem with_plant_auth (v : Plant) : (State.auth { s with plant := v }) = s.auth := rfl
theorem with_plant_nvs (v : Plant) : (State.nvs { s with plant := v }) = s.nvs := rfl
theorem with_plant_store (v : Plant) : (State.store { s with plant := v }) = s.store := rfl
theorem with_plant_upd (v : Plant) : (State.upd { s with plant := v }) = s.upd := rfl
theorem with_plant_gaz (v : Plant) : (State.gaz { s with plant := v }) = s.gaz := rfl
theorem with_plant_pwr (v : Plant) : (State.pwr { s with plant := v }) = s.pwr := rfl
theorem with_plant_safe (v : Plant) : (State.safe { s with plant := v }) = s.safe := rfl
theorem with_plant_free (v : Plant) : (State.free { s with plant := v }) = s.free := rfl

theorem with_field_pending (v : FieldLog) : (State.pending { s with field := v }) = s.pending := rfl
theorem with_field_time (v : FieldLog) : (State.time { s with field := v }) = s.time := rfl
theorem with_field_clk (v : FieldLog) : (State.clk { s with field := v }) = s.clk := rfl
theorem with_field_frm (v : FieldLog) : (State.frm { s with field := v }) = s.frm := rfl
theorem with_field_cap (v : FieldLog) : (State.cap { s with field := v }) = s.cap := rfl
theorem with_field_rpl (v : FieldLog) : (State.rpl { s with field := v }) = s.rpl := rfl
theorem with_field_exch (v : FieldLog) : (State.exch { s with field := v }) = s.exch := rfl
theorem with_field_links (v : FieldLog) : (State.links { s with field := v }) = s.links := rfl
theorem with_field_sense (v : FieldLog) : (State.sense { s with field := v }) = s.sense := rfl
theorem with_field_senLog (v : FieldLog) : (State.senLog { s with field := v }) = s.senLog := rfl
theorem with_field_power (v : FieldLog) : (State.power { s with field := v }) = s.power := rfl
theorem with_field_io (v : FieldLog) : (State.io { s with field := v }) = s.io := rfl
theorem with_field_can (v : FieldLog) : (State.can { s with field := v }) = s.can := rfl
theorem with_field_plant (v : FieldLog) : (State.plant { s with field := v }) = s.plant := rfl
theorem with_field_svy (v : FieldLog) : (State.svy { s with field := v }) = s.svy := rfl
theorem with_field_sto (v : FieldLog) : (State.sto { s with field := v }) = s.sto := rfl
theorem with_field_hif (v : FieldLog) : (State.hif { s with field := v }) = s.hif := rfl
theorem with_field_spi (v : FieldLog) : (State.spi { s with field := v }) = s.spi := rfl
theorem with_field_host (v : FieldLog) : (State.host { s with field := v }) = s.host := rfl
theorem with_field_cmds (v : FieldLog) : (State.cmds { s with field := v }) = s.cmds := rfl
theorem with_field_ic (v : FieldLog) : (State.ic { s with field := v }) = s.ic := rfl
theorem with_field_auth (v : FieldLog) : (State.auth { s with field := v }) = s.auth := rfl
theorem with_field_nvs (v : FieldLog) : (State.nvs { s with field := v }) = s.nvs := rfl
theorem with_field_store (v : FieldLog) : (State.store { s with field := v }) = s.store := rfl
theorem with_field_upd (v : FieldLog) : (State.upd { s with field := v }) = s.upd := rfl
theorem with_field_gaz (v : FieldLog) : (State.gaz { s with field := v }) = s.gaz := rfl
theorem with_field_pwr (v : FieldLog) : (State.pwr { s with field := v }) = s.pwr := rfl
theorem with_field_safe (v : FieldLog) : (State.safe { s with field := v }) = s.safe := rfl
theorem with_field_free (v : FieldLog) : (State.free { s with field := v }) = s.free := rfl

theorem with_gaz_pending (v : Gaz) : (State.pending { s with gaz := v }) = s.pending := rfl
theorem with_gaz_time (v : Gaz) : (State.time { s with gaz := v }) = s.time := rfl
theorem with_gaz_clk (v : Gaz) : (State.clk { s with gaz := v }) = s.clk := rfl
theorem with_gaz_frm (v : Gaz) : (State.frm { s with gaz := v }) = s.frm := rfl
theorem with_gaz_cap (v : Gaz) : (State.cap { s with gaz := v }) = s.cap := rfl
theorem with_gaz_rpl (v : Gaz) : (State.rpl { s with gaz := v }) = s.rpl := rfl
theorem with_gaz_exch (v : Gaz) : (State.exch { s with gaz := v }) = s.exch := rfl
theorem with_gaz_links (v : Gaz) : (State.links { s with gaz := v }) = s.links := rfl
theorem with_gaz_sense (v : Gaz) : (State.sense { s with gaz := v }) = s.sense := rfl
theorem with_gaz_senLog (v : Gaz) : (State.senLog { s with gaz := v }) = s.senLog := rfl
theorem with_gaz_field (v : Gaz) : (State.field { s with gaz := v }) = s.field := rfl
theorem with_gaz_power (v : Gaz) : (State.power { s with gaz := v }) = s.power := rfl
theorem with_gaz_io (v : Gaz) : (State.io { s with gaz := v }) = s.io := rfl
theorem with_gaz_can (v : Gaz) : (State.can { s with gaz := v }) = s.can := rfl
theorem with_gaz_plant (v : Gaz) : (State.plant { s with gaz := v }) = s.plant := rfl
theorem with_gaz_svy (v : Gaz) : (State.svy { s with gaz := v }) = s.svy := rfl
theorem with_gaz_sto (v : Gaz) : (State.sto { s with gaz := v }) = s.sto := rfl
theorem with_gaz_hif (v : Gaz) : (State.hif { s with gaz := v }) = s.hif := rfl
theorem with_gaz_spi (v : Gaz) : (State.spi { s with gaz := v }) = s.spi := rfl
theorem with_gaz_host (v : Gaz) : (State.host { s with gaz := v }) = s.host := rfl
theorem with_gaz_cmds (v : Gaz) : (State.cmds { s with gaz := v }) = s.cmds := rfl
theorem with_gaz_ic (v : Gaz) : (State.ic { s with gaz := v }) = s.ic := rfl
theorem with_gaz_auth (v : Gaz) : (State.auth { s with gaz := v }) = s.auth := rfl
theorem with_gaz_nvs (v : Gaz) : (State.nvs { s with gaz := v }) = s.nvs := rfl
theorem with_gaz_store (v : Gaz) : (State.store { s with gaz := v }) = s.store := rfl
theorem with_gaz_upd (v : Gaz) : (State.upd { s with gaz := v }) = s.upd := rfl
theorem with_gaz_pwr (v : Gaz) : (State.pwr { s with gaz := v }) = s.pwr := rfl
theorem with_gaz_safe (v : Gaz) : (State.safe { s with gaz := v }) = s.safe := rfl
theorem with_gaz_free (v : Gaz) : (State.free { s with gaz := v }) = s.free := rfl

theorem with_sense_pending (v : SenseSt) : (State.pending { s with sense := v }) = s.pending := rfl
theorem with_sense_time (v : SenseSt) : (State.time { s with sense := v }) = s.time := rfl
theorem with_sense_clk (v : SenseSt) : (State.clk { s with sense := v }) = s.clk := rfl
theorem with_sense_frm (v : SenseSt) : (State.frm { s with sense := v }) = s.frm := rfl
theorem with_sense_cap (v : SenseSt) : (State.cap { s with sense := v }) = s.cap := rfl
theorem with_sense_rpl (v : SenseSt) : (State.rpl { s with sense := v }) = s.rpl := rfl
theorem with_sense_exch (v : SenseSt) : (State.exch { s with sense := v }) = s.exch := rfl
theorem with_sense_links (v : SenseSt) : (State.links { s with sense := v }) = s.links := rfl
theorem with_sense_senLog (v : SenseSt) : (State.senLog { s with sense := v }) = s.senLog := rfl
theorem with_sense_field (v : SenseSt) : (State.field { s with sense := v }) = s.field := rfl
theorem with_sense_power (v : SenseSt) : (State.power { s with sense := v }) = s.power := rfl
theorem with_sense_io (v : SenseSt) : (State.io { s with sense := v }) = s.io := rfl
theorem with_sense_can (v : SenseSt) : (State.can { s with sense := v }) = s.can := rfl
theorem with_sense_plant (v : SenseSt) : (State.plant { s with sense := v }) = s.plant := rfl
theorem with_sense_svy (v : SenseSt) : (State.svy { s with sense := v }) = s.svy := rfl
theorem with_sense_sto (v : SenseSt) : (State.sto { s with sense := v }) = s.sto := rfl
theorem with_sense_hif (v : SenseSt) : (State.hif { s with sense := v }) = s.hif := rfl
theorem with_sense_spi (v : SenseSt) : (State.spi { s with sense := v }) = s.spi := rfl
theorem with_sense_host (v : SenseSt) : (State.host { s with sense := v }) = s.host := rfl
theorem with_sense_cmds (v : SenseSt) : (State.cmds { s with sense := v }) = s.cmds := rfl
theorem with_sense_ic (v : SenseSt) : (State.ic { s with sense := v }) = s.ic := rfl
theorem with_sense_auth (v : SenseSt) : (State.auth { s with sense := v }) = s.auth := rfl
theorem with_sense_nvs (v : SenseSt) : (State.nvs { s with sense := v }) = s.nvs := rfl
theorem with_sense_store (v : SenseSt) : (State.store { s with sense := v }) = s.store := rfl
theorem with_sense_upd (v : SenseSt) : (State.upd { s with sense := v }) = s.upd := rfl
theorem with_sense_gaz (v : SenseSt) : (State.gaz { s with sense := v }) = s.gaz := rfl
theorem with_sense_pwr (v : SenseSt) : (State.pwr { s with sense := v }) = s.pwr := rfl
theorem with_sense_safe (v : SenseSt) : (State.safe { s with sense := v }) = s.safe := rfl
theorem with_sense_free (v : SenseSt) : (State.free { s with sense := v }) = s.free := rfl

theorem with_spi_pending (v : Spi) : (State.pending { s with spi := v }) = s.pending := rfl
theorem with_spi_time (v : Spi) : (State.time { s with spi := v }) = s.time := rfl
theorem with_spi_clk (v : Spi) : (State.clk { s with spi := v }) = s.clk := rfl
theorem with_spi_frm (v : Spi) : (State.frm { s with spi := v }) = s.frm := rfl
theorem with_spi_cap (v : Spi) : (State.cap { s with spi := v }) = s.cap := rfl
theorem with_spi_rpl (v : Spi) : (State.rpl { s with spi := v }) = s.rpl := rfl
theorem with_spi_exch (v : Spi) : (State.exch { s with spi := v }) = s.exch := rfl
theorem with_spi_links (v : Spi) : (State.links { s with spi := v }) = s.links := rfl
theorem with_spi_sense (v : Spi) : (State.sense { s with spi := v }) = s.sense := rfl
theorem with_spi_senLog (v : Spi) : (State.senLog { s with spi := v }) = s.senLog := rfl
theorem with_spi_field (v : Spi) : (State.field { s with spi := v }) = s.field := rfl
theorem with_spi_power (v : Spi) : (State.power { s with spi := v }) = s.power := rfl
theorem with_spi_io (v : Spi) : (State.io { s with spi := v }) = s.io := rfl
theorem with_spi_can (v : Spi) : (State.can { s with spi := v }) = s.can := rfl
theorem with_spi_plant (v : Spi) : (State.plant { s with spi := v }) = s.plant := rfl
theorem with_spi_svy (v : Spi) : (State.svy { s with spi := v }) = s.svy := rfl
theorem with_spi_sto (v : Spi) : (State.sto { s with spi := v }) = s.sto := rfl
theorem with_spi_hif (v : Spi) : (State.hif { s with spi := v }) = s.hif := rfl
theorem with_spi_host (v : Spi) : (State.host { s with spi := v }) = s.host := rfl
theorem with_spi_cmds (v : Spi) : (State.cmds { s with spi := v }) = s.cmds := rfl
theorem with_spi_ic (v : Spi) : (State.ic { s with spi := v }) = s.ic := rfl
theorem with_spi_auth (v : Spi) : (State.auth { s with spi := v }) = s.auth := rfl
theorem with_spi_nvs (v : Spi) : (State.nvs { s with spi := v }) = s.nvs := rfl
theorem with_spi_store (v : Spi) : (State.store { s with spi := v }) = s.store := rfl
theorem with_spi_upd (v : Spi) : (State.upd { s with spi := v }) = s.upd := rfl
theorem with_spi_gaz (v : Spi) : (State.gaz { s with spi := v }) = s.gaz := rfl
theorem with_spi_pwr (v : Spi) : (State.pwr { s with spi := v }) = s.pwr := rfl
theorem with_spi_safe (v : Spi) : (State.safe { s with spi := v }) = s.safe := rfl
theorem with_spi_free (v : Spi) : (State.free { s with spi := v }) = s.free := rfl

/-! The updates by name. -/

@[simp] theorem popped_pending (rest : List Instr) : (s.popped rest).pending = rest := rfl
@[simp] theorem popped_time (rest : List Instr) : (s.popped rest).time = s.time := with_pending_time s _
@[simp] theorem popped_clk (rest : List Instr) : (s.popped rest).clk = s.clk := with_pending_clk s _
@[simp] theorem popped_frm (rest : List Instr) : (s.popped rest).frm = s.frm := with_pending_frm s _
@[simp] theorem popped_cap (rest : List Instr) : (s.popped rest).cap = s.cap := with_pending_cap s _
@[simp] theorem popped_rpl (rest : List Instr) : (s.popped rest).rpl = s.rpl := with_pending_rpl s _
@[simp] theorem popped_exch (rest : List Instr) : (s.popped rest).exch = s.exch := with_pending_exch s _
@[simp] theorem popped_links (rest : List Instr) : (s.popped rest).links = s.links := with_pending_links s _
@[simp] theorem popped_sense (rest : List Instr) : (s.popped rest).sense = s.sense := with_pending_sense s _
@[simp] theorem popped_senLog (rest : List Instr) : (s.popped rest).senLog = s.senLog := with_pending_senLog s _
@[simp] theorem popped_field (rest : List Instr) : (s.popped rest).field = s.field := with_pending_field s _
@[simp] theorem popped_power (rest : List Instr) : (s.popped rest).power = s.power := with_pending_power s _
@[simp] theorem popped_io (rest : List Instr) : (s.popped rest).io = s.io := with_pending_io s _
@[simp] theorem popped_can (rest : List Instr) : (s.popped rest).can = s.can := with_pending_can s _
@[simp] theorem popped_plant (rest : List Instr) : (s.popped rest).plant = s.plant := with_pending_plant s _
@[simp] theorem popped_svy (rest : List Instr) : (s.popped rest).svy = s.svy := with_pending_svy s _
@[simp] theorem popped_sto (rest : List Instr) : (s.popped rest).sto = s.sto := with_pending_sto s _
@[simp] theorem popped_hif (rest : List Instr) : (s.popped rest).hif = s.hif := with_pending_hif s _
@[simp] theorem popped_spi (rest : List Instr) : (s.popped rest).spi = s.spi := with_pending_spi s _
@[simp] theorem popped_host (rest : List Instr) : (s.popped rest).host = s.host := with_pending_host s _
@[simp] theorem popped_cmds (rest : List Instr) : (s.popped rest).cmds = s.cmds := with_pending_cmds s _
@[simp] theorem popped_ic (rest : List Instr) : (s.popped rest).ic = s.ic := with_pending_ic s _
@[simp] theorem popped_auth (rest : List Instr) : (s.popped rest).auth = s.auth := with_pending_auth s _
@[simp] theorem popped_nvs (rest : List Instr) : (s.popped rest).nvs = s.nvs := with_pending_nvs s _
@[simp] theorem popped_store (rest : List Instr) : (s.popped rest).store = s.store := with_pending_store s _
@[simp] theorem popped_upd (rest : List Instr) : (s.popped rest).upd = s.upd := with_pending_upd s _
@[simp] theorem popped_gaz (rest : List Instr) : (s.popped rest).gaz = s.gaz := with_pending_gaz s _
@[simp] theorem popped_pwr (rest : List Instr) : (s.popped rest).pwr = s.pwr := with_pending_pwr s _
@[simp] theorem popped_safe (rest : List Instr) : (s.popped rest).safe = s.safe := with_pending_safe s _
@[simp] theorem popped_free (rest : List Instr) : (s.popped rest).free = s.free := with_pending_free s _

@[simp] theorem advance_pending (t : Nat) : (advance t s).pending = s.pending := with_time_pending s _
@[simp] theorem advance_time (t : Nat) : (advance t s).time = { s.time with acc := if s.pwr.ao then accTo t s.time else s.time.acc } := rfl
@[simp] theorem advance_clk (t : Nat) : (advance t s).clk = s.clk := with_time_clk s _
@[simp] theorem advance_frm (t : Nat) : (advance t s).frm = s.frm := with_time_frm s _
@[simp] theorem advance_cap (t : Nat) : (advance t s).cap = s.cap := with_time_cap s _
@[simp] theorem advance_rpl (t : Nat) : (advance t s).rpl = s.rpl := with_time_rpl s _
@[simp] theorem advance_exch (t : Nat) : (advance t s).exch = s.exch := with_time_exch s _
@[simp] theorem advance_links (t : Nat) : (advance t s).links = s.links := with_time_links s _
@[simp] theorem advance_sense (t : Nat) : (advance t s).sense = s.sense := with_time_sense s _
@[simp] theorem advance_senLog (t : Nat) : (advance t s).senLog = s.senLog := with_time_senLog s _
@[simp] theorem advance_field (t : Nat) : (advance t s).field = s.field := with_time_field s _
@[simp] theorem advance_power (t : Nat) : (advance t s).power = s.power := with_time_power s _
@[simp] theorem advance_io (t : Nat) : (advance t s).io = s.io := with_time_io s _
@[simp] theorem advance_can (t : Nat) : (advance t s).can = s.can := with_time_can s _
@[simp] theorem advance_plant (t : Nat) : (advance t s).plant = s.plant := with_time_plant s _
@[simp] theorem advance_svy (t : Nat) : (advance t s).svy = s.svy := with_time_svy s _
@[simp] theorem advance_sto (t : Nat) : (advance t s).sto = s.sto := with_time_sto s _
@[simp] theorem advance_hif (t : Nat) : (advance t s).hif = s.hif := with_time_hif s _
@[simp] theorem advance_spi (t : Nat) : (advance t s).spi = s.spi := with_time_spi s _
@[simp] theorem advance_host (t : Nat) : (advance t s).host = s.host := with_time_host s _
@[simp] theorem advance_cmds (t : Nat) : (advance t s).cmds = s.cmds := with_time_cmds s _
@[simp] theorem advance_ic (t : Nat) : (advance t s).ic = s.ic := with_time_ic s _
@[simp] theorem advance_auth (t : Nat) : (advance t s).auth = s.auth := with_time_auth s _
@[simp] theorem advance_nvs (t : Nat) : (advance t s).nvs = s.nvs := with_time_nvs s _
@[simp] theorem advance_store (t : Nat) : (advance t s).store = s.store := with_time_store s _
@[simp] theorem advance_upd (t : Nat) : (advance t s).upd = s.upd := with_time_upd s _
@[simp] theorem advance_gaz (t : Nat) : (advance t s).gaz = s.gaz := with_time_gaz s _
@[simp] theorem advance_pwr (t : Nat) : (advance t s).pwr = s.pwr := with_time_pwr s _
@[simp] theorem advance_safe (t : Nat) : (advance t s).safe = s.safe := with_time_safe s _
@[simp] theorem advance_free (t : Nat) : (advance t s).free = s.free := with_time_free s _

@[simp] theorem idle_pending : (idle s).pending = s.pending := with_time_pending s _
@[simp] theorem idle_time : (idle s).time = if s.pwr.ao then oneCycle s.time else s.time := rfl
@[simp] theorem idle_clk : (idle s).clk = s.clk := with_time_clk s _
@[simp] theorem idle_frm : (idle s).frm = s.frm := with_time_frm s _
@[simp] theorem idle_cap : (idle s).cap = s.cap := with_time_cap s _
@[simp] theorem idle_rpl : (idle s).rpl = s.rpl := with_time_rpl s _
@[simp] theorem idle_exch : (idle s).exch = s.exch := with_time_exch s _
@[simp] theorem idle_links : (idle s).links = s.links := with_time_links s _
@[simp] theorem idle_sense : (idle s).sense = s.sense := with_time_sense s _
@[simp] theorem idle_senLog : (idle s).senLog = s.senLog := with_time_senLog s _
@[simp] theorem idle_field : (idle s).field = s.field := with_time_field s _
@[simp] theorem idle_power : (idle s).power = s.power := with_time_power s _
@[simp] theorem idle_io : (idle s).io = s.io := with_time_io s _
@[simp] theorem idle_can : (idle s).can = s.can := with_time_can s _
@[simp] theorem idle_plant : (idle s).plant = s.plant := with_time_plant s _
@[simp] theorem idle_svy : (idle s).svy = s.svy := with_time_svy s _
@[simp] theorem idle_sto : (idle s).sto = s.sto := with_time_sto s _
@[simp] theorem idle_hif : (idle s).hif = s.hif := with_time_hif s _
@[simp] theorem idle_spi : (idle s).spi = s.spi := with_time_spi s _
@[simp] theorem idle_host : (idle s).host = s.host := with_time_host s _
@[simp] theorem idle_cmds : (idle s).cmds = s.cmds := with_time_cmds s _
@[simp] theorem idle_ic : (idle s).ic = s.ic := with_time_ic s _
@[simp] theorem idle_auth : (idle s).auth = s.auth := with_time_auth s _
@[simp] theorem idle_nvs : (idle s).nvs = s.nvs := with_time_nvs s _
@[simp] theorem idle_store : (idle s).store = s.store := with_time_store s _
@[simp] theorem idle_upd : (idle s).upd = s.upd := with_time_upd s _
@[simp] theorem idle_gaz : (idle s).gaz = s.gaz := with_time_gaz s _
@[simp] theorem idle_pwr : (idle s).pwr = s.pwr := with_time_pwr s _
@[simp] theorem idle_safe : (idle s).safe = s.safe := with_time_safe s _
@[simp] theorem idle_free : (idle s).free = s.free := with_time_free s _

@[simp] theorem latchNow_pending (p : Path) : (latchNow p s).pending = s.pending := with_time_pending s _
@[simp] theorem latchNow_clk (p : Path) : (latchNow p s).clk = s.clk := with_time_clk s _
@[simp] theorem latchNow_frm (p : Path) : (latchNow p s).frm = s.frm := with_time_frm s _
@[simp] theorem latchNow_cap (p : Path) : (latchNow p s).cap = s.cap := with_time_cap s _
@[simp] theorem latchNow_rpl (p : Path) : (latchNow p s).rpl = s.rpl := with_time_rpl s _
@[simp] theorem latchNow_exch (p : Path) : (latchNow p s).exch = s.exch := with_time_exch s _
@[simp] theorem latchNow_links (p : Path) : (latchNow p s).links = s.links := with_time_links s _
@[simp] theorem latchNow_sense (p : Path) : (latchNow p s).sense = s.sense := with_time_sense s _
@[simp] theorem latchNow_senLog (p : Path) : (latchNow p s).senLog = s.senLog := with_time_senLog s _
@[simp] theorem latchNow_field (p : Path) : (latchNow p s).field = s.field := with_time_field s _
@[simp] theorem latchNow_power (p : Path) : (latchNow p s).power = s.power := with_time_power s _
@[simp] theorem latchNow_io (p : Path) : (latchNow p s).io = s.io := with_time_io s _
@[simp] theorem latchNow_can (p : Path) : (latchNow p s).can = s.can := with_time_can s _
@[simp] theorem latchNow_plant (p : Path) : (latchNow p s).plant = s.plant := with_time_plant s _
@[simp] theorem latchNow_svy (p : Path) : (latchNow p s).svy = s.svy := with_time_svy s _
@[simp] theorem latchNow_sto (p : Path) : (latchNow p s).sto = s.sto := with_time_sto s _
@[simp] theorem latchNow_hif (p : Path) : (latchNow p s).hif = s.hif := with_time_hif s _
@[simp] theorem latchNow_spi (p : Path) : (latchNow p s).spi = s.spi := with_time_spi s _
@[simp] theorem latchNow_host (p : Path) : (latchNow p s).host = s.host := with_time_host s _
@[simp] theorem latchNow_cmds (p : Path) : (latchNow p s).cmds = s.cmds := with_time_cmds s _
@[simp] theorem latchNow_ic (p : Path) : (latchNow p s).ic = s.ic := with_time_ic s _
@[simp] theorem latchNow_auth (p : Path) : (latchNow p s).auth = s.auth := with_time_auth s _
@[simp] theorem latchNow_nvs (p : Path) : (latchNow p s).nvs = s.nvs := with_time_nvs s _
@[simp] theorem latchNow_store (p : Path) : (latchNow p s).store = s.store := with_time_store s _
@[simp] theorem latchNow_upd (p : Path) : (latchNow p s).upd = s.upd := with_time_upd s _
@[simp] theorem latchNow_gaz (p : Path) : (latchNow p s).gaz = s.gaz := with_time_gaz s _
@[simp] theorem latchNow_pwr (p : Path) : (latchNow p s).pwr = s.pwr := with_time_pwr s _
@[simp] theorem latchNow_safe (p : Path) : (latchNow p s).safe = s.safe := with_time_safe s _
@[simp] theorem latchNow_free (p : Path) : (latchNow p s).free = s.free := with_time_free s _

@[simp] theorem used_pending : (s.used).pending = s.pending := with_free_pending s _
@[simp] theorem used_time : (s.used).time = s.time := with_free_time s _
@[simp] theorem used_clk : (s.used).clk = s.clk := with_free_clk s _
@[simp] theorem used_frm : (s.used).frm = s.frm := with_free_frm s _
@[simp] theorem used_cap : (s.used).cap = s.cap := with_free_cap s _
@[simp] theorem used_rpl : (s.used).rpl = s.rpl := with_free_rpl s _
@[simp] theorem used_exch : (s.used).exch = s.exch := with_free_exch s _
@[simp] theorem used_links : (s.used).links = s.links := with_free_links s _
@[simp] theorem used_sense : (s.used).sense = s.sense := with_free_sense s _
@[simp] theorem used_senLog : (s.used).senLog = s.senLog := with_free_senLog s _
@[simp] theorem used_field : (s.used).field = s.field := with_free_field s _
@[simp] theorem used_power : (s.used).power = s.power := with_free_power s _
@[simp] theorem used_io : (s.used).io = s.io := with_free_io s _
@[simp] theorem used_can : (s.used).can = s.can := with_free_can s _
@[simp] theorem used_plant : (s.used).plant = s.plant := with_free_plant s _
@[simp] theorem used_svy : (s.used).svy = s.svy := with_free_svy s _
@[simp] theorem used_sto : (s.used).sto = s.sto := with_free_sto s _
@[simp] theorem used_hif : (s.used).hif = s.hif := with_free_hif s _
@[simp] theorem used_spi : (s.used).spi = s.spi := with_free_spi s _
@[simp] theorem used_host : (s.used).host = s.host := with_free_host s _
@[simp] theorem used_cmds : (s.used).cmds = s.cmds := with_free_cmds s _
@[simp] theorem used_ic : (s.used).ic = s.ic := with_free_ic s _
@[simp] theorem used_auth : (s.used).auth = s.auth := with_free_auth s _
@[simp] theorem used_nvs : (s.used).nvs = s.nvs := with_free_nvs s _
@[simp] theorem used_store : (s.used).store = s.store := with_free_store s _
@[simp] theorem used_upd : (s.used).upd = s.upd := with_free_upd s _
@[simp] theorem used_gaz : (s.used).gaz = s.gaz := with_free_gaz s _
@[simp] theorem used_pwr : (s.used).pwr = s.pwr := with_free_pwr s _
@[simp] theorem used_safe : (s.used).safe = s.safe := with_free_safe s _
@[simp] theorem used_free : (s.used).free = s.free + 1 := rfl

@[simp] theorem post_pending (a : Nat) (b : Bytes) : (post a b s).pending = s.pending := with_host_pending s _
@[simp] theorem post_time (a : Nat) (b : Bytes) : (post a b s).time = s.time := with_host_time s _
@[simp] theorem post_clk (a : Nat) (b : Bytes) : (post a b s).clk = s.clk := with_host_clk s _
@[simp] theorem post_frm (a : Nat) (b : Bytes) : (post a b s).frm = s.frm := with_host_frm s _
@[simp] theorem post_cap (a : Nat) (b : Bytes) : (post a b s).cap = s.cap := with_host_cap s _
@[simp] theorem post_rpl (a : Nat) (b : Bytes) : (post a b s).rpl = s.rpl := with_host_rpl s _
@[simp] theorem post_exch (a : Nat) (b : Bytes) : (post a b s).exch = s.exch := with_host_exch s _
@[simp] theorem post_links (a : Nat) (b : Bytes) : (post a b s).links = s.links := with_host_links s _
@[simp] theorem post_sense (a : Nat) (b : Bytes) : (post a b s).sense = s.sense := with_host_sense s _
@[simp] theorem post_senLog (a : Nat) (b : Bytes) : (post a b s).senLog = s.senLog := with_host_senLog s _
@[simp] theorem post_field (a : Nat) (b : Bytes) : (post a b s).field = s.field := with_host_field s _
@[simp] theorem post_power (a : Nat) (b : Bytes) : (post a b s).power = s.power := with_host_power s _
@[simp] theorem post_io (a : Nat) (b : Bytes) : (post a b s).io = s.io := with_host_io s _
@[simp] theorem post_can (a : Nat) (b : Bytes) : (post a b s).can = s.can := with_host_can s _
@[simp] theorem post_plant (a : Nat) (b : Bytes) : (post a b s).plant = s.plant := with_host_plant s _
@[simp] theorem post_svy (a : Nat) (b : Bytes) : (post a b s).svy = s.svy := with_host_svy s _
@[simp] theorem post_sto (a : Nat) (b : Bytes) : (post a b s).sto = s.sto := with_host_sto s _
@[simp] theorem post_hif (a : Nat) (b : Bytes) : (post a b s).hif = s.hif := with_host_hif s _
@[simp] theorem post_spi (a : Nat) (b : Bytes) : (post a b s).spi = s.spi := with_host_spi s _
@[simp] theorem post_host (a : Nat) (b : Bytes) : (post a b s).host = { s.host with posted := s.host.posted ++ [(a, b)] } := rfl
@[simp] theorem post_cmds (a : Nat) (b : Bytes) : (post a b s).cmds = s.cmds := with_host_cmds s _
@[simp] theorem post_ic (a : Nat) (b : Bytes) : (post a b s).ic = s.ic := with_host_ic s _
@[simp] theorem post_auth (a : Nat) (b : Bytes) : (post a b s).auth = s.auth := with_host_auth s _
@[simp] theorem post_nvs (a : Nat) (b : Bytes) : (post a b s).nvs = s.nvs := with_host_nvs s _
@[simp] theorem post_store (a : Nat) (b : Bytes) : (post a b s).store = s.store := with_host_store s _
@[simp] theorem post_upd (a : Nat) (b : Bytes) : (post a b s).upd = s.upd := with_host_upd s _
@[simp] theorem post_gaz (a : Nat) (b : Bytes) : (post a b s).gaz = s.gaz := with_host_gaz s _
@[simp] theorem post_pwr (a : Nat) (b : Bytes) : (post a b s).pwr = s.pwr := with_host_pwr s _
@[simp] theorem post_safe (a : Nat) (b : Bytes) : (post a b s).safe = s.safe := with_host_safe s _
@[simp] theorem post_free (a : Nat) (b : Bytes) : (post a b s).free = s.free := with_host_free s _

@[simp] theorem setRing_pending (r : Nat) (x : Ring) : (s.setRing r x).pending = s.pending := with_hif_pending s _
@[simp] theorem setRing_time (r : Nat) (x : Ring) : (s.setRing r x).time = s.time := with_hif_time s _
@[simp] theorem setRing_clk (r : Nat) (x : Ring) : (s.setRing r x).clk = s.clk := with_hif_clk s _
@[simp] theorem setRing_frm (r : Nat) (x : Ring) : (s.setRing r x).frm = s.frm := with_hif_frm s _
@[simp] theorem setRing_cap (r : Nat) (x : Ring) : (s.setRing r x).cap = s.cap := with_hif_cap s _
@[simp] theorem setRing_rpl (r : Nat) (x : Ring) : (s.setRing r x).rpl = s.rpl := with_hif_rpl s _
@[simp] theorem setRing_exch (r : Nat) (x : Ring) : (s.setRing r x).exch = s.exch := with_hif_exch s _
@[simp] theorem setRing_links (r : Nat) (x : Ring) : (s.setRing r x).links = s.links := with_hif_links s _
@[simp] theorem setRing_sense (r : Nat) (x : Ring) : (s.setRing r x).sense = s.sense := with_hif_sense s _
@[simp] theorem setRing_senLog (r : Nat) (x : Ring) : (s.setRing r x).senLog = s.senLog := with_hif_senLog s _
@[simp] theorem setRing_field (r : Nat) (x : Ring) : (s.setRing r x).field = s.field := with_hif_field s _
@[simp] theorem setRing_power (r : Nat) (x : Ring) : (s.setRing r x).power = s.power := with_hif_power s _
@[simp] theorem setRing_io (r : Nat) (x : Ring) : (s.setRing r x).io = s.io := with_hif_io s _
@[simp] theorem setRing_can (r : Nat) (x : Ring) : (s.setRing r x).can = s.can := with_hif_can s _
@[simp] theorem setRing_plant (r : Nat) (x : Ring) : (s.setRing r x).plant = s.plant := with_hif_plant s _
@[simp] theorem setRing_svy (r : Nat) (x : Ring) : (s.setRing r x).svy = s.svy := with_hif_svy s _
@[simp] theorem setRing_sto (r : Nat) (x : Ring) : (s.setRing r x).sto = s.sto := with_hif_sto s _
@[simp] theorem setRing_hif (r : Nat) (x : Ring) : (s.setRing r x).hif = { s.hif with rings := setAt r x s.hif.rings } := rfl
@[simp] theorem setRing_spi (r : Nat) (x : Ring) : (s.setRing r x).spi = s.spi := with_hif_spi s _
@[simp] theorem setRing_host (r : Nat) (x : Ring) : (s.setRing r x).host = s.host := with_hif_host s _
@[simp] theorem setRing_cmds (r : Nat) (x : Ring) : (s.setRing r x).cmds = s.cmds := with_hif_cmds s _
@[simp] theorem setRing_ic (r : Nat) (x : Ring) : (s.setRing r x).ic = s.ic := with_hif_ic s _
@[simp] theorem setRing_auth (r : Nat) (x : Ring) : (s.setRing r x).auth = s.auth := with_hif_auth s _
@[simp] theorem setRing_nvs (r : Nat) (x : Ring) : (s.setRing r x).nvs = s.nvs := with_hif_nvs s _
@[simp] theorem setRing_store (r : Nat) (x : Ring) : (s.setRing r x).store = s.store := with_hif_store s _
@[simp] theorem setRing_upd (r : Nat) (x : Ring) : (s.setRing r x).upd = s.upd := with_hif_upd s _
@[simp] theorem setRing_gaz (r : Nat) (x : Ring) : (s.setRing r x).gaz = s.gaz := with_hif_gaz s _
@[simp] theorem setRing_pwr (r : Nat) (x : Ring) : (s.setRing r x).pwr = s.pwr := with_hif_pwr s _
@[simp] theorem setRing_safe (r : Nat) (x : Ring) : (s.setRing r x).safe = s.safe := with_hif_safe s _
@[simp] theorem setRing_free (r : Nat) (x : Ring) : (s.setRing r x).free = s.free := with_hif_free s _

@[simp] theorem setNear_pending (n : Nat) (x : NearLink) : (s.setNear n x).pending = s.pending := with_links_pending s _
@[simp] theorem setNear_time (n : Nat) (x : NearLink) : (s.setNear n x).time = s.time := with_links_time s _
@[simp] theorem setNear_clk (n : Nat) (x : NearLink) : (s.setNear n x).clk = s.clk := with_links_clk s _
@[simp] theorem setNear_frm (n : Nat) (x : NearLink) : (s.setNear n x).frm = s.frm := with_links_frm s _
@[simp] theorem setNear_cap (n : Nat) (x : NearLink) : (s.setNear n x).cap = s.cap := with_links_cap s _
@[simp] theorem setNear_rpl (n : Nat) (x : NearLink) : (s.setNear n x).rpl = s.rpl := with_links_rpl s _
@[simp] theorem setNear_exch (n : Nat) (x : NearLink) : (s.setNear n x).exch = s.exch := with_links_exch s _
@[simp] theorem setNear_links (n : Nat) (x : NearLink) : (s.setNear n x).links = { s.links with near := setAt n x s.links.near } := rfl
@[simp] theorem setNear_sense (n : Nat) (x : NearLink) : (s.setNear n x).sense = s.sense := with_links_sense s _
@[simp] theorem setNear_senLog (n : Nat) (x : NearLink) : (s.setNear n x).senLog = s.senLog := with_links_senLog s _
@[simp] theorem setNear_field (n : Nat) (x : NearLink) : (s.setNear n x).field = s.field := with_links_field s _
@[simp] theorem setNear_power (n : Nat) (x : NearLink) : (s.setNear n x).power = s.power := with_links_power s _
@[simp] theorem setNear_io (n : Nat) (x : NearLink) : (s.setNear n x).io = s.io := with_links_io s _
@[simp] theorem setNear_can (n : Nat) (x : NearLink) : (s.setNear n x).can = s.can := with_links_can s _
@[simp] theorem setNear_plant (n : Nat) (x : NearLink) : (s.setNear n x).plant = s.plant := with_links_plant s _
@[simp] theorem setNear_svy (n : Nat) (x : NearLink) : (s.setNear n x).svy = s.svy := with_links_svy s _
@[simp] theorem setNear_sto (n : Nat) (x : NearLink) : (s.setNear n x).sto = s.sto := with_links_sto s _
@[simp] theorem setNear_hif (n : Nat) (x : NearLink) : (s.setNear n x).hif = s.hif := with_links_hif s _
@[simp] theorem setNear_spi (n : Nat) (x : NearLink) : (s.setNear n x).spi = s.spi := with_links_spi s _
@[simp] theorem setNear_host (n : Nat) (x : NearLink) : (s.setNear n x).host = s.host := with_links_host s _
@[simp] theorem setNear_cmds (n : Nat) (x : NearLink) : (s.setNear n x).cmds = s.cmds := with_links_cmds s _
@[simp] theorem setNear_ic (n : Nat) (x : NearLink) : (s.setNear n x).ic = s.ic := with_links_ic s _
@[simp] theorem setNear_auth (n : Nat) (x : NearLink) : (s.setNear n x).auth = s.auth := with_links_auth s _
@[simp] theorem setNear_nvs (n : Nat) (x : NearLink) : (s.setNear n x).nvs = s.nvs := with_links_nvs s _
@[simp] theorem setNear_store (n : Nat) (x : NearLink) : (s.setNear n x).store = s.store := with_links_store s _
@[simp] theorem setNear_upd (n : Nat) (x : NearLink) : (s.setNear n x).upd = s.upd := with_links_upd s _
@[simp] theorem setNear_gaz (n : Nat) (x : NearLink) : (s.setNear n x).gaz = s.gaz := with_links_gaz s _
@[simp] theorem setNear_pwr (n : Nat) (x : NearLink) : (s.setNear n x).pwr = s.pwr := with_links_pwr s _
@[simp] theorem setNear_safe (n : Nat) (x : NearLink) : (s.setNear n x).safe = s.safe := with_links_safe s _
@[simp] theorem setNear_free (n : Nat) (x : NearLink) : (s.setNear n x).free = s.free := with_links_free s _

@[simp] theorem setFar_pending (n : Nat) (x : FarLink) : (s.setFar n x).pending = s.pending := with_links_pending s _
@[simp] theorem setFar_time (n : Nat) (x : FarLink) : (s.setFar n x).time = s.time := with_links_time s _
@[simp] theorem setFar_clk (n : Nat) (x : FarLink) : (s.setFar n x).clk = s.clk := with_links_clk s _
@[simp] theorem setFar_frm (n : Nat) (x : FarLink) : (s.setFar n x).frm = s.frm := with_links_frm s _
@[simp] theorem setFar_cap (n : Nat) (x : FarLink) : (s.setFar n x).cap = s.cap := with_links_cap s _
@[simp] theorem setFar_rpl (n : Nat) (x : FarLink) : (s.setFar n x).rpl = s.rpl := with_links_rpl s _
@[simp] theorem setFar_exch (n : Nat) (x : FarLink) : (s.setFar n x).exch = s.exch := with_links_exch s _
@[simp] theorem setFar_links (n : Nat) (x : FarLink) : (s.setFar n x).links = { s.links with far := setAt n x s.links.far } := rfl
@[simp] theorem setFar_sense (n : Nat) (x : FarLink) : (s.setFar n x).sense = s.sense := with_links_sense s _
@[simp] theorem setFar_senLog (n : Nat) (x : FarLink) : (s.setFar n x).senLog = s.senLog := with_links_senLog s _
@[simp] theorem setFar_field (n : Nat) (x : FarLink) : (s.setFar n x).field = s.field := with_links_field s _
@[simp] theorem setFar_power (n : Nat) (x : FarLink) : (s.setFar n x).power = s.power := with_links_power s _
@[simp] theorem setFar_io (n : Nat) (x : FarLink) : (s.setFar n x).io = s.io := with_links_io s _
@[simp] theorem setFar_can (n : Nat) (x : FarLink) : (s.setFar n x).can = s.can := with_links_can s _
@[simp] theorem setFar_plant (n : Nat) (x : FarLink) : (s.setFar n x).plant = s.plant := with_links_plant s _
@[simp] theorem setFar_svy (n : Nat) (x : FarLink) : (s.setFar n x).svy = s.svy := with_links_svy s _
@[simp] theorem setFar_sto (n : Nat) (x : FarLink) : (s.setFar n x).sto = s.sto := with_links_sto s _
@[simp] theorem setFar_hif (n : Nat) (x : FarLink) : (s.setFar n x).hif = s.hif := with_links_hif s _
@[simp] theorem setFar_spi (n : Nat) (x : FarLink) : (s.setFar n x).spi = s.spi := with_links_spi s _
@[simp] theorem setFar_host (n : Nat) (x : FarLink) : (s.setFar n x).host = s.host := with_links_host s _
@[simp] theorem setFar_cmds (n : Nat) (x : FarLink) : (s.setFar n x).cmds = s.cmds := with_links_cmds s _
@[simp] theorem setFar_ic (n : Nat) (x : FarLink) : (s.setFar n x).ic = s.ic := with_links_ic s _
@[simp] theorem setFar_auth (n : Nat) (x : FarLink) : (s.setFar n x).auth = s.auth := with_links_auth s _
@[simp] theorem setFar_nvs (n : Nat) (x : FarLink) : (s.setFar n x).nvs = s.nvs := with_links_nvs s _
@[simp] theorem setFar_store (n : Nat) (x : FarLink) : (s.setFar n x).store = s.store := with_links_store s _
@[simp] theorem setFar_upd (n : Nat) (x : FarLink) : (s.setFar n x).upd = s.upd := with_links_upd s _
@[simp] theorem setFar_gaz (n : Nat) (x : FarLink) : (s.setFar n x).gaz = s.gaz := with_links_gaz s _
@[simp] theorem setFar_pwr (n : Nat) (x : FarLink) : (s.setFar n x).pwr = s.pwr := with_links_pwr s _
@[simp] theorem setFar_safe (n : Nat) (x : FarLink) : (s.setFar n x).safe = s.safe := with_links_safe s _
@[simp] theorem setFar_free (n : Nat) (x : FarLink) : (s.setFar n x).free = s.free := with_links_free s _

@[simp] theorem setCan_pending (c : CanCh) : (setCan c s).pending = s.pending := with_can_pending s _
@[simp] theorem setCan_time (c : CanCh) : (setCan c s).time = s.time := with_can_time s _
@[simp] theorem setCan_clk (c : CanCh) : (setCan c s).clk = s.clk := with_can_clk s _
@[simp] theorem setCan_frm (c : CanCh) : (setCan c s).frm = s.frm := with_can_frm s _
@[simp] theorem setCan_cap (c : CanCh) : (setCan c s).cap = s.cap := with_can_cap s _
@[simp] theorem setCan_rpl (c : CanCh) : (setCan c s).rpl = s.rpl := with_can_rpl s _
@[simp] theorem setCan_exch (c : CanCh) : (setCan c s).exch = s.exch := with_can_exch s _
@[simp] theorem setCan_links (c : CanCh) : (setCan c s).links = s.links := with_can_links s _
@[simp] theorem setCan_sense (c : CanCh) : (setCan c s).sense = s.sense := with_can_sense s _
@[simp] theorem setCan_senLog (c : CanCh) : (setCan c s).senLog = s.senLog := with_can_senLog s _
@[simp] theorem setCan_field (c : CanCh) : (setCan c s).field = s.field := with_can_field s _
@[simp] theorem setCan_power (c : CanCh) : (setCan c s).power = s.power := with_can_power s _
@[simp] theorem setCan_io (c : CanCh) : (setCan c s).io = s.io := with_can_io s _
@[simp] theorem setCan_can (c : CanCh) : (setCan c s).can = setAt c.ch c s.can := rfl
@[simp] theorem setCan_plant (c : CanCh) : (setCan c s).plant = s.plant := with_can_plant s _
@[simp] theorem setCan_svy (c : CanCh) : (setCan c s).svy = s.svy := with_can_svy s _
@[simp] theorem setCan_sto (c : CanCh) : (setCan c s).sto = s.sto := with_can_sto s _
@[simp] theorem setCan_hif (c : CanCh) : (setCan c s).hif = s.hif := with_can_hif s _
@[simp] theorem setCan_spi (c : CanCh) : (setCan c s).spi = s.spi := with_can_spi s _
@[simp] theorem setCan_host (c : CanCh) : (setCan c s).host = s.host := with_can_host s _
@[simp] theorem setCan_cmds (c : CanCh) : (setCan c s).cmds = s.cmds := with_can_cmds s _
@[simp] theorem setCan_ic (c : CanCh) : (setCan c s).ic = s.ic := with_can_ic s _
@[simp] theorem setCan_auth (c : CanCh) : (setCan c s).auth = s.auth := with_can_auth s _
@[simp] theorem setCan_nvs (c : CanCh) : (setCan c s).nvs = s.nvs := with_can_nvs s _
@[simp] theorem setCan_store (c : CanCh) : (setCan c s).store = s.store := with_can_store s _
@[simp] theorem setCan_upd (c : CanCh) : (setCan c s).upd = s.upd := with_can_upd s _
@[simp] theorem setCan_gaz (c : CanCh) : (setCan c s).gaz = s.gaz := with_can_gaz s _
@[simp] theorem setCan_pwr (c : CanCh) : (setCan c s).pwr = s.pwr := with_can_pwr s _
@[simp] theorem setCan_safe (c : CanCh) : (setCan c s).safe = s.safe := with_can_safe s _
@[simp] theorem setCan_free (c : CanCh) : (setCan c s).free = s.free := with_can_free s _

@[simp] theorem setSlot_pending (n : Nat) (k : KeySlot) : (s.setSlot n k).pending = s.pending := with_auth_pending s _
@[simp] theorem setSlot_time (n : Nat) (k : KeySlot) : (s.setSlot n k).time = s.time := with_auth_time s _
@[simp] theorem setSlot_clk (n : Nat) (k : KeySlot) : (s.setSlot n k).clk = s.clk := with_auth_clk s _
@[simp] theorem setSlot_frm (n : Nat) (k : KeySlot) : (s.setSlot n k).frm = s.frm := with_auth_frm s _
@[simp] theorem setSlot_cap (n : Nat) (k : KeySlot) : (s.setSlot n k).cap = s.cap := with_auth_cap s _
@[simp] theorem setSlot_rpl (n : Nat) (k : KeySlot) : (s.setSlot n k).rpl = s.rpl := with_auth_rpl s _
@[simp] theorem setSlot_exch (n : Nat) (k : KeySlot) : (s.setSlot n k).exch = s.exch := with_auth_exch s _
@[simp] theorem setSlot_links (n : Nat) (k : KeySlot) : (s.setSlot n k).links = s.links := with_auth_links s _
@[simp] theorem setSlot_sense (n : Nat) (k : KeySlot) : (s.setSlot n k).sense = s.sense := with_auth_sense s _
@[simp] theorem setSlot_senLog (n : Nat) (k : KeySlot) : (s.setSlot n k).senLog = s.senLog := with_auth_senLog s _
@[simp] theorem setSlot_field (n : Nat) (k : KeySlot) : (s.setSlot n k).field = s.field := with_auth_field s _
@[simp] theorem setSlot_power (n : Nat) (k : KeySlot) : (s.setSlot n k).power = s.power := with_auth_power s _
@[simp] theorem setSlot_io (n : Nat) (k : KeySlot) : (s.setSlot n k).io = s.io := with_auth_io s _
@[simp] theorem setSlot_can (n : Nat) (k : KeySlot) : (s.setSlot n k).can = s.can := with_auth_can s _
@[simp] theorem setSlot_plant (n : Nat) (k : KeySlot) : (s.setSlot n k).plant = s.plant := with_auth_plant s _
@[simp] theorem setSlot_svy (n : Nat) (k : KeySlot) : (s.setSlot n k).svy = s.svy := with_auth_svy s _
@[simp] theorem setSlot_sto (n : Nat) (k : KeySlot) : (s.setSlot n k).sto = s.sto := with_auth_sto s _
@[simp] theorem setSlot_hif (n : Nat) (k : KeySlot) : (s.setSlot n k).hif = s.hif := with_auth_hif s _
@[simp] theorem setSlot_spi (n : Nat) (k : KeySlot) : (s.setSlot n k).spi = s.spi := with_auth_spi s _
@[simp] theorem setSlot_host (n : Nat) (k : KeySlot) : (s.setSlot n k).host = s.host := with_auth_host s _
@[simp] theorem setSlot_cmds (n : Nat) (k : KeySlot) : (s.setSlot n k).cmds = s.cmds := with_auth_cmds s _
@[simp] theorem setSlot_ic (n : Nat) (k : KeySlot) : (s.setSlot n k).ic = s.ic := with_auth_ic s _
@[simp] theorem setSlot_auth (n : Nat) (k : KeySlot) : (s.setSlot n k).auth = { s.auth with slots := setAt n k s.auth.slots } := rfl
@[simp] theorem setSlot_nvs (n : Nat) (k : KeySlot) : (s.setSlot n k).nvs = s.nvs := with_auth_nvs s _
@[simp] theorem setSlot_store (n : Nat) (k : KeySlot) : (s.setSlot n k).store = s.store := with_auth_store s _
@[simp] theorem setSlot_upd (n : Nat) (k : KeySlot) : (s.setSlot n k).upd = s.upd := with_auth_upd s _
@[simp] theorem setSlot_gaz (n : Nat) (k : KeySlot) : (s.setSlot n k).gaz = s.gaz := with_auth_gaz s _
@[simp] theorem setSlot_pwr (n : Nat) (k : KeySlot) : (s.setSlot n k).pwr = s.pwr := with_auth_pwr s _
@[simp] theorem setSlot_safe (n : Nat) (k : KeySlot) : (s.setSlot n k).safe = s.safe := with_auth_safe s _
@[simp] theorem setSlot_free (n : Nat) (k : KeySlot) : (s.setSlot n k).free = s.free := with_auth_free s _

@[simp] theorem setPlant_pending (p : Plant) : (s.setPlant p).pending = s.pending := with_plant_pending s _
@[simp] theorem setPlant_time (p : Plant) : (s.setPlant p).time = s.time := with_plant_time s _
@[simp] theorem setPlant_clk (p : Plant) : (s.setPlant p).clk = s.clk := with_plant_clk s _
@[simp] theorem setPlant_frm (p : Plant) : (s.setPlant p).frm = s.frm := with_plant_frm s _
@[simp] theorem setPlant_cap (p : Plant) : (s.setPlant p).cap = s.cap := with_plant_cap s _
@[simp] theorem setPlant_rpl (p : Plant) : (s.setPlant p).rpl = s.rpl := with_plant_rpl s _
@[simp] theorem setPlant_exch (p : Plant) : (s.setPlant p).exch = s.exch := with_plant_exch s _
@[simp] theorem setPlant_links (p : Plant) : (s.setPlant p).links = s.links := with_plant_links s _
@[simp] theorem setPlant_sense (p : Plant) : (s.setPlant p).sense = s.sense := with_plant_sense s _
@[simp] theorem setPlant_senLog (p : Plant) : (s.setPlant p).senLog = s.senLog := with_plant_senLog s _
@[simp] theorem setPlant_field (p : Plant) : (s.setPlant p).field = s.field := with_plant_field s _
@[simp] theorem setPlant_power (p : Plant) : (s.setPlant p).power = s.power := with_plant_power s _
@[simp] theorem setPlant_io (p : Plant) : (s.setPlant p).io = s.io := with_plant_io s _
@[simp] theorem setPlant_can (p : Plant) : (s.setPlant p).can = s.can := with_plant_can s _
@[simp] theorem setPlant_plant (p : Plant) : (s.setPlant p).plant = p := rfl
@[simp] theorem setPlant_svy (p : Plant) : (s.setPlant p).svy = s.svy := with_plant_svy s _
@[simp] theorem setPlant_sto (p : Plant) : (s.setPlant p).sto = s.sto := with_plant_sto s _
@[simp] theorem setPlant_hif (p : Plant) : (s.setPlant p).hif = s.hif := with_plant_hif s _
@[simp] theorem setPlant_spi (p : Plant) : (s.setPlant p).spi = s.spi := with_plant_spi s _
@[simp] theorem setPlant_host (p : Plant) : (s.setPlant p).host = s.host := with_plant_host s _
@[simp] theorem setPlant_cmds (p : Plant) : (s.setPlant p).cmds = s.cmds := with_plant_cmds s _
@[simp] theorem setPlant_ic (p : Plant) : (s.setPlant p).ic = s.ic := with_plant_ic s _
@[simp] theorem setPlant_auth (p : Plant) : (s.setPlant p).auth = s.auth := with_plant_auth s _
@[simp] theorem setPlant_nvs (p : Plant) : (s.setPlant p).nvs = s.nvs := with_plant_nvs s _
@[simp] theorem setPlant_store (p : Plant) : (s.setPlant p).store = s.store := with_plant_store s _
@[simp] theorem setPlant_upd (p : Plant) : (s.setPlant p).upd = s.upd := with_plant_upd s _
@[simp] theorem setPlant_gaz (p : Plant) : (s.setPlant p).gaz = s.gaz := with_plant_gaz s _
@[simp] theorem setPlant_pwr (p : Plant) : (s.setPlant p).pwr = s.pwr := with_plant_pwr s _
@[simp] theorem setPlant_safe (p : Plant) : (s.setPlant p).safe = s.safe := with_plant_safe s _
@[simp] theorem setPlant_free (p : Plant) : (s.setPlant p).free = s.free := with_plant_free s _

@[simp] theorem putDryer_pending (x : Dryer) : (s.putDryer x).pending = s.pending := with_plant_pending s _
@[simp] theorem putDryer_time (x : Dryer) : (s.putDryer x).time = s.time := with_plant_time s _
@[simp] theorem putDryer_clk (x : Dryer) : (s.putDryer x).clk = s.clk := with_plant_clk s _
@[simp] theorem putDryer_frm (x : Dryer) : (s.putDryer x).frm = s.frm := with_plant_frm s _
@[simp] theorem putDryer_cap (x : Dryer) : (s.putDryer x).cap = s.cap := with_plant_cap s _
@[simp] theorem putDryer_rpl (x : Dryer) : (s.putDryer x).rpl = s.rpl := with_plant_rpl s _
@[simp] theorem putDryer_exch (x : Dryer) : (s.putDryer x).exch = s.exch := with_plant_exch s _
@[simp] theorem putDryer_links (x : Dryer) : (s.putDryer x).links = s.links := with_plant_links s _
@[simp] theorem putDryer_sense (x : Dryer) : (s.putDryer x).sense = s.sense := with_plant_sense s _
@[simp] theorem putDryer_senLog (x : Dryer) : (s.putDryer x).senLog = s.senLog := with_plant_senLog s _
@[simp] theorem putDryer_field (x : Dryer) : (s.putDryer x).field = s.field := with_plant_field s _
@[simp] theorem putDryer_power (x : Dryer) : (s.putDryer x).power = s.power := with_plant_power s _
@[simp] theorem putDryer_io (x : Dryer) : (s.putDryer x).io = s.io := with_plant_io s _
@[simp] theorem putDryer_can (x : Dryer) : (s.putDryer x).can = s.can := with_plant_can s _
@[simp] theorem putDryer_plant (x : Dryer) : (s.putDryer x).plant = setDryer s.plant x := rfl
@[simp] theorem putDryer_svy (x : Dryer) : (s.putDryer x).svy = s.svy := with_plant_svy s _
@[simp] theorem putDryer_sto (x : Dryer) : (s.putDryer x).sto = s.sto := with_plant_sto s _
@[simp] theorem putDryer_hif (x : Dryer) : (s.putDryer x).hif = s.hif := with_plant_hif s _
@[simp] theorem putDryer_spi (x : Dryer) : (s.putDryer x).spi = s.spi := with_plant_spi s _
@[simp] theorem putDryer_host (x : Dryer) : (s.putDryer x).host = s.host := with_plant_host s _
@[simp] theorem putDryer_cmds (x : Dryer) : (s.putDryer x).cmds = s.cmds := with_plant_cmds s _
@[simp] theorem putDryer_ic (x : Dryer) : (s.putDryer x).ic = s.ic := with_plant_ic s _
@[simp] theorem putDryer_auth (x : Dryer) : (s.putDryer x).auth = s.auth := with_plant_auth s _
@[simp] theorem putDryer_nvs (x : Dryer) : (s.putDryer x).nvs = s.nvs := with_plant_nvs s _
@[simp] theorem putDryer_store (x : Dryer) : (s.putDryer x).store = s.store := with_plant_store s _
@[simp] theorem putDryer_upd (x : Dryer) : (s.putDryer x).upd = s.upd := with_plant_upd s _
@[simp] theorem putDryer_gaz (x : Dryer) : (s.putDryer x).gaz = s.gaz := with_plant_gaz s _
@[simp] theorem putDryer_pwr (x : Dryer) : (s.putDryer x).pwr = s.pwr := with_plant_pwr s _
@[simp] theorem putDryer_safe (x : Dryer) : (s.putDryer x).safe = s.safe := with_plant_safe s _
@[simp] theorem putDryer_free (x : Dryer) : (s.putDryer x).free = s.free := with_plant_free s _

@[simp] theorem putZone_pending (i : Nat) (z : HeatZone) : (s.putZone i z).pending = s.pending := with_plant_pending s _
@[simp] theorem putZone_time (i : Nat) (z : HeatZone) : (s.putZone i z).time = s.time := with_plant_time s _
@[simp] theorem putZone_clk (i : Nat) (z : HeatZone) : (s.putZone i z).clk = s.clk := with_plant_clk s _
@[simp] theorem putZone_frm (i : Nat) (z : HeatZone) : (s.putZone i z).frm = s.frm := with_plant_frm s _
@[simp] theorem putZone_cap (i : Nat) (z : HeatZone) : (s.putZone i z).cap = s.cap := with_plant_cap s _
@[simp] theorem putZone_rpl (i : Nat) (z : HeatZone) : (s.putZone i z).rpl = s.rpl := with_plant_rpl s _
@[simp] theorem putZone_exch (i : Nat) (z : HeatZone) : (s.putZone i z).exch = s.exch := with_plant_exch s _
@[simp] theorem putZone_links (i : Nat) (z : HeatZone) : (s.putZone i z).links = s.links := with_plant_links s _
@[simp] theorem putZone_sense (i : Nat) (z : HeatZone) : (s.putZone i z).sense = s.sense := with_plant_sense s _
@[simp] theorem putZone_senLog (i : Nat) (z : HeatZone) : (s.putZone i z).senLog = s.senLog := with_plant_senLog s _
@[simp] theorem putZone_field (i : Nat) (z : HeatZone) : (s.putZone i z).field = s.field := with_plant_field s _
@[simp] theorem putZone_power (i : Nat) (z : HeatZone) : (s.putZone i z).power = s.power := with_plant_power s _
@[simp] theorem putZone_io (i : Nat) (z : HeatZone) : (s.putZone i z).io = s.io := with_plant_io s _
@[simp] theorem putZone_can (i : Nat) (z : HeatZone) : (s.putZone i z).can = s.can := with_plant_can s _
@[simp] theorem putZone_plant (i : Nat) (z : HeatZone) : (s.putZone i z).plant = { s.plant with zones := setAt i z s.plant.zones } := rfl
@[simp] theorem putZone_svy (i : Nat) (z : HeatZone) : (s.putZone i z).svy = s.svy := with_plant_svy s _
@[simp] theorem putZone_sto (i : Nat) (z : HeatZone) : (s.putZone i z).sto = s.sto := with_plant_sto s _
@[simp] theorem putZone_hif (i : Nat) (z : HeatZone) : (s.putZone i z).hif = s.hif := with_plant_hif s _
@[simp] theorem putZone_spi (i : Nat) (z : HeatZone) : (s.putZone i z).spi = s.spi := with_plant_spi s _
@[simp] theorem putZone_host (i : Nat) (z : HeatZone) : (s.putZone i z).host = s.host := with_plant_host s _
@[simp] theorem putZone_cmds (i : Nat) (z : HeatZone) : (s.putZone i z).cmds = s.cmds := with_plant_cmds s _
@[simp] theorem putZone_ic (i : Nat) (z : HeatZone) : (s.putZone i z).ic = s.ic := with_plant_ic s _
@[simp] theorem putZone_auth (i : Nat) (z : HeatZone) : (s.putZone i z).auth = s.auth := with_plant_auth s _
@[simp] theorem putZone_nvs (i : Nat) (z : HeatZone) : (s.putZone i z).nvs = s.nvs := with_plant_nvs s _
@[simp] theorem putZone_store (i : Nat) (z : HeatZone) : (s.putZone i z).store = s.store := with_plant_store s _
@[simp] theorem putZone_upd (i : Nat) (z : HeatZone) : (s.putZone i z).upd = s.upd := with_plant_upd s _
@[simp] theorem putZone_gaz (i : Nat) (z : HeatZone) : (s.putZone i z).gaz = s.gaz := with_plant_gaz s _
@[simp] theorem putZone_pwr (i : Nat) (z : HeatZone) : (s.putZone i z).pwr = s.pwr := with_plant_pwr s _
@[simp] theorem putZone_safe (i : Nat) (z : HeatZone) : (s.putZone i z).safe = s.safe := with_plant_safe s _
@[simp] theorem putZone_free (i : Nat) (z : HeatZone) : (s.putZone i z).free = s.free := with_plant_free s _

@[simp] theorem putBin_pending (x : BinSt) : (s.putBin x).pending = s.pending := with_plant_pending s _
@[simp] theorem putBin_time (x : BinSt) : (s.putBin x).time = s.time := with_plant_time s _
@[simp] theorem putBin_clk (x : BinSt) : (s.putBin x).clk = s.clk := with_plant_clk s _
@[simp] theorem putBin_frm (x : BinSt) : (s.putBin x).frm = s.frm := with_plant_frm s _
@[simp] theorem putBin_cap (x : BinSt) : (s.putBin x).cap = s.cap := with_plant_cap s _
@[simp] theorem putBin_rpl (x : BinSt) : (s.putBin x).rpl = s.rpl := with_plant_rpl s _
@[simp] theorem putBin_exch (x : BinSt) : (s.putBin x).exch = s.exch := with_plant_exch s _
@[simp] theorem putBin_links (x : BinSt) : (s.putBin x).links = s.links := with_plant_links s _
@[simp] theorem putBin_sense (x : BinSt) : (s.putBin x).sense = s.sense := with_plant_sense s _
@[simp] theorem putBin_senLog (x : BinSt) : (s.putBin x).senLog = s.senLog := with_plant_senLog s _
@[simp] theorem putBin_field (x : BinSt) : (s.putBin x).field = s.field := with_plant_field s _
@[simp] theorem putBin_power (x : BinSt) : (s.putBin x).power = s.power := with_plant_power s _
@[simp] theorem putBin_io (x : BinSt) : (s.putBin x).io = s.io := with_plant_io s _
@[simp] theorem putBin_can (x : BinSt) : (s.putBin x).can = s.can := with_plant_can s _
@[simp] theorem putBin_plant (x : BinSt) : (s.putBin x).plant = setBin s.plant x := rfl
@[simp] theorem putBin_svy (x : BinSt) : (s.putBin x).svy = s.svy := with_plant_svy s _
@[simp] theorem putBin_sto (x : BinSt) : (s.putBin x).sto = s.sto := with_plant_sto s _
@[simp] theorem putBin_hif (x : BinSt) : (s.putBin x).hif = s.hif := with_plant_hif s _
@[simp] theorem putBin_spi (x : BinSt) : (s.putBin x).spi = s.spi := with_plant_spi s _
@[simp] theorem putBin_host (x : BinSt) : (s.putBin x).host = s.host := with_plant_host s _
@[simp] theorem putBin_cmds (x : BinSt) : (s.putBin x).cmds = s.cmds := with_plant_cmds s _
@[simp] theorem putBin_ic (x : BinSt) : (s.putBin x).ic = s.ic := with_plant_ic s _
@[simp] theorem putBin_auth (x : BinSt) : (s.putBin x).auth = s.auth := with_plant_auth s _
@[simp] theorem putBin_nvs (x : BinSt) : (s.putBin x).nvs = s.nvs := with_plant_nvs s _
@[simp] theorem putBin_store (x : BinSt) : (s.putBin x).store = s.store := with_plant_store s _
@[simp] theorem putBin_upd (x : BinSt) : (s.putBin x).upd = s.upd := with_plant_upd s _
@[simp] theorem putBin_gaz (x : BinSt) : (s.putBin x).gaz = s.gaz := with_plant_gaz s _
@[simp] theorem putBin_pwr (x : BinSt) : (s.putBin x).pwr = s.pwr := with_plant_pwr s _
@[simp] theorem putBin_safe (x : BinSt) : (s.putBin x).safe = s.safe := with_plant_safe s _
@[simp] theorem putBin_free (x : BinSt) : (s.putBin x).free = s.free := with_plant_free s _

@[simp] theorem setMap_pending (m : GMap) : (s.setMap m).pending = s.pending := with_plant_pending s _
@[simp] theorem setMap_time (m : GMap) : (s.setMap m).time = s.time := with_plant_time s _
@[simp] theorem setMap_clk (m : GMap) : (s.setMap m).clk = s.clk := with_plant_clk s _
@[simp] theorem setMap_frm (m : GMap) : (s.setMap m).frm = s.frm := with_plant_frm s _
@[simp] theorem setMap_cap (m : GMap) : (s.setMap m).cap = s.cap := with_plant_cap s _
@[simp] theorem setMap_rpl (m : GMap) : (s.setMap m).rpl = s.rpl := with_plant_rpl s _
@[simp] theorem setMap_exch (m : GMap) : (s.setMap m).exch = s.exch := with_plant_exch s _
@[simp] theorem setMap_links (m : GMap) : (s.setMap m).links = s.links := with_plant_links s _
@[simp] theorem setMap_sense (m : GMap) : (s.setMap m).sense = s.sense := with_plant_sense s _
@[simp] theorem setMap_senLog (m : GMap) : (s.setMap m).senLog = s.senLog := with_plant_senLog s _
@[simp] theorem setMap_field (m : GMap) : (s.setMap m).field = s.field := with_plant_field s _
@[simp] theorem setMap_power (m : GMap) : (s.setMap m).power = s.power := with_plant_power s _
@[simp] theorem setMap_io (m : GMap) : (s.setMap m).io = s.io := with_plant_io s _
@[simp] theorem setMap_can (m : GMap) : (s.setMap m).can = s.can := with_plant_can s _
@[simp] theorem setMap_plant (m : GMap) : (s.setMap m).plant = { s.plant with maps := s.plant.maps.map fun q => if q.shape.num = m.shape.num then m else q } := rfl
@[simp] theorem setMap_svy (m : GMap) : (s.setMap m).svy = s.svy := with_plant_svy s _
@[simp] theorem setMap_sto (m : GMap) : (s.setMap m).sto = s.sto := with_plant_sto s _
@[simp] theorem setMap_hif (m : GMap) : (s.setMap m).hif = s.hif := with_plant_hif s _
@[simp] theorem setMap_spi (m : GMap) : (s.setMap m).spi = s.spi := with_plant_spi s _
@[simp] theorem setMap_host (m : GMap) : (s.setMap m).host = s.host := with_plant_host s _
@[simp] theorem setMap_cmds (m : GMap) : (s.setMap m).cmds = s.cmds := with_plant_cmds s _
@[simp] theorem setMap_ic (m : GMap) : (s.setMap m).ic = s.ic := with_plant_ic s _
@[simp] theorem setMap_auth (m : GMap) : (s.setMap m).auth = s.auth := with_plant_auth s _
@[simp] theorem setMap_nvs (m : GMap) : (s.setMap m).nvs = s.nvs := with_plant_nvs s _
@[simp] theorem setMap_store (m : GMap) : (s.setMap m).store = s.store := with_plant_store s _
@[simp] theorem setMap_upd (m : GMap) : (s.setMap m).upd = s.upd := with_plant_upd s _
@[simp] theorem setMap_gaz (m : GMap) : (s.setMap m).gaz = s.gaz := with_plant_gaz s _
@[simp] theorem setMap_pwr (m : GMap) : (s.setMap m).pwr = s.pwr := with_plant_pwr s _
@[simp] theorem setMap_safe (m : GMap) : (s.setMap m).safe = s.safe := with_plant_safe s _
@[simp] theorem setMap_free (m : GMap) : (s.setMap m).free = s.free := with_plant_free s _

@[simp] theorem setSets_pending (f : FieldSet) : (s.setSets f).pending = s.pending := with_field_pending s _
@[simp] theorem setSets_time (f : FieldSet) : (s.setSets f).time = s.time := with_field_time s _
@[simp] theorem setSets_clk (f : FieldSet) : (s.setSets f).clk = s.clk := with_field_clk s _
@[simp] theorem setSets_frm (f : FieldSet) : (s.setSets f).frm = s.frm := with_field_frm s _
@[simp] theorem setSets_cap (f : FieldSet) : (s.setSets f).cap = s.cap := with_field_cap s _
@[simp] theorem setSets_rpl (f : FieldSet) : (s.setSets f).rpl = s.rpl := with_field_rpl s _
@[simp] theorem setSets_exch (f : FieldSet) : (s.setSets f).exch = s.exch := with_field_exch s _
@[simp] theorem setSets_links (f : FieldSet) : (s.setSets f).links = s.links := with_field_links s _
@[simp] theorem setSets_sense (f : FieldSet) : (s.setSets f).sense = s.sense := with_field_sense s _
@[simp] theorem setSets_senLog (f : FieldSet) : (s.setSets f).senLog = s.senLog := with_field_senLog s _
@[simp] theorem setSets_field (f : FieldSet) : (s.setSets f).field = { s.field with sets := f } := rfl
@[simp] theorem setSets_power (f : FieldSet) : (s.setSets f).power = s.power := with_field_power s _
@[simp] theorem setSets_io (f : FieldSet) : (s.setSets f).io = s.io := with_field_io s _
@[simp] theorem setSets_can (f : FieldSet) : (s.setSets f).can = s.can := with_field_can s _
@[simp] theorem setSets_plant (f : FieldSet) : (s.setSets f).plant = s.plant := with_field_plant s _
@[simp] theorem setSets_svy (f : FieldSet) : (s.setSets f).svy = s.svy := with_field_svy s _
@[simp] theorem setSets_sto (f : FieldSet) : (s.setSets f).sto = s.sto := with_field_sto s _
@[simp] theorem setSets_hif (f : FieldSet) : (s.setSets f).hif = s.hif := with_field_hif s _
@[simp] theorem setSets_spi (f : FieldSet) : (s.setSets f).spi = s.spi := with_field_spi s _
@[simp] theorem setSets_host (f : FieldSet) : (s.setSets f).host = s.host := with_field_host s _
@[simp] theorem setSets_cmds (f : FieldSet) : (s.setSets f).cmds = s.cmds := with_field_cmds s _
@[simp] theorem setSets_ic (f : FieldSet) : (s.setSets f).ic = s.ic := with_field_ic s _
@[simp] theorem setSets_auth (f : FieldSet) : (s.setSets f).auth = s.auth := with_field_auth s _
@[simp] theorem setSets_nvs (f : FieldSet) : (s.setSets f).nvs = s.nvs := with_field_nvs s _
@[simp] theorem setSets_store (f : FieldSet) : (s.setSets f).store = s.store := with_field_store s _
@[simp] theorem setSets_upd (f : FieldSet) : (s.setSets f).upd = s.upd := with_field_upd s _
@[simp] theorem setSets_gaz (f : FieldSet) : (s.setSets f).gaz = s.gaz := with_field_gaz s _
@[simp] theorem setSets_pwr (f : FieldSet) : (s.setSets f).pwr = s.pwr := with_field_pwr s _
@[simp] theorem setSets_safe (f : FieldSet) : (s.setSets f).safe = s.safe := with_field_safe s _
@[simp] theorem setSets_free (f : FieldSet) : (s.setSets f).free = s.free := with_field_free s _

@[simp] theorem setLife_pending (l : Life) : (s.setLife l).pending = s.pending := with_gaz_pending s _
@[simp] theorem setLife_time (l : Life) : (s.setLife l).time = s.time := with_gaz_time s _
@[simp] theorem setLife_clk (l : Life) : (s.setLife l).clk = s.clk := with_gaz_clk s _
@[simp] theorem setLife_frm (l : Life) : (s.setLife l).frm = s.frm := with_gaz_frm s _
@[simp] theorem setLife_cap (l : Life) : (s.setLife l).cap = s.cap := with_gaz_cap s _
@[simp] theorem setLife_rpl (l : Life) : (s.setLife l).rpl = s.rpl := with_gaz_rpl s _
@[simp] theorem setLife_exch (l : Life) : (s.setLife l).exch = s.exch := with_gaz_exch s _
@[simp] theorem setLife_links (l : Life) : (s.setLife l).links = s.links := with_gaz_links s _
@[simp] theorem setLife_sense (l : Life) : (s.setLife l).sense = s.sense := with_gaz_sense s _
@[simp] theorem setLife_senLog (l : Life) : (s.setLife l).senLog = s.senLog := with_gaz_senLog s _
@[simp] theorem setLife_field (l : Life) : (s.setLife l).field = s.field := with_gaz_field s _
@[simp] theorem setLife_power (l : Life) : (s.setLife l).power = s.power := with_gaz_power s _
@[simp] theorem setLife_io (l : Life) : (s.setLife l).io = s.io := with_gaz_io s _
@[simp] theorem setLife_can (l : Life) : (s.setLife l).can = s.can := with_gaz_can s _
@[simp] theorem setLife_plant (l : Life) : (s.setLife l).plant = s.plant := with_gaz_plant s _
@[simp] theorem setLife_svy (l : Life) : (s.setLife l).svy = s.svy := with_gaz_svy s _
@[simp] theorem setLife_sto (l : Life) : (s.setLife l).sto = s.sto := with_gaz_sto s _
@[simp] theorem setLife_hif (l : Life) : (s.setLife l).hif = s.hif := with_gaz_hif s _
@[simp] theorem setLife_spi (l : Life) : (s.setLife l).spi = s.spi := with_gaz_spi s _
@[simp] theorem setLife_host (l : Life) : (s.setLife l).host = s.host := with_gaz_host s _
@[simp] theorem setLife_cmds (l : Life) : (s.setLife l).cmds = s.cmds := with_gaz_cmds s _
@[simp] theorem setLife_ic (l : Life) : (s.setLife l).ic = s.ic := with_gaz_ic s _
@[simp] theorem setLife_auth (l : Life) : (s.setLife l).auth = s.auth := with_gaz_auth s _
@[simp] theorem setLife_nvs (l : Life) : (s.setLife l).nvs = s.nvs := with_gaz_nvs s _
@[simp] theorem setLife_store (l : Life) : (s.setLife l).store = s.store := with_gaz_store s _
@[simp] theorem setLife_upd (l : Life) : (s.setLife l).upd = s.upd := with_gaz_upd s _
@[simp] theorem setLife_gaz (l : Life) : (s.setLife l).gaz = { s.gaz with life := l } := rfl
@[simp] theorem setLife_pwr (l : Life) : (s.setLife l).pwr = s.pwr := with_gaz_pwr s _
@[simp] theorem setLife_safe (l : Life) : (s.setLife l).safe = s.safe := with_gaz_safe s _
@[simp] theorem setLife_free (l : Life) : (s.setLife l).free = s.free := with_gaz_free s _

@[simp] theorem onSense_pending (f : SenseSt → SenseSt) : (onSense f s).pending = s.pending := with_sense_pending s _
@[simp] theorem onSense_time (f : SenseSt → SenseSt) : (onSense f s).time = s.time := with_sense_time s _
@[simp] theorem onSense_clk (f : SenseSt → SenseSt) : (onSense f s).clk = s.clk := with_sense_clk s _
@[simp] theorem onSense_frm (f : SenseSt → SenseSt) : (onSense f s).frm = s.frm := with_sense_frm s _
@[simp] theorem onSense_cap (f : SenseSt → SenseSt) : (onSense f s).cap = s.cap := with_sense_cap s _
@[simp] theorem onSense_rpl (f : SenseSt → SenseSt) : (onSense f s).rpl = s.rpl := with_sense_rpl s _
@[simp] theorem onSense_exch (f : SenseSt → SenseSt) : (onSense f s).exch = s.exch := with_sense_exch s _
@[simp] theorem onSense_links (f : SenseSt → SenseSt) : (onSense f s).links = s.links := with_sense_links s _
@[simp] theorem onSense_sense (f : SenseSt → SenseSt) : (onSense f s).sense = f s.sense := rfl
@[simp] theorem onSense_senLog (f : SenseSt → SenseSt) : (onSense f s).senLog = s.senLog := with_sense_senLog s _
@[simp] theorem onSense_field (f : SenseSt → SenseSt) : (onSense f s).field = s.field := with_sense_field s _
@[simp] theorem onSense_power (f : SenseSt → SenseSt) : (onSense f s).power = s.power := with_sense_power s _
@[simp] theorem onSense_io (f : SenseSt → SenseSt) : (onSense f s).io = s.io := with_sense_io s _
@[simp] theorem onSense_can (f : SenseSt → SenseSt) : (onSense f s).can = s.can := with_sense_can s _
@[simp] theorem onSense_plant (f : SenseSt → SenseSt) : (onSense f s).plant = s.plant := with_sense_plant s _
@[simp] theorem onSense_svy (f : SenseSt → SenseSt) : (onSense f s).svy = s.svy := with_sense_svy s _
@[simp] theorem onSense_sto (f : SenseSt → SenseSt) : (onSense f s).sto = s.sto := with_sense_sto s _
@[simp] theorem onSense_hif (f : SenseSt → SenseSt) : (onSense f s).hif = s.hif := with_sense_hif s _
@[simp] theorem onSense_spi (f : SenseSt → SenseSt) : (onSense f s).spi = s.spi := with_sense_spi s _
@[simp] theorem onSense_host (f : SenseSt → SenseSt) : (onSense f s).host = s.host := with_sense_host s _
@[simp] theorem onSense_cmds (f : SenseSt → SenseSt) : (onSense f s).cmds = s.cmds := with_sense_cmds s _
@[simp] theorem onSense_ic (f : SenseSt → SenseSt) : (onSense f s).ic = s.ic := with_sense_ic s _
@[simp] theorem onSense_auth (f : SenseSt → SenseSt) : (onSense f s).auth = s.auth := with_sense_auth s _
@[simp] theorem onSense_nvs (f : SenseSt → SenseSt) : (onSense f s).nvs = s.nvs := with_sense_nvs s _
@[simp] theorem onSense_store (f : SenseSt → SenseSt) : (onSense f s).store = s.store := with_sense_store s _
@[simp] theorem onSense_upd (f : SenseSt → SenseSt) : (onSense f s).upd = s.upd := with_sense_upd s _
@[simp] theorem onSense_gaz (f : SenseSt → SenseSt) : (onSense f s).gaz = s.gaz := with_sense_gaz s _
@[simp] theorem onSense_pwr (f : SenseSt → SenseSt) : (onSense f s).pwr = s.pwr := with_sense_pwr s _
@[simp] theorem onSense_safe (f : SenseSt → SenseSt) : (onSense f s).safe = s.safe := with_sense_safe s _
@[simp] theorem onSense_free (f : SenseSt → SenseSt) : (onSense f s).free = s.free := with_sense_free s _

@[simp] theorem spiAnswer_pending (b : Bytes) : (spiAnswer b s).pending = s.pending := with_spi_pending s _
@[simp] theorem spiAnswer_time (b : Bytes) : (spiAnswer b s).time = s.time := with_spi_time s _
@[simp] theorem spiAnswer_clk (b : Bytes) : (spiAnswer b s).clk = s.clk := with_spi_clk s _
@[simp] theorem spiAnswer_frm (b : Bytes) : (spiAnswer b s).frm = s.frm := with_spi_frm s _
@[simp] theorem spiAnswer_cap (b : Bytes) : (spiAnswer b s).cap = s.cap := with_spi_cap s _
@[simp] theorem spiAnswer_rpl (b : Bytes) : (spiAnswer b s).rpl = s.rpl := with_spi_rpl s _
@[simp] theorem spiAnswer_exch (b : Bytes) : (spiAnswer b s).exch = s.exch := with_spi_exch s _
@[simp] theorem spiAnswer_links (b : Bytes) : (spiAnswer b s).links = s.links := with_spi_links s _
@[simp] theorem spiAnswer_sense (b : Bytes) : (spiAnswer b s).sense = s.sense := with_spi_sense s _
@[simp] theorem spiAnswer_senLog (b : Bytes) : (spiAnswer b s).senLog = s.senLog := with_spi_senLog s _
@[simp] theorem spiAnswer_field (b : Bytes) : (spiAnswer b s).field = s.field := with_spi_field s _
@[simp] theorem spiAnswer_power (b : Bytes) : (spiAnswer b s).power = s.power := with_spi_power s _
@[simp] theorem spiAnswer_io (b : Bytes) : (spiAnswer b s).io = s.io := with_spi_io s _
@[simp] theorem spiAnswer_can (b : Bytes) : (spiAnswer b s).can = s.can := with_spi_can s _
@[simp] theorem spiAnswer_plant (b : Bytes) : (spiAnswer b s).plant = s.plant := with_spi_plant s _
@[simp] theorem spiAnswer_svy (b : Bytes) : (spiAnswer b s).svy = s.svy := with_spi_svy s _
@[simp] theorem spiAnswer_sto (b : Bytes) : (spiAnswer b s).sto = s.sto := with_spi_sto s _
@[simp] theorem spiAnswer_hif (b : Bytes) : (spiAnswer b s).hif = s.hif := with_spi_hif s _
@[simp] theorem spiAnswer_host (b : Bytes) : (spiAnswer b s).host = s.host := with_spi_host s _
@[simp] theorem spiAnswer_cmds (b : Bytes) : (spiAnswer b s).cmds = s.cmds := with_spi_cmds s _
@[simp] theorem spiAnswer_ic (b : Bytes) : (spiAnswer b s).ic = s.ic := with_spi_ic s _
@[simp] theorem spiAnswer_auth (b : Bytes) : (spiAnswer b s).auth = s.auth := with_spi_auth s _
@[simp] theorem spiAnswer_nvs (b : Bytes) : (spiAnswer b s).nvs = s.nvs := with_spi_nvs s _
@[simp] theorem spiAnswer_store (b : Bytes) : (spiAnswer b s).store = s.store := with_spi_store s _
@[simp] theorem spiAnswer_upd (b : Bytes) : (spiAnswer b s).upd = s.upd := with_spi_upd s _
@[simp] theorem spiAnswer_gaz (b : Bytes) : (spiAnswer b s).gaz = s.gaz := with_spi_gaz s _
@[simp] theorem spiAnswer_pwr (b : Bytes) : (spiAnswer b s).pwr = s.pwr := with_spi_pwr s _
@[simp] theorem spiAnswer_safe (b : Bytes) : (spiAnswer b s).safe = s.safe := with_spi_safe s _
@[simp] theorem spiAnswer_free (b : Bytes) : (spiAnswer b s).free = s.free := with_spi_free s _

@[simp] theorem spiDiscard_pending : (spiDiscard s).pending = s.pending := with_spi_pending s _
@[simp] theorem spiDiscard_time : (spiDiscard s).time = s.time := with_spi_time s _
@[simp] theorem spiDiscard_clk : (spiDiscard s).clk = s.clk := with_spi_clk s _
@[simp] theorem spiDiscard_frm : (spiDiscard s).frm = s.frm := with_spi_frm s _
@[simp] theorem spiDiscard_cap : (spiDiscard s).cap = s.cap := with_spi_cap s _
@[simp] theorem spiDiscard_rpl : (spiDiscard s).rpl = s.rpl := with_spi_rpl s _
@[simp] theorem spiDiscard_exch : (spiDiscard s).exch = s.exch := with_spi_exch s _
@[simp] theorem spiDiscard_links : (spiDiscard s).links = s.links := with_spi_links s _
@[simp] theorem spiDiscard_sense : (spiDiscard s).sense = s.sense := with_spi_sense s _
@[simp] theorem spiDiscard_senLog : (spiDiscard s).senLog = s.senLog := with_spi_senLog s _
@[simp] theorem spiDiscard_field : (spiDiscard s).field = s.field := with_spi_field s _
@[simp] theorem spiDiscard_power : (spiDiscard s).power = s.power := with_spi_power s _
@[simp] theorem spiDiscard_io : (spiDiscard s).io = s.io := with_spi_io s _
@[simp] theorem spiDiscard_can : (spiDiscard s).can = s.can := with_spi_can s _
@[simp] theorem spiDiscard_plant : (spiDiscard s).plant = s.plant := with_spi_plant s _
@[simp] theorem spiDiscard_svy : (spiDiscard s).svy = s.svy := with_spi_svy s _
@[simp] theorem spiDiscard_sto : (spiDiscard s).sto = s.sto := with_spi_sto s _
@[simp] theorem spiDiscard_hif : (spiDiscard s).hif = s.hif := with_spi_hif s _
@[simp] theorem spiDiscard_host : (spiDiscard s).host = s.host := with_spi_host s _
@[simp] theorem spiDiscard_cmds : (spiDiscard s).cmds = s.cmds := with_spi_cmds s _
@[simp] theorem spiDiscard_ic : (spiDiscard s).ic = s.ic := with_spi_ic s _
@[simp] theorem spiDiscard_auth : (spiDiscard s).auth = s.auth := with_spi_auth s _
@[simp] theorem spiDiscard_nvs : (spiDiscard s).nvs = s.nvs := with_spi_nvs s _
@[simp] theorem spiDiscard_store : (spiDiscard s).store = s.store := with_spi_store s _
@[simp] theorem spiDiscard_upd : (spiDiscard s).upd = s.upd := with_spi_upd s _
@[simp] theorem spiDiscard_gaz : (spiDiscard s).gaz = s.gaz := with_spi_gaz s _
@[simp] theorem spiDiscard_pwr : (spiDiscard s).pwr = s.pwr := with_spi_pwr s _
@[simp] theorem spiDiscard_safe : (spiDiscard s).safe = s.safe := with_spi_safe s _
@[simp] theorem spiDiscard_free : (spiDiscard s).free = s.free := with_spi_free s _

/-! The count that the updates leave. -/

theorem now_eq {a b : State} (h : a.time = b.time) : a.now = b.now := by unfold State.now; rw [h]

end Sys2Proof.Machine
end

