-- ==== Sys2Proof/WellFormed.lean ====
section
/-!
DEFINITION. Well-formed commands: every operand in the range that its field or number has in the spec. The machine's
meaning is total and does not need it.
-/
namespace Sys2Proof

/-- A number below a bound. -/
def lt (v n : Nat) : Bool := decide (v < n)
/-- A number from `a` to `b - 1`. -/
def within (v a b : Nat) : Bool := decide (a ≤ v) && decide (v < b)

/-- A Meridian instant has 64 bits (02 R40). -/
def tick (t : Nat) : Bool := lt t (2 ^ 64)
/-- A 32-bit word. -/
def word (v : Nat) : Bool := lt v (2 ^ 32)

/-- A source of commands: 16 command rings, 4 CAN channels, SPI (13 R373). -/
def Src.wf : Src → Bool
  | .ring n => lt n 16
  | .can ch => lt ch 4
  | .spi => true

/-- The fields of a descriptor have the widths of 13 Table 13-2; the payload read returns at most PLEN bytes. -/
def Desc.wf (d : Desc) : Bool :=
  d.src.wf && lt d.flags (2 ^ 16) && lt d.tag (2 ^ 32) && lt d.frame (2 ^ 64) && lt d.payload (2 ^ 64) && lt d.plen (2 ^ 32) &&
  lt d.keySlot 256 && lt d.rsv1 (2 ^ 24) && lt d.counter (2 ^ 32) && lt d.rsv2 (2 ^ 32) && d.check.length == 8 &&
  d.params.length == 16 && decide (d.data.length ≤ d.plen)

/-- The fields of an SPI transaction (13 R390). -/
def SpiTx.wf (x : SpiTx) : Bool := lt x.addr (2 ^ 24) && lt x.len (2 ^ 16) && lt x.crc (2 ^ 16)

/-- A frame of a CAN record (12 Table 12-6): 30 identifier bits with their marks, 7 bits of DLC byte, at most 64 bytes. -/
def CanFrame.wf (f : CanFrame) : Bool := lt f.id (2 ^ 31) && lt f.dlc (2 ^ 7) && decide (f.data.length ≤ 64)

/-- The IO die has four segments (11 R315). -/
def Budget.wf : Budget → Bool
  | .segment s => lt s 4
  | .die => true

def Supply.wf : Supply → Bool
  | .segment s => lt s 4
  | .vfldPower => true
  | .vfldIo => true

/-- A monitor of a field die reads 0 to 64 V, in mV (09 R270, 11 R332). -/
def volts (mv : Nat) : Bool := decide (mv ≤ 64000)
/-- A 12-bit converter code (09 R270). -/
def code12 (c : Nat) : Bool := lt c 4096
/-- Samples of an input: pin voltage, current in 10 µA below 655.36 mA, supply (11 R318). -/
def inputSamplesWf (l : List (Nat × Nat × Nat)) : Bool := l.all fun x => volts x.1 && lt x.2.1 65536 && volts x.2.2

/-- Inverted bits of a link frame's bytes 1 to 95 (01 R13). -/
def Damage.wf (x : Damage) : Bool := x.flips.all fun b => lt b 760
/-- Samples of the 12-bit tone converter (08 R250). -/
def toneSamples (l : List Int) : Bool := l.all fun x => decide (-2048 ≤ x) && decide (x ≤ 2047)

/-- A command is well formed. -/
def Instr.wf : Instr → Bool
  | .readTime t d => tick t && d.wf
  | .setSlew t d => tick t && d.wf
  | .setClock t d => tick t && d.wf
  | .readEra t d => tick t && d.wf
  | .captureStart t d => tick t && d.wf
  | .captureStop t d => tick t && d.wf
  | .captureRead t d => tick t && d.wf
  | .enterReplay t d => tick t && d.wf
  | .leaveReplay t d => tick t && d.wf
  | .readDigest t d => tick t && d.wf
  | .replayRecord t rec => tick t && rec.length == 32
  | .mapStatus t d => tick t && d.wf
  | .loadLegend t d => tick t && d.wf
  | .readLegend t d => tick t && d.wf
  | .eraseLegend t d => tick t && d.wf
  | .mapPrime t d => tick t && d.wf
  | .predRead t d => tick t && d.wf
  | .biasRead t d => tick t && d.wf
  | .biasReset t d => tick t && d.wf
  | .setInlet t d => tick t && d.wf
  | .pairRead t d => tick t && d.wf
  | .mapExport t d => tick t && d.wf
  | .mapSave t d => tick t && d.wf
  | .mapRestore t d => tick t && d.wf
  | .dryStatus t d => tick t && d.wf
  | .dischargeStart t d => tick t && d.wf
  | .dischargeStop t d => tick t && d.wf
  | .setRate t d => tick t && d.wf
  | .setTarget t d => tick t && d.wf
  | .heatPermit t d => tick t && d.wf
  | .heatOverride t d => tick t && d.wf
  | .setPlenum t d => tick t && d.wf
  | .routeStart t d => tick t && d.wf
  | .routeStop t d => tick t && d.wf
  | .batchControl t d => tick t && d.wf
  | .dryRearm t d => tick t && d.wf
  | .decisionRead t d => tick t && d.wf
  | .routeStatus t d => tick t && d.wf
  | .hostLimitTimeout t map => tick t && lt map 256
  | .stoStatus t d => tick t && d.wf
  | .aerationMode t d => tick t && d.wf
  | .aerationForce t d => tick t && d.wf
  | .stoAck t d => tick t && d.wf
  | .sensorRead t d => tick t && d.wf
  | .budgetRead t d => tick t && d.wf
  | .nodeScan t d => tick t && d.wf
  | .senRead t d => tick t && d.wf
  | .seqRequest t d => tick t && d.wf
  | .cswClear t d => tick t && d.wf
  | .cswRead t d => tick t && d.wf
  | .senCounts t d => tick t && d.wf
  | .moistSpectrum t d => tick t && d.wf
  | .moistEmpty t d => tick t && d.wf
  | .checkRun t d => tick t && d.wf
  | .checkRead t d => tick t && d.wf
  | .checkBaseline t d => tick t && d.wf
  | .linTest t d => tick t && d.wf
  | .vlvStatus t d => tick t && d.wf
  | .vlvForce t d => tick t && d.wf
  | .vlvClear t d => tick t && d.wf
  | .vlvTherm t d => tick t && d.wf
  | .fanStatus t d => tick t && d.wf
  | .fanSet t d => tick t && d.wf
  | .fanForce t d => tick t && d.wf
  | .fanClear t d => tick t && d.wf
  | .fanLoopSet t d => tick t && d.wf
  | .fanLearn t d => tick t && d.wf
  | .uioStatus t d => tick t && d.wf
  | .uioSet t d => tick t && d.wf
  | .uioForce t d => tick t && d.wf
  | .uioClear t d => tick t && d.wf
  | .uioSupply t d => tick t && d.wf
  | .canStatus t d => tick t && d.wf
  | .canTxCancel t d => tick t && d.wf
  | .canRecover t d => tick t && d.wf
  | .canClaim t d => tick t && d.wf
  | .canRelease t d => tick t && d.wf
  | .canStrangers t d => tick t && d.wf
  | .sysInfo t d => tick t && d.wf
  | .loadDatum t d => tick t && d.wf
  | .abort t d => tick t && d.wf
  | .exchangeRead t d => tick t && d.wf
  | .sampleFeed t d => tick t && d.wf
  | .readDatum t d => tick t && d.wf
  | .pwrState t d => tick t && d.wf
  | .pwrReset t d => tick t && d.wf
  | .planSet t d => tick t && d.wf
  | .planRead t d => tick t && d.wf
  | .safeRelease t d => tick t && d.wf
  | .safeSet t d => tick t && d.wf
  | .safeStatus t d => tick t && d.wf
  | .keyStatus t d => tick t && d.wf
  | .keyChange t d => tick t && d.wf
  | .keyErase t d => tick t && d.wf
  | .cosignSet t d => tick t && d.wf
  | .cosignRead t d => tick t && d.wf
  | .queryLedger t d => tick t && d.wf
  | .settingsCommit t d => tick t && d.wf
  | .nvsStatus t d => tick t && d.wf
  | .updStatus t d => tick t && d.wf
  | .updBegin t d => tick t && d.wf
  | .updBlock t d => tick t && d.wf
  | .updBitmap t d => tick t && d.wf
  | .updApply t d => tick t && d.wf
  | .updActivate t d => tick t && d.wf
  | .updConfirm t d => tick t && d.wf
  | .updFallback t d => tick t && d.wf
  | .updCancel t d => tick t && d.wf
  | .stageBegin t d => tick t && d.wf
  | .stageWrite t d => tick t && d.wf
  | .stageCommit t d => tick t && d.wf
  | .stageStatus t d => tick t && d.wf
  | .gazStatus t d => tick t && d.wf
  | .gazRead t d => tick t && d.wf
  | .gazClear t d => tick t && d.wf
  | .lifeRead t d => tick t && d.wf
  | .lifeReplace t d => tick t && d.wf
  | .maintAck t d => tick t && d.wf
  | .lastWordsRead t d => tick t && d.wf
  | .doorbellWrite t ring v => tick t && lt ring 46 && word v
  | .heartbeatDoorbell t v => tick t && word v
  | .hifHbkick t v => tick t && word v
  | .hifHbcfgWrite t v => tick t && word v
  | .heartbeatTimeout t => tick t
  | .ringEnable t ring v => tick t && lt ring 46 && word v
  | .ringDisable t ring v => tick t && lt ring 46 && word v
  | .heldCompletionWrite t cq => tick t && lt cq 16
  | .spillDrain t ring => tick t && within ring 32 41
  | .functionLevelReset t => tick t
  | .pcieLinkReset t => tick t
  | .registerWrite t addr _ v => tick t && lt addr 65536 && word v
  | .merNowLoRead t _ => tick t
  | .sysIlcfgWrite t n v => tick t && lt n 3 && word v
  | .sysLedgerSelWrite t v => tick t && word v
  | .gazCfgWrite t v => tick t && word v
  | .canMbbaseWrite t ch _ v => tick t && lt ch 4 && word v
  | .icClaim t n => tick t && lt n 8
  | .icDone t n v => tick t && lt n 8 && word v
  | .icTreset t v => tick t && word v
  | .icSwset t v => tick t && word v
  | .icPendClear t w v => tick t && lt w 8 && word v
  | .icSrccfgWrite t src v => tick t && lt src 256 && word v
  | .icTsleepWrite t v => tick t && word v
  | .icSourceEvent t src _ => tick t && lt src 256
  | .icCoalesceTimeout t src => tick t && lt src 256
  | .spiRegisterWrite t x => tick t && x.wf
  | .spiRegisterRead t x => tick t && x.wf
  | .spiBufferWrite t x => tick t && x.wf
  | .spiBufferRead t x => tick t && x.wf
  | .spiMailboxPost t x => tick t && x.wf
  | .spiMailboxRead t x => tick t && x.wf
  | .logicFrameSend t link => tick t && lt link 3
  | .farFrameReceive t link dmg => tick t && lt link 3 && dmg.wf
  | .farFrameSend t link => tick t && lt link 3
  | .logicFrameReceive t link dmg => tick t && lt link 3 && dmg.wf
  | .farSilenceTimeout t link => tick t && lt link 3
  | .nearSilenceTimeout t link => tick t && lt link 3
  | .leaseExpiry t link => tick t && lt link 3
  | .linkLostSynth t link => tick t && lt link 3
  | .dieConfigLoad t link => tick t && lt link 3
  | .sequencerLoad t link _ => tick t && lt link 3
  | .seqLoadRetry t link _ => tick t && lt link 3
  | .frameDecisions t _ _ _ => tick t
  | .applyInstant t => tick t
  | .predictionRunEnd t lane => tick t && lt lane 4
  | .seqPeriodicDue t seq => tick t && lt seq 256
  | .modulationStart t list => tick t && lt list 5
  | .conversionEnd t list _ _ => tick t && lt list 5
  | .toneConversionEnd t samples => tick t && samples.all toneSamples
  | .resultRelease t => tick t
  | .openWireRun t list runs => tick t && lt list 5 && runs.comps.all fun x => lt x.1 256
  | .impCheckStart t => tick t
  | .impCheckEnd t loop ground => tick t && toneSamples loop && toneSamples ground && loop.length == 12000 && ground.length == 12000
  | .checkRound t => tick t
  | .pinRecheckDue t pin => tick t && lt pin 256
  | .vlvPeakReached t x => tick t && lt x.unit 16 && code12 x.value
  | .vlvDwellEnd t ch => tick t && lt ch 16
  | .vlvHoldReached t x => tick t && lt x.unit 16 && code12 x.value
  | .vlvDecayEnd t x => tick t && lt x.unit 16 && code12 x.value
  | .vlvPeakTimeout t ch => tick t && lt ch 16
  | .vlvDeferTimeout t ch => tick t && lt ch 16
  | .vlvThermalTick t i2 _ => tick t && decide (i2.length ≤ 16) && i2.all fun x => decide (x ≤ 4095 * 4095)
  | .vlvResistanceMeasure t ch _ _ meanI => tick t && lt ch 16 && code12 meanI
  | .vlvOffStateTest t ch vd vb => tick t && lt ch 16 && volts vd && volts vb
  | .vlvOnStateFault t ch x => tick t && lt ch 16 && volts x.v1 && volts x.v2 && code12 x.i0 && code12 x.i1 && code12 x.i2
  | .vlvOpenTest t ch iDet vd => tick t && lt ch 16 && code12 iDet && volts vd
  | .bankShort t x => tick t && lt x.bank 4 && volts x.top && volts x.sup
  | .bankStuckOn t x => tick t && lt x.unit 4 && volts x.value
  | .vlvMovement t ch bins => tick t && lt ch 16 && bins.all fun b => decide (b.natAbs ≤ 64000)
  | .clampLow t vfld => tick t && volts vfld
  | .fanTachEdge t ch _ => tick t && lt ch 12
  | .fanStartWindowEnd t ch _ => tick t && lt ch 12
  | .fanRunJudge t ch _ => tick t && lt ch 12
  | .fanOutputFault t ch x => tick t && lt ch 12 && volts x.mv
  | .fanRetryTimeout t ch => tick t && lt ch 12
  | .fanRun60s t ch => tick t && lt ch 12
  | .fanLoopTick t ch => tick t && lt ch 12
  | .fanTableTick t ch => tick t && lt ch 12
  | .fanTsnsRead t ch _ => tick t && lt ch 12
  | .fanBinLearn t ch _ => tick t && lt ch 12
  | .fanFrameReport t ch _ => tick t && lt ch 12
  | .uioFilterChange t ch l => tick t && lt ch 32 && inputSamplesWf l
  | .uioWireBreak t ch l x => tick t && lt ch 32 && inputSamplesWf (l ++ [x])
  | .uioFrameReport t ch x => tick t && lt ch 32 && inputSamplesWf x.samples
  | .uioPwmPeriod t ch => tick t && lt ch 32
  | .uioOverload t x => tick t && lt x.ch 32 && decide (x.curs.length ≤ 4)
  | .uioBudgetOverload t x => tick t && x.what.wf && x.sums.all fun l => l.length == 32
  | .uioOpenLoad t ch x => tick t && lt ch 32 && volts x.pin && volts x.sup
  | .uioOffStateTest t ch pin => tick t && lt ch 32 && volts pin
  | .uioCrossfeedPulse t pin => tick t && volts pin
  | .fieldSupplyOff t x => tick t && x.supply.wf && volts x.mv
  | .uvWarn t vfld => tick t && volts vfld
  | .uvWarnEnd t vfld => tick t && volts vfld
  | .supplyRecovery t x => tick t && x.supply.wf && volts x.mv
  | .fieldDieReset t x => tick t && lt x.unit 3 && volts x.value
  | .fieldDieRestart t x => tick t && lt x.unit 3 && volts x.value
  | .canFrameReceive t ch _ f => tick t && lt ch 4 && f.wf
  | .canTxRingTake t ch recs => tick t && lt ch 4 && recs.all (fun r => r.length == 32)
  | .canTxComplete t ch _ => tick t && lt ch 4
  | .canTxError t ch _ => tick t && lt ch 4
  | .canBusOff t ch _ => tick t && lt ch 4
  | .canRecoveryDone t ch => tick t && lt ch 4
  | .canClaimTimeout t ch => tick t && lt ch 4
  | .canWakePattern t ch => tick t && lt ch 4
  | .canSleepDiscard t ch => tick t && lt ch 4
  | .canDominantTimeout t x => tick t && lt x.unit 4
  | .cableReadStart t => tick t
  | .fsafeNLow t => tick t
  | .powerLoss t => tick t
  | .pornLow t => tick t
  | .sysrstNLow t => tick t
  | .watchdogTimeout t => tick t
  | .orderedReset t => tick t
  | .pornRelease t => tick t
  | .startupReady t _ => tick t
  | .trialWindowEnd t => tick t
  | .sleepEntry t => tick t
  | .watchCycle t => tick t
  | .leaseRenewalWake t => tick t
  | .wakeSource t src => tick t && lt src 256
  | .haltTimer t => tick t
  | .meridianFloorWrite t => tick t
  | .refClockLost t => tick t
  | .refClockRestored t => tick t
  | .lfClockLost t => tick t
  | .lfClockProven t => tick t
  | .housekeepingRound t temps rails _ => tick t && temps.length == 4 && rails.length == 8
  | .farTempCheck t link _ => tick t && lt link 3
  | .thermalShutdownEnd t site => tick t && lt site 7
  | .authLockEnd t slot => tick t && lt slot 8
  | .settingsPeriodicCommit t => tick t
  | .lifetimeCommit t => tick t
  | .mramScrub t addr _ => tick t && lt addr 8388608
  | .gazSecondSample t => tick t
  | .gazPeriodClose t level => tick t && lt level 2
  | .hourlyBenchmark t => tick t
  | .maintItemFire t item => tick t && lt item 64
  | .completionPoint t src tag => tick t && src.wf && word tag
  | .fsafeNHigh t => tick t
  | .pllUnlock t pll => tick t && lt pll 6
  | .pllRelock t pll => tick t && lt pll 6
  | .canRxError t ch _ => tick t && lt ch 4
  | .pcieLinkUp t _ _ _ => tick t
  | .shortToSupplyOff t x => tick t && lt x.unit 32 && volts x.value
  | .senseDiePowerUp t => tick t
  | .nodeScanEnd t => tick t
  | .fanReferenceSlew t ch => tick t && lt ch 12

end Sys2Proof
end

