-- ==== Sys2Proof/Tests/Slice0.lean ====
section
/-!
SUPPORT. The package's own tests: ill-formed commands that the check refuses, values of the spec's worked examples, and for every
statement states and operands that meet its hypotheses.
-/
namespace Sys2Proof.Tests
open Sys2Proof Sys2Proof.Machine
set_option Elab.async false
set_option linter.unusedVariables false

/-! Helpers: descriptors, states, and what "a command begins where P holds" and "an event comes where P holds" say of one state. -/

/-- A command on ring 0 with a payload address and room for an answer of 64 KB. -/
def noDesc : Desc :=
  { src := .ring 0, flags := 0, tag := 1, frame := 0, payload := 4096, plen := 65536, keySlot := 0, rsv1 := 0, counter := 0, rsv2 := 0
    check := zeros 8, params := zeros 16, data := [], readError := false }
/-- The same with parameters. -/
def qry (ps : Bytes) : Desc := { noDesc with params := padTo 16 ps }
/-- The same with parameters and a payload. -/
def qd (ps data : Bytes) : Desc := { noDesc with params := padTo 16 ps, plen := data.length, data }
/-- The key of the tests. -/
def key0 : Bytes := zeros 16
/-- A CRIT command of an opcode, judged with the key of a slot. -/
def crit (op slot : Nat) (ps data : Bytes) : Desc :=
  let d := { qd ps data with flags := 2 ^ 15, keySlot := slot, counter := 1 }
  { d with check := (cmac key0 (checkMessage op d data)).take 8 }
/-- A taken command, as it waits for its frame. -/
def cmd (op : Nat) (ps : Bytes) (data : Bytes := []) : Cmd :=
  { op, d := if data = [] then qry ps else qd ps data, acc := 0, eff := 0, tied := true, internal := false, led := none, prog := 0, aux := 0 }

/-- A record of `n` bytes from its fields: offset, width, value. -/
def put (n : Nat) (l : List (Nat × Nat × Nat)) : Bytes :=
  l.foldl (fun r f => r.take f.1 ++ leBytes f.2.1 f.2.2 ++ r.drop (f.1 + f.2.1)) (zeros n)

/-- A device in service: READY, the PCIe link up, command ring 0 with one command and completion ring 16 enabled, keys in slots 0 and 1. -/
def live : State :=
  let s := State.reset
  { s with
    pwr := { s.pwr with porn := false, reset := false }
    time := { s.time with acc := 2 ^ 70 }
    auth := { s.auth with slots := setAt 0 { key := oneTwo { key := some key0, mask := 0x0800, installs := 1 }, ctr := noTwo }
                                    (setAt 1 { key := oneTwo { key := some key0, mask := 0xF7FE, installs := 1 }, ctr := noTwo } s.auth.slots) }
    hif := { s.hif with ready := true, linkUp := true, bme := true
                        rings := setAt 0 { ringReset with enable := true, host := 1 } (setAt 16 { ringReset with enable := true } s.hif.rings) } }

/-- A command comes at an instant that has passed, begins, and `p` holds there. -/
def meets (k : Spec) (d : Desc) (s : State) (p : Cmd → State → Bool) : Bool :=
  match begins k d (advance 0 s) with | some x => p x.1 x.2 | none => false
/-- A command of opcode `op` stands before the decisions of a frame in which `p` holds. -/
def stands (op : Nat) (c : Cmd) (s : State) (p : Cmd → State → Bool) : Bool := c.op == op && p c (ledRun c.led s)
/-- An event comes at an instant that has passed, where `p` holds. -/
def comes (s : State) (p : State → Bool) : Bool := p (advance 0 s)

/-! The check of a CRIT command of the tests is right, so its judgement goes on to its later steps. -/

theorem xorL_length (a b : List Nat) : (xorL a b).length = min a.length b.length := by simp [xorL]
theorem key0_round : ((aesKeys (toNats key0)).getD 10 []).length = 16 := by decide +kernel
theorem aesEnc_length (b : Bytes) : (aesEnc key0 b).length = 16 := by
  simp only [aesEnc, ofNats, List.length_map, aesEncL, xorL_length, key0_round, shiftRows, List.length_cons, List.length_nil]
  rfl
theorem cmac_length (m : Bytes) : (cmac key0 m).length = 16 := by simp only [cmac, aesEnc_length]
theorem padTo_self (b : Bytes) : padTo b.length b = b := by simp [padTo]
theorem check_right (op slot : Nat) (ps data : Bytes) :
    checkOk key0 op { crit op slot ps data with data := data } data = true := by
  have h : padTo 8 ((cmac key0 (checkMessage op { qd ps data with flags := 2 ^ 15, keySlot := slot, counter := 1 } data)).take 8)
      = (cmac key0 (checkMessage op { qd ps data with flags := 2 ^ 15, keySlot := slot, counter := 1 } data)).take 8 := by
    have h8 := cmac_length (checkMessage op { qd ps data with flags := 2 ^ 15, keySlot := slot, counter := 1 } data)
    generalize cmac key0 _ = x at h8 ⊢
    have h3 : (x.take 8).length = 8 := by simp [h8]
    have h4 := padTo_self (x.take 8)
    rw [h3] at h4
    exact h4
  unfold checkOk
  exact beq_iff_eq.mpr h.symm

/-- The judgement without its check. -/
def judged (op : Nat) (d : Desc) (s : State) : State × Option Nat :=
  let n := d.keySlot
  if 7 < n then (s, some stKeyTarget)
  else if s.locked n then (s, some stSlotLocked)
  else if exhaustedFor (s.ctrRec n).last n op (u8 d.params 0) then (s, some stKeyExhausted)
  else if d.counter ≤ (s.ctrRec n).last then (s, some stCounterStale)
  else if maskAllows n (s.keyRec n).mask (op / 256) = false then (s, some stKeyRole)
  else
    let q := storeCtr n { last := d.counter, fails := 0, level := 0, lockEnd := 0 } s
    (q.1, if q.2 then none else some stNvsWrite)

theorem judge_right {op : Nat} {d : Desc} {s : State} (hk : (s.keyRec d.keySlot).key = some key0) (hc : checkOk key0 op d d.data = true) :
    judgeCrit op d d.data s = judged op d s := by
  unfold judgeCrit judged
  simp only [hk, hc, Bool.true_eq_false, if_false]

/-- `meets` with the judgement's check taken as right. -/
def meetsJudged (k : Spec) (slot : Nat) (ps data : Bytes) (s0 : State) (p : Cmd → State → Bool) : Bool :=
  let d := { crit k.op slot ps data with data := data }
  let s := takeOut d (advance 0 s0)
  if sourceOpen d.src (advance 0 s0) && offered k.op d (advance 0 s0) && decide ((s.keyRec slot).key = some key0) then
    let led := ledgerPick s
    if (refuseAtTaking k d (some data) s).isSome = true ∨ (ledgered k d = true ∧ led = none) then false
    else
      let j := judged k.op d s
      let q := refuseAccepted k d j.1
      if j.2.isSome = true ∨ q.2.isSome = true then false
      else
        let s1 := openEntry led k d j.1.now q.1 j.1
        p { op := k.op, d, acc := j.1.now, eff := q.1, tied := k.frame == 1, internal := false, led, prog := 0, aux := 0 }
          (if k.frame = 1 then s1 else ledRun led s1)
  else false

theorem crit_meets {k : Spec} {slot : Nat} {ps data : Bytes} {s0 : State} {p : Cmd → State → Bool}
    (h : meetsJudged k slot ps data s0 p = true) : meets k (crit k.op slot ps data) s0 p = true := by
  have hd : ({ crit k.op slot ps data with data := data } : Desc) = crit k.op slot ps data := rfl
  have hl : ledgered k (crit k.op slot ps data) = true := by simp [ledgered, flCrit, crit, qd, noDesc, bit]
  have hf : flCrit (crit k.op slot ps data) = true := by simp [flCrit, crit, qd, noDesc, bit]
  have hc := check_right k.op slot ps data
  rw [hd] at hc
  have hdat : (crit k.op slot ps data).data = data := rfl
  have hslot : (crit k.op slot ps data).keySlot = slot := rfl
  have hpay : ∀ s, payloadOf (crit k.op slot ps data) s = some data := by
    intro s
    show some (padTo data.length data) = some data
    rw [padTo_self]
  unfold meetsJudged at h
  unfold meets begins
  simp only [hd] at h
  generalize hg : crit k.op slot ps data = d at *
  cases h0 : (sourceOpen d.src (advance 0 s0) && offered k.op d (advance 0 s0)) with
  | false => simp [h0] at h
  | true =>
    have hk : ((takeOut d (advance 0 s0)).keyRec slot).key = some key0 := by
      by_contra hn
      simp [h0, hn] at h
    simp only [h0, hk, decide_true, Bool.and_self, if_true, hl, true_and] at h
    simp only [Bool.true_eq_false, if_false, hpay, Option.getD_some]
    have hdd : ({ d with data := data } : Desc) = d := by rw [← hdat]
    have hj := judge_right (op := k.op) (d := d) (s := takeOut d (advance 0 s0)) (by rw [hslot]; exact hk) (by rw [hdat]; exact hc)
    rw [hdat] at hj
    simp only [hdd, hl, hf, if_true, hj, true_and]
    by_cases hr : (refuseAtTaking k d (some data) (takeOut d (advance 0 s0))).isSome = true ∨
        ledgerPick (takeOut d (advance 0 s0)) = none
    · simp only [hr, if_true, Bool.false_eq_true] at h
    · simp only [hr, if_false] at h ⊢
      by_cases hq : (judged k.op d (takeOut d (advance 0 s0))).2.isSome = true ∨
          (refuseAccepted k d (judged k.op d (takeOut d (advance 0 s0))).1).2.isSome = true
      · simp only [hq, if_true, Bool.false_eq_true] at h
      · simp only [hq, if_false] at h ⊢
        exact h

/-- A value that a condition names by equality is found where the rest of the condition holds. -/
theorem meets_pair {k : Spec} {d : Desc} {s : State} {a : Cmd → State → Bool} {e : Cmd → State → State × Bool}
    (h : meets k d s (fun c s => a c s && (e c s).2) = true) :
    ∃ s2, meets k d s (fun c s => a c s && decide (e c s = (s2, true))) = true := by
  unfold meets at h ⊢
  cases hb : begins k d (advance 0 s) with
  | none => simp [hb] at h
  | some x =>
    simp only [hb, Bool.and_eq_true] at h
    refine ⟨(e x.1 x.2).1, ?_⟩
    simp only [Bool.and_eq_true, decide_eq_true_eq]
    exact ⟨h.1, Prod.ext rfl h.2⟩
theorem meets_some {α : Type} [DecidableEq α] {k : Spec} {d : Desc} {s : State} {a : Cmd → State → Bool} {e : Cmd → State → Option α}
    (h : meets k d s (fun c s => a c s && (e c s).isSome) = true) :
    ∃ x, meets k d s (fun c s => a c s && decide (e c s = some x)) = true := by
  unfold meets at h ⊢
  cases hb : begins k d (advance 0 s) with
  | none => simp [hb] at h
  | some x =>
    simp only [hb, Bool.and_eq_true] at h
    obtain ⟨v, hv⟩ := Option.isSome_iff_exists.mp h.2
    refine ⟨v, ?_⟩
    simp only [Bool.and_eq_true, decide_eq_true_eq]
    exact ⟨h.1, hv⟩

/-- A dryer map 0 and a batch map 2, a bin map 1; their records; entries 0 and 4 of the PGA lists and 8 of the tone list; a valve, two
fans, an input, an output and a PWM output; a CAN channel. -/
def mapR (n kind : Nat) : Bytes := put 32 [(0, 1, n), (1, 1, kind), (2, 2, 2), (4, 1, 1), (5, 1, 1), (6, 2, 8), (8, 4, 1000)]
def dryR (n : Nat) : Bytes := put 64 [(0, 1, n), (4, 4, 100), (8, 4, 1000), (44, 1, 1), (46, 2, 1)]
def heatR : Bytes := put 24 [(6, 2, 1000)]
def routeR : Bytes := put 8 [(0, 1, 3), (6, 1, 0)]
def superR : Bytes := put 24 [(20, 2, 1)]
def chanR (e lin mode : Nat) : Bytes := put 32 [(0, 16, 1 * 2 ^ 8 + mode * 2 ^ 116 + 2 ^ 96), (16, 1, e), (24, 1, lin)]
def valveR : Bytes := put 64 [(1, 1, 1), (4, 4, 10000), (8, 2, 1000), (10, 2, 400), (26, 2, 20), (28, 4, 20000)]
def fanR (n source : Nat) : Bytes := put 100 [(0, 1, n), (1, 1, 1), (2, 1, source), (3, 1, 2), (8, 4, 10000), (12, 2, 24000), (16, 2, 3000), (42, 2, 65535)]
def uioR (n role fl source : Nat) : Bytes := put 16 [(0, 1, n), (1, 1, role), (2, 1, fl), (6, 1, source)]
def canR (fl : Nat) : Bytes := put 24 [(2, 1, fl), (3, 1, 16)]
def dat : Datum :=
  { image := [], sects := [
    (tyMap, [mapR 0 1, mapR 1 4, mapR 2 2]), (tyPred, [put 32 []]), (tyDryer, [dryR 0, dryR 2]), (tyHeat, [heatR]),
    (tyRoute, [routeR]), (tySuper, [superR]), (tyStoGlob, [put 16 [(7, 1, 1)]]), (tyNode, [put 4 []]), (tyBinCtl, [put 24 [(0, 1, 1)]]),
    (tyGeom, [put 16 [(0, 1, 1), (14, 2, 1)]]), (tyChan, [chanR 0 1 0, chanR 4 0 0, chanR 8 0 0]),
    (tySeq, [put 8 [(1, 1, 3), (3, 1, 1)], put 8 [(0, 1, 4), (1, 1, 3), (2, 1, 8), (3, 1, 1)],
             put 8 [(0, 1, 1), (1, 1, 2), (2, 1, 4), (3, 1, 1), (4, 2, 1)]]),
    (tyContour, [put 24 []]), (tyChkRec, [put 16 [(1, 1, 1)]]), (tyValve, [valveR]), (tyFan, [fanR 0 2, fanR 1 1]),
    (tyUio, [uioR 0 2 16 1, uioR 1 1 6 0, uioR 2 3 0 1]), (tyCan, [canR 0])] }
/-- An image of a Legend: 1 KB of zeros but for its slot's use. -/
def legend : Bytes := zeros 1024

/-- What the configuration windows bring with it. -/
def win0 : Window := { datum := dat, gains := [], lin := [], base := [], bins := [] }
/-- The same device with that Datum, a Legend in slot 0, the links up and the dies loaded. -/
def farm : State :=
  let s := { live with
    store := { live.store with datum := some dat, legGov := setAt 0 legend live.store.legGov
                               legs := setAt 0 (some { slot := 0, gen := 1, img := legend }) live.store.legs
                               s0 := { live.store.s0 with area := oneTwo (1, 0) } }
    upd := { live.upd with run := { bootReset with fmt := 1, secVer := 1 } }
    plant := { plantUnder dat [] live.plant with safeHeld := false }
    can := live.can.map (canUnder dat)
    links := { live.links with near := live.links.near.map fun x => { x with up := true, session := some 1 }
                               far := live.links.far.map fun x => { x with up := true, safe := false } }
    sto := { live.sto with nodes := [{ silent := false, answered := false, scan := none }] } }
  let s := [0, 1, 2].foldl (fun a k => loadDie k win0 (a.setFar k { a.far k with window := some win0 })) s
  { s with links := { s.links with viewS := s.sense, viewP := s.power, viewI := s.io } }

def dry (n : Nat) : Dryer := (farm.dryer n).getD (newDryer false [])
def gmap (n : Nat) : GMap := (farm.map n).getD (newMap [] (mapRecsOf dat (mapR 0 1)))
def bin1 : BinSt := (farm.bin 1).getD (newBin dat [])
/-- A save image without maps and bias values. -/
def saveImg : Bytes := put 64 [(0, 4, 0x5641534D), (4, 2, 1), (8, 4, 544), (60, 4, 4223320973)] ++ zeros 480

/-- A Legend image, a Datum image with one globals record and an update header that the checks let pass. -/
def legImg0 : Bytes := put 288 [(0x0, 4, 0x444e474c), (0x4, 2, 0x1), (0x6, 2, 0x120), (0x40, 1, 0x1), (0x48, 4, 0x1), (0x60, 4, 0x1), (0x64, 2, 0x1), (0x68, 4, 0x1), (0x112, 2, 0x1), (0x118, 1, 0x1), (0x20, 4, 0xb1c9e9e7)]
def datImg : Bytes := put 112 [(0x0, 4, 0x4d544144), (0x4, 2, 0x1), (0x6, 2, 0x1), (0x8, 4, 0x70), (0x40, 2, 0x1), (0x42, 2, 0x20), (0x44, 4, 0x1), (0x48, 4, 0x50), (0xc, 4, 0x8d422186)]
def header : Bytes := put 320 [(0x0, 4, 0x4e4f4d42), (0x4, 2, 0x1), (0x6, 2, 0x9600), (0x8, 1, 0x1), (0x20, 4, 0x8), (0x24, 4, 0x8), (0x70, 32, 0xafe54eff7fde0911c3ada2822d37e7947b53d9a804d030215dcc14cdea1ed746)]

/-! A CRC-32 of a long string is evaluated octet by octet. -/
def forced (f : Nat → Nat) (y : Nat) : Nat := match y with | 0 => f 0 | m + 1 => f (m + 1)
theorem forced_eq (f : Nat → Nat) (y : Nat) : forced f y = f y := by cases y <;> rfl
def crcRun : Bytes → Nat → Nat
  | [], c => c
  | x :: r, c => forced (crcRun r) (crc32Bits 8 (Nat.xor c x.toNat))
theorem crcRun_eq (b : Bytes) : ∀ c, crcRun b c = b.foldl (fun c x => crc32Bits 8 (Nat.xor c x.toNat)) c := by
  induction b with
  | nil => intro c; rfl
  | cons x r ih => intro c; rw [crcRun, forced_eq, List.foldl_cons, ih]
theorem crc32_run (b : Bytes) : crc32 b = Nat.xor (crcRun b 0xFFFFFFFF) 0xFFFFFFFF := by rw [crcRun_eq, crc32]
theorem saveImg_good : saveBad saveImg = false := by unfold saveBad; simp only [crc32_run]; decide +kernel
theorem legImg0_good : legFormatBad legImg0 = false := by unfold legFormatBad; simp only [crc32_run]; decide +kernel
theorem legImg0_range : legRangeBad legImg0 = false := by decide +kernel
theorem datImg_good : (checkImage datImg 112 (legImages farm)).isNone = true := by decide +kernel
theorem header_hash : sha256 (header.take 0x70) = hdHash header := by decide +kernel

/-- What holds of a command's payload follows from the payload. -/
theorem meets_data {k : Spec} {d : Desc} {s : State} {b : Bytes} {p p' : Cmd → State → Bool}
    (h : meets k d s (fun c s => decide (c.d.data = b) && p c s) = true)
    (hp : ∀ c s, c.d.data = b → p c s = true → p' c s = true) : meets k d s p' = true := by
  unfold meets at h ⊢
  cases hb : begins k d (advance 0 s) with
  | none => simp [hb] at h
  | some x =>
    simp only [hb, Bool.and_eq_true, decide_eq_true_eq] at h ⊢
    exact hp x.1 x.2 h.1 h.2
/-- A value that a condition names by equality. -/
theorem meets_val {α : Type} [DecidableEq α] {k : Spec} {d : Desc} {s : State} {a : Cmd → State → Bool} {e : Cmd → State → α}
    (h : meets k d s a = true) : ∃ x, meets k d s (fun c s => a c s && decide (e c s = x)) = true := by
  unfold meets at h ⊢
  cases hb : begins k d (advance 0 s) with
  | none => simp [hb] at h
  | some x =>
    simp only [hb] at h
    exact ⟨e x.1 x.2, by simp [h]⟩

/-! The farm with one part changed. -/
def at0 (t : Nat) : State := { farm with time := { farm.time with acc := t * 2 ^ 32 } }
def withSense (f : SenseSt → SenseSt) : State := { farm with sense := f farm.sense }
def withPower (f : PowerSt → PowerSt) : State := { farm with power := f farm.power }
def withIo (f : IoSt → IoSt) : State := { farm with io := f farm.io }
def withValve (v : ValveSt) : State := withPower fun p => { p with valves := [v] }
def withFan (v : FanSt) : State := withPower fun p => p.setFan v
def withUio (v : UioSt) : State := withIo fun p => p.setChan v
def withPass (l : Nat) (p : Pass) : State := withSense fun d => d.setPass l (some p)
def withCan (c : CanCh) : State := setCan c farm
def withNear (k : Nat) (f : NearLink → NearLink) : State := farm.setNear k (f (farm.near k))
def withFar (k : Nat) (f : FarLink → FarLink) : State := farm.setFar k (f (farm.far k))
def withHif (f : Hif → Hif) : State := { farm with hif := f farm.hif }
def withPwr (f : Pwr → Pwr) : State := { farm with pwr := f farm.pwr }
def withUpd (f : Upd → Upd) : State := { farm with upd := f farm.upd }
def withGaz (f : Gaz → Gaz) : State := { farm with gaz := f farm.gaz }
/-- The same asleep, in WATCH or HALT. -/
def dozing (f : Pwr → Pwr) : State := { farm with time := { farm.time with asleep := true }, pwr := f { farm.pwr with state := 2 } }
def v0 : ValveSt := newValve 0
def f0 : FanSt := newFan (fanR 0 2)
def f1 : FanSt := newFan (fanR 1 1)
def u0 : UioSt := newUio 0
def u1 : UioSt := newUio 1
def u2 : UioSt := newUio 2
def c0 : CanCh := farm.canCh 0
def p0 : Pass := { seq := 0, passAt := 0, pos := 0, waiting := false, delayed := false, entAt := 0, modAt := some 0, convAt := 0, k := 0, settling := 0, openPins := [] }
def tx (tag : Nat) : TxFrame :=
  { frame := { id := 0, dlc := 0, data := [] }, attrs := 0, tag, enq := 0, origin := 0, fw := false, out := none, cancel := none }
/-- Frames of POWER's link before their CRC, and a line that spoils the coding. -/
def frameOut : OutFrame := outFrame 1 0 false farm
def spoilt : Damage := { cleanLine with violation := true }
def frameIn0 : InFrame :=
  { seq := 0, short := 0, session := 1, farSafe := false, cause := 0, expiries := 0, leases := 0, errs := 0, drops := 0, view := .power farm.power, recs := [], crc := 0 }
/-- A trial image that runs, healthy; an area of its format. -/
def trial : State :=
  let r : BootRec := { bootReset with state := 2, fmt := 1, secVer := 1, build := 1 }
  { farm with upd := { farm.upd with run := r, boot := oneTwo r, healthy := true, trialEnd := some 7 } }
/-- A download session in a state, with BLOCKS blocks of a body of 8 bytes, in slot 1. -/
def session (state path blocks : Nat) : State :=
  withUpd fun u => { u with session := oneTwo { sessionReset with state, path, slot := 1, blocks, hash := hdHash header }
                            slotB := memWrite [] (headerAt + 0x20) [8] }
/-- The base point of P-256. -/
def p256G : Bytes :=
  beBytes 32 0x6b17d1f2e12c4247f8bce6e563a440f277037d812deb33a0f4a13945d898c296 ++
  beBytes 32 0x4fe342e2fe1a7f9b8ee7eb4a7c0f9e162bce33576b315ececbb6406837bf51f5
/-- An SPI transaction with the right CRC. -/
def spi (op addr len : Nat) (data : Bytes) : SpiTx :=
  { addr, len, data, crc := crc16 (leBytes 1 op ++ leBytes 3 addr ++ leBytes 2 len ++ data) }
/-- The farm with fan 0 in reference mode. -/
def fanRefState (f : FanSt) : State :=
  withPower fun p => { p with fans := [f], cfg := { image := [], sects := [(tyFan, [put 100 [(1, 1, 3), (3, 1, 2)]])] } }
/-- A result of entry 0 that waits for its release. -/
def pend0 : PendRes :=
  { list := 0, seq := 0, pos := 0, entry := 0, endAt := 0, gain := 0, delayed := false, autoranged := false, code := 0, raw := 0, r := 0, rows := []
    empty := false, gain0 := 0 }
/-- LOAD_LEGEND and LOAD_DATUM at their completion points. -/
def legCmd : Cmd := { cmd 0x0302 [] with tied := false }
def datCmd : Cmd := { cmd 0x0102 [] with tied := false }
theorem comes_some {α : Type} [DecidableEq α] {s : State} {a : State → Bool} {e : State → Option α}
    (h : comes s (fun s => a s && (e s).isSome) = true) : ∃ x, comes s (fun s => a s && decide (e s = some x)) = true := by
  unfold comes at h ⊢
  simp only [Bool.and_eq_true] at h
  obtain ⟨v, hv⟩ := Option.isSome_iff_exists.mp h.2
  exact ⟨v, by simp [h.1, hv]⟩

/-! Ill-formed commands, one for each check of an operand: the check refuses each. -/

def sx : SpiTx := { addr := 0, len := 0, data := [], crc := 0 }
def cf : CanFrame := { id := 0, dlc := 0, data := [] }
theorem test_wf_refuses_1 : (([.replayRecord 0 (zeros 31),
   .hostLimitTimeout 0 256,
   .doorbellWrite 0 46 0,
   .doorbellWrite 0 0 (2 ^ 32),
   .heartbeatDoorbell 0 (2 ^ 32),
   .hifHbkick 0 (2 ^ 32),
   .hifHbcfgWrite 0 (2 ^ 32),
   .ringEnable 0 46 0,
   .ringEnable 0 0 (2 ^ 32),
   .ringDisable 0 46 0,
   .ringDisable 0 0 (2 ^ 32),
   .heldCompletionWrite 0 16] : List Instr).all fun i => !i.wf) = true := by decide +kernel
theorem test_wf_refuses_2 : (([.spillDrain 0 31,
   .spillDrain 0 41,
   .registerWrite 0 65536 0 0,
   .registerWrite 0 0 0 (2 ^ 32),
   .sysIlcfgWrite 0 3 0,
   .sysIlcfgWrite 0 0 (2 ^ 32),
   .sysLedgerSelWrite 0 (2 ^ 32),
   .gazCfgWrite 0 (2 ^ 32),
   .canMbbaseWrite 0 4 false 0,
   .canMbbaseWrite 0 0 false (2 ^ 32),
   .icClaim 0 8,
   .icDone 0 8 0] : List Instr).all fun i => !i.wf) = true := by decide +kernel
theorem test_wf_refuses_3 : (([.icDone 0 0 (2 ^ 32),
   .icTreset 0 (2 ^ 32),
   .icSwset 0 (2 ^ 32),
   .icPendClear 0 8 0,
   .icPendClear 0 0 (2 ^ 32),
   .icSrccfgWrite 0 256 0,
   .icSrccfgWrite 0 0 (2 ^ 32),
   .icTsleepWrite 0 (2 ^ 32),
   .icSourceEvent 0 256 false,
   .icCoalesceTimeout 0 256,
   .spiRegisterWrite 0 { sx with crc := 2 ^ 16 },
   .spiRegisterRead 0 { sx with crc := 2 ^ 16 }] : List Instr).all fun i => !i.wf) = true := by decide +kernel
theorem test_wf_refuses_4 : (([.spiBufferWrite 0 { sx with crc := 2 ^ 16 },
   .spiBufferRead 0 { sx with crc := 2 ^ 16 },
   .spiMailboxPost 0 { sx with crc := 2 ^ 16 },
   .spiMailboxRead 0 { sx with crc := 2 ^ 16 },
   .logicFrameSend 0 3,
   .farFrameReceive 0 3 cleanLine,
   .farFrameReceive 0 0 { cleanLine with flips := [760] },
   .farFrameSend 0 3,
   .logicFrameReceive 0 3 cleanLine,
   .logicFrameReceive 0 0 { cleanLine with flips := [760] },
   .farSilenceTimeout 0 3,
   .nearSilenceTimeout 0 3] : List Instr).all fun i => !i.wf) = true := by decide +kernel
theorem test_wf_refuses_5 : (([.leaseExpiry 0 3,
   .linkLostSynth 0 3,
   .dieConfigLoad 0 3,
   .sequencerLoad 0 3 false,
   .seqLoadRetry 0 3 false,
   .predictionRunEnd 0 4,
   .seqPeriodicDue 0 256,
   .modulationStart 0 5,
   .conversionEnd 0 5 { nv := 0, ref := 0 } false,
   .toneConversionEnd 0 [[2048]],
   .openWireRun 0 5 { vsa := 0, comps := [] },
   .openWireRun 0 0 { vsa := 0, comps := [(256, [])] }] : List Instr).all fun i => !i.wf) = true := by decide +kernel
theorem test_wf_refuses_6 : (([.impCheckEnd 0 (List.replicate 12000 2048) (List.replicate 12000 0),
   .impCheckEnd 0 (List.replicate 12000 (-2049)) (List.replicate 12000 0),
   .impCheckEnd 0 (List.replicate 12000 0) (List.replicate 12000 2048),
   .impCheckEnd 0 (List.replicate 12000 0) (List.replicate 12000 (-2049)),
   .impCheckEnd 0 (List.replicate 11999 0) (List.replicate 12000 0),
   .impCheckEnd 0 (List.replicate 12000 0) (List.replicate 11999 0),
   .pinRecheckDue 0 256,
   .vlvPeakReached 0 { unit := 16, value := 0 },
   .vlvPeakReached 0 { unit := 0, value := 4096 },
   .vlvDwellEnd 0 16,
   .vlvHoldReached 0 { unit := 16, value := 0 },
   .vlvHoldReached 0 { unit := 0, value := 4096 }] : List Instr).all fun i => !i.wf) = true := by decide +kernel
theorem test_wf_refuses_7 : (([.vlvDecayEnd 0 { unit := 16, value := 0 },
   .vlvDecayEnd 0 { unit := 0, value := 4096 },
   .vlvPeakTimeout 0 16,
   .vlvDeferTimeout 0 16,
   .vlvThermalTick 0 (List.replicate 17 0) 0,
   .vlvThermalTick 0 [4095 * 4095 + 1] 0,
   .vlvResistanceMeasure 0 16 0 0 0,
   .vlvResistanceMeasure 0 0 0 0 4096,
   .vlvOffStateTest 0 16 0 0,
   .vlvOffStateTest 0 0 64001 0,
   .vlvOffStateTest 0 0 0 64001,
   .vlvOnStateFault 0 16 { since := 0, v1 := 0, v2 := 0, i0 := 0, i1 := 0, i2 := 0 }] : List Instr).all fun i => !i.wf) = true := by decide +kernel
theorem test_wf_refuses_8 : (([.vlvOnStateFault 0 0 { since := 0, v1 := 64001, v2 := 0, i0 := 0, i1 := 0, i2 := 0 },
   .vlvOnStateFault 0 0 { since := 0, v1 := 0, v2 := 64001, i0 := 0, i1 := 0, i2 := 0 },
   .vlvOnStateFault 0 0 { since := 0, v1 := 0, v2 := 0, i0 := 4096, i1 := 0, i2 := 0 },
   .vlvOnStateFault 0 0 { since := 0, v1 := 0, v2 := 0, i0 := 0, i1 := 4096, i2 := 0 },
   .vlvOnStateFault 0 0 { since := 0, v1 := 0, v2 := 0, i0 := 0, i1 := 0, i2 := 4096 },
   .vlvOpenTest 0 16 0 0,
   .vlvOpenTest 0 0 4096 0,
   .vlvOpenTest 0 0 0 64001,
   .bankShort 0 { bank := 4, since := 0, top := 0, sup := 0 },
   .bankShort 0 { bank := 0, since := 0, top := 64001, sup := 0 },
   .bankShort 0 { bank := 0, since := 0, top := 0, sup := 64001 },
   .bankStuckOn 0 { unit := 4, value := 0 }] : List Instr).all fun i => !i.wf) = true := by decide +kernel
theorem test_wf_refuses_9 : (([.bankStuckOn 0 { unit := 0, value := 64001 },
   .vlvMovement 0 16 [],
   .vlvMovement 0 0 [64001],
   .vlvMovement 0 0 [-64001],
   .clampLow 0 64001,
   .fanTachEdge 0 12 0,
   .fanStartWindowEnd 0 12 0,
   .fanRunJudge 0 12 0,
   .fanOutputFault 0 12 { mv := 0, limit := false, off := false },
   .fanOutputFault 0 0 { mv := 64001, limit := false, off := false },
   .fanRetryTimeout 0 12,
   .fanRun60s 0 12] : List Instr).all fun i => !i.wf) = true := by decide +kernel
theorem test_wf_refuses_10 : (([.fanLoopTick 0 12,
   .fanTableTick 0 12,
   .fanTsnsRead 0 12 0,
   .fanBinLearn 0 12 0,
   .fanFrameReport 0 12 0,
   .uioFilterChange 0 32 [],
   .uioFilterChange 0 0 [(64001, 0, 0)],
   .uioFilterChange 0 0 [(0, 65536, 0)],
   .uioFilterChange 0 0 [(0, 0, 64001)],
   .uioWireBreak 0 32 [] (0, 0, 0),
   .uioWireBreak 0 0 [] (64001, 0, 0),
   .uioWireBreak 0 0 [(0, 65536, 0)] (0, 0, 0)] : List Instr).all fun i => !i.wf) = true := by decide +kernel
theorem test_wf_refuses_11 : (([.uioFrameReport 0 32 { current := 0, samples := [] },
   .uioFrameReport 0 0 { current := 0, samples := [(64001, 0, 0)] },
   .uioFrameReport 0 0 { current := 0, samples := [(0, 65536, 0)] },
   .uioFrameReport 0 0 { current := 0, samples := [(0, 0, 64001)] },
   .uioPwmPeriod 0 32,
   .uioOverload 0 { ch := 32, ms := 0, curs := [] },
   .uioOverload 0 { ch := 0, ms := 0, curs := [0, 0, 0, 0, 0] },
   .uioBudgetOverload 0 { what := .segment 4, sums := [] },
   .uioBudgetOverload 0 { what := .die, sums := [[]] },
   .uioOpenLoad 0 32 { cur := 0, pin := 0, sup := 0 },
   .uioOpenLoad 0 0 { cur := 0, pin := 64001, sup := 0 },
   .uioOpenLoad 0 0 { cur := 0, pin := 0, sup := 64001 }] : List Instr).all fun i => !i.wf) = true := by decide +kernel
theorem test_wf_refuses_12 : (([.uioOffStateTest 0 32 0,
   .uioOffStateTest 0 0 64001,
   .uioCrossfeedPulse 0 64001,
   .fieldSupplyOff 0 { supply := .segment 4, mv := 0 },
   .fieldSupplyOff 0 { supply := .vfldIo, mv := 64001 },
   .uvWarn 0 64001,
   .uvWarnEnd 0 64001,
   .supplyRecovery 0 { supply := .segment 4, mv := 0 },
   .supplyRecovery 0 { supply := .vfldIo, mv := 64001 },
   .fieldDieReset 0 { unit := 3, value := 0 },
   .fieldDieReset 0 { unit := 0, value := 64001 },
   .fieldDieRestart 0 { unit := 3, value := 0 }] : List Instr).all fun i => !i.wf) = true := by decide +kernel
theorem test_wf_refuses_13 : (([.fieldDieRestart 0 { unit := 0, value := 64001 },
   .canFrameReceive 0 4 0 cf,
   .canFrameReceive 0 0 0 { cf with dlc := 2 ^ 7 },
   .canTxRingTake 0 4 [],
   .canTxRingTake 0 0 [zeros 31],
   .canTxComplete 0 4 0,
   .canTxError 0 4 { sof := 0, kind := .busError },
   .canBusOff 0 4 false,
   .canRecoveryDone 0 4,
   .canClaimTimeout 0 4,
   .canWakePattern 0 4,
   .canSleepDiscard 0 4] : List Instr).all fun i => !i.wf) = true := by decide +kernel
theorem test_wf_refuses_14 : (([.canDominantTimeout 0 { unit := 4, value := 0 },
   .wakeSource 0 256,
   .housekeepingRound 0 [] (List.replicate 8 0) false,
   .housekeepingRound 0 [none, none, none, none] [] false,
   .farTempCheck 0 3 none,
   .thermalShutdownEnd 0 7,
   .authLockEnd 0 8,
   .mramScrub 0 8388608 .clean,
   .gazPeriodClose 0 2,
   .maintItemFire 0 64,
   .completionPoint 0 (.can 4) 0,
   .completionPoint 0 .spi (2 ^ 32)] : List Instr).all fun i => !i.wf) = true := by decide +kernel
theorem test_wf_refuses_15 : (([.pllUnlock 0 6,
   .pllRelock 0 6,
   .canRxError 0 4 .busError,
   .shortToSupplyOff 0 { unit := 32, value := 0 },
   .shortToSupplyOff 0 { unit := 0, value := 64001 },
   .fanReferenceSlew 0 12] : List Instr).all fun i => !i.wf) = true := by decide +kernel
/-- Descriptors, transactions and frames with one field out of its width. -/
def badDescs : List Desc :=
  [{ noDesc with src := .ring 16 }, { noDesc with src := .can 4 }, { noDesc with flags := 2 ^ 16 }, { noDesc with tag := 2 ^ 32 },
   { noDesc with frame := 2 ^ 64 }, { noDesc with payload := 2 ^ 64 }, { noDesc with plen := 2 ^ 32 }, { noDesc with keySlot := 256 },
   { noDesc with rsv1 := 2 ^ 24 }, { noDesc with counter := 2 ^ 32 }, { noDesc with rsv2 := 2 ^ 32 }, { noDesc with check := zeros 7 },
   { noDesc with params := zeros 15 }, { noDesc with plen := 0, data := [1] }]
def badTxs : List SpiTx := [{ sx with addr := 2 ^ 24 }, { sx with len := 2 ^ 16 }, { sx with crc := 2 ^ 16 }]
def badFrames : List CanFrame := [{ cf with id := 2 ^ 31 }, { cf with dlc := 2 ^ 7 }, { cf with data := zeros 65 }]
theorem test_wf_refuses_fields :
    ((badDescs.all fun d => !(Instr.wf (.sysInfo 0 d))) && (badTxs.all fun x => !(Instr.wf (.spiRegisterRead 0 x))) &&
      (badFrames.all fun f => !(Instr.wf (.canFrameReceive 0 0 0 f))) && !(Instr.wf (.applyInstant (2 ^ 64)))) = true := by decide +kernel
theorem test_wf_accepts :
    (Instr.wf (.sysInfo 0 noDesc) && Instr.wf (.spiRegisterRead 0 sx) && Instr.wf (.canFrameReceive 0 3 0 cf) &&
      Instr.wf (.applyInstant (2 ^ 64 - 1)) && Instr.wf (.spillDrain 0 40)) = true := by decide +kernel

/-! Expected values from the worked examples and tables of spec/. -/

-- 02 Table 2-2: frame 7,200 closes at 60,410,560,512, its apply instant is 2^20 later (01 R39); a command accepted one tick before the
-- closing instant has E = 7,200, at it 7,201; the rebuilt stamp 60,401,123,328 lies in frame 7,200.
theorem test_frame_7200 :
    (State.reset.closing 7200, State.reset.applyAt 7200, State.reset.n0 (60410560512 - 1), State.reset.n0 60410560512,
      frameOf 60401123328) = (60410560512, 60411609088, 7200, 7201, 7200) := by decide +kernel
-- 02 R49: short stamp 0xE103 (unit 57,603) is rebuilt as 57,603 * 2^20.
theorem test_stamp_rebuilt : rebuildStamp (57604 * 2 ^ 20) 0xE103 = 60401123328 := by decide +kernel
-- 02 R48: m = 0x2 and s = 0xFFFFFE lie four units apart, s in the past.
theorem test_stamp_wraps : rebuildStamp (2 ^ 44 + 2 * 2 ^ 20) 0xFFFFFE = 2 ^ 44 - 2 * 2 ^ 20 := by decide +kernel
-- 01 R30: divr and rnd round half away from zero and half up; 10, 05: the actuator command at q = 5,355 and FAN6's reference.
theorem test_divr : (divr (5355 * 481221) 65536, divr 393210000 65536, divr (5355 * 32440) 32768, divr (5301 * 481221) 65536) =
    (39321, 6000, 5301, 38924) := by decide +kernel

/-- The maize Legend's kinetics block (03 Table 3-12) and the conditions of zone 0 (Table 3-11). -/
def maize : Bytes := put 0x152 [
  (0x40, 1, 2), (0x44, 4, 551118), (0x48, 4, 958698), (0x4C, 4, 3968), (0x50, 4, 368640), (0x54, 4, 1477320), (0x58, 2, 32768),
  (0x5C, 4, 838861), (0x60, 4, 100925), (0x64, 2, 17203), (0x68, 4, 612000), (0x14A, 2, 1966)]
-- 03: a filled cell of the example dryer has a dry mass of 2,869 g; 167 g of air pass it in a step; the ambient humidity ratio is
-- 0.006080 kg/kg in units of 2^-24.
theorem test_example_dryer :
    (divr (307200 * 612000) 65536000, airMass 4096 4 192, divr ((wambOf (pscOf 0) 1280 52429).1 * 1000000) 16777216) = (2869, 167, 6080) := by
  decide +kernel
-- 06 Table 6-11: me_amb of 6 degrees and 75 % RH, and of 90 % RH, to the two digits that the table rounds to; the COOL decisions of
-- 21:00, 21:15 and 21:30.
def cool : Bytes := put 24 [(0, 1, 3), (1, 1, 1), (4, 2, 1024), (6, 2, 640), (8, 2, 256), (10, 2, 2 ^ 16 - 640), (12, 1, 2)]
theorem test_me_amb : (12960 ≤ meAmb maize 768 49152 ∧ meAmb maize 768 49152 ≤ 12980) ∧
    (16720 ≤ meAmb maize 768 58982 ∧ meAmb maize 768 58982 ≤ 16740) := by decide +kernel
theorem test_cool_decisions :
    let x := newBin dat cool
    let on := { x with mode := 1, on := true }
    (aerDecide cool maize false 0 1536 2304 11114 768 12970 0 { x with mode := 1, since := 9 }).1 = true ∧
    (aerDecide cool maize false 0 1536 2304 11114 768 16730 0 { on with since := 0 }).1 = true ∧
    (aerDecide cool maize false 0 1536 2304 11114 768 16730 0 { on with since := 1 }).1 = false := by decide +kernel
-- 04 Table 4-13: the pair of slot 0 passes the gate; P grows by 35,429 before it, b rises by about 0.00158 d.b. and P falls to about
-- 1.537e-5 (d.b.)^2 (units 2^-24 d.b. and 2^-40).
def fusion : Bytes := put 0x140 [(0x100, 4, 4398047), (0x104, 4, 17592186), (0x108, 4, 39582419), (0x10C, 4, 109951163),
  (0x110, 2, 1966), (0x112, 2, 768), (0x114, 2, 32768), (0x116, 2, 3277), (0x118, 2, 4), (0x11C, 4, 439804651)]
def pairRec : OutRec := { frame := 0, age := 0, m := 11600, t := 0, var := 400, map := 0, legend := 0, lot := 0, hi := 0, lo := 0, flags := 0, seq := 0 }
theorem test_pair :
    let q := biasUpdate fusion 58 { b := 33554, p := 27487791, last := 0, pairs := 0, gated := 0 } pairRec (divr (84000 * 256) 7)
    q.2.1 = false ∧ q.2.2 = 68846 ∧ 59978 ≤ q.1.b ∧ q.1.b ≤ 60146 ∧ 16898845 ≤ q.1.p ∧ q.1.p ≤ 16909839 := by decide +kernel
-- 08 Table 8-12: one outlet reading linearised: v = 11,229.
def moistBlk : Bytes := put 128 [(0, 1, 1), (2, 1, 2), (3, 1, 1), (4, 1, 14), (5, 1, 2), (6, 2, 2560), (8, 8, 4294967296), (16, 4, 6554),
  (20, 4, 32768), (24, 4, 188978561), (28, 4, 257698038), (32, 4, 42949673), (44, 4, 2 ^ 32 - 109951163), (48, 4, 2 ^ 32 - 53687091),
  (112, 2, 1638), (114, 2, 384), (116, 4, 15435039), (120, 4, 2 ^ 32 - 85899346)]
theorem test_outlet_reading :
    68786586 - rnd (1638 * 10066330) 15 = 68283392 ∧ linEval moistBlk (68283392 * 64) (some 3840) (some 15602811) = some 11229 := by
  decide +kernel
-- 05 Table 5-15: W_ERR 4, W_OD 8, W_RATE 2, W_DML 256: a candidate with factor 0.99, one step 1,900 above the target (e = 3,610,000)
-- and 398 g lost costs 14,821,056 less the 8 * 8,000 of the example's o; RATE_STEP 50 admits a factor 1,638 away from 1, not 1,639.
def control : Bytes := put 64 [(4, 4, 2000), (8, 4, 8000), (12, 2, 50), (14, 2, 1), (16, 2, 4), (18, 2, 8), (20, 2, 2), (22, 2, 256)]
def cand (factor : Nat) : CandBlk :=
  { factor, flags := 0, maxT := 0, rows := 0, lost := 398, steps := [{ mean := 13465, spread := 203, low := 0, high := 0, noGrain := false }] }
theorem test_choice : ((choiceOf control 11565 0 5355 (cand 32440)).e, (choiceOf control 11565 0 5355 (cand 32440)).r,
    (choiceOf control 11565 0 5355 (cand 32440)).cost) = (3610000, 107584, 14821056 - 64000) := by decide +kernel
theorem test_rate_step : ((choiceOf control 11565 0 5355 (cand (32768 - 1638))).excl, (choiceOf control 11565 0 5355 (cand (32768 - 1639))).excl) =
    (0, 2) := by decide +kernel
-- 10: the blocked panel fan starts at r = 22,796; 23: FAN6 in reference mode at 39,321 reads FAN_CH6 = 0x9999_0002.
theorem test_fan_words : (fnRStart (put 100 [(1, 1, 1), (12, 2, 23000), (14, 2, 8000)]),
    fanChWord { farm.power with fans := [{ f0 with ch := 6, r := 39321, state := 2, fault := 0 }] } 6) = (22796, 0x99990002) := by decide +kernel
-- 14 Table 14-3: source 133 is assigned to T1, then, with TARGETS T0 alone, to T0 above its running priority 6; T1 claims 0, T0 claims
-- 133 with count 1; after the done of 133 the running priority is 6; a done of 88 while 133 is on top freezes T0.
def switches : Ic :=
  let i := icSrccfg 88 (2 ^ 24 + 256 + 6) (icSrccfg 133 (3 * 2 ^ 24 + 256 + 9) (icTsleep 0 icReset))
  icEvent 0 133 (i.setTgt 0 { i.tgt 0 with stack := [88] })
theorem test_routing :
    let a := icSrccfg 133 (2 ^ 24 + 256 + 9) switches
    let b := (icClaim (assignment a) 0 a).1
    (assigned switches 133 = some 1 ∧ icRequest switches 1 = true ∧ assigned a 133 = some 0 ∧ icRequest a 0 = true ∧ (icClaim (assignment a) 1 a).2 = 0) ∧
    ((icClaim (assignment a) 0 a).2 = 133 ∧ (b.tgt 0).stack = [133, 88] ∧ b.running 0 = 9 ∧ (b.tgt 0).claimx % 65536 = 1) ∧
    (icDone 0 0 133 b).running 0 = 6 ∧ ((icDone 0 0 88 b).tgt 0).frozen = true := by decide +kernel
-- 15 Table 15-2: the message bytes of the HEAT_PERMIT example.
theorem test_permit_message :
    checkMessage 0x0406 { noDesc with flags := 2 ^ 15, tag := 0x31, payload := 0, plen := 0, keySlot := 2, counter := 0x105, params := padTo 16 [0, 1] } [] =
      ([0x06, 0x04, 0x00, 0x80, 0x31, 0, 0, 0] : Bytes) ++ zeros 8 ++ zeros 12 ++ [2, 0, 0, 0] ++ [5, 1, 0, 0] ++ zeros 4 ++ [0, 1] ++ zeros 14 := by
  decide +kernel

/-! The completion statements. -/

/-- States and operands that meet the hypotheses of ClockCommandsComplete, clause by clause. -/
theorem meets_ClockCommandsComplete :
    meets specReadTime (qry []) farm always = true ∧
    meets specSetSlew (qry (leBytes 4 200000)) farm (fun c _ => decide (-200000 ≤ s32 c.d.params 0) && decide (s32 c.d.params 0 ≤ 200000)) = true ∧
    meets specSetClock (crit specSetClock.op 1 (zeros 8 ++ leBytes 8 0) []) farm (fun c s => decide (p64 c.d 0 ≤ s.now) && decide (s64 c.d.params 8 - p64 c.d 0 = s.time.offset)) = true ∧
    (∃ s2, meets specSetClock (crit specSetClock.op 1 (zeros 8 ++ leBytes 8 5) []) farm (fun c s => decide (p64 c.d 0 ≤ s.now) && decide (s64 c.d.params 8 - p64 c.d 0 ≠ s.time.offset) && decide (openEra 1 (s64 c.d.params 8 - p64 c.d 0) (ledTarget c.led (0xA300 + (s.time.era + 1) % 65536 % 64) 0 s) = (s2, true))) = true) ∧
    (∃ e, meets specReadEra (qry [7]) { farm with time := { farm.time with eras := [⟨7, 1, 0, 0, 0, 5⟩] } } (fun c s => (fun c s => decide ((s.time.eras.find? fun x => x.num == p16 c.d 0) = some e)) c s && fits c.d ((fun _ _ => eraBytes e) c s)) = true) :=
  ⟨by decide +kernel,
   by decide +kernel,
   crit_meets (by decide +kernel),
   meets_pair (crit_meets (by decide +kernel)),
   ⟨⟨7, 1, 0, 0, 0, 5⟩, by decide +kernel⟩⟩

/-- States and operands that meet the hypotheses of CaptureCommandsComplete, clause by clause. -/
theorem meets_CaptureCommandsComplete :
    meets specCaptureStart (qry []) farm always = true ∧
    stands 0x0205 (cmd 0x0205 []) farm (((fun _ _ s => !s.cap.active)) 0) = true ∧
    meets specCaptureStop (qry []) farm always = true ∧
    stands 0x0206 (cmd 0x0206 []) { farm with cap := { farm.cap with active := true, present := true, buf := [1, 2, 3] } } (((fun _ _ s => s.cap.active)) 0) = true ∧
    meets specCaptureRead (qry [1]) { farm with cap := { farm.cap with active := true, present := true, buf := [1, 2, 3] } } (fun _ s => s.cap.present) = true ∧
    (∃ x, meets specReadDigest (qry [9]) { farm with frm := { farm.frm with digests := [⟨9, zeros 8, zeros 32⟩] } } (fun c s => (fun c s => decide ((s.frm.digests.find? fun y => y.frame == p64 c.d 0) = some x)) c s && fits c.d ((fun _ _ => x.d ++ x.h) c s)) = true) :=
  ⟨by decide +kernel,
   by decide +kernel,
   by decide +kernel,
   by decide +kernel,
   by decide +kernel,
   ⟨⟨9, zeros 8, zeros 32⟩, by decide +kernel⟩⟩

/-- States and operands that meet the hypotheses of ReplayCommandsComplete, clause by clause. -/
theorem meets_ReplayCommandsComplete :
    meets specEnterReplay (crit specEnterReplay.op 1 [] [1]) farm always = true ∧
    meets specLeaveReplay (qry []) { farm with rpl := { farm.rpl with active := true } } (fun _ s => s.rpl.active && decide (s.rpl.ended = 0)) = true ∧
    (∃ (rec' : Bytes), comes ({ farm with rpl := { farm.rpl with active := true } }.setRing 45 { ringReset with enable := true, host := 1 }) (fun s => s.awake && s.rpl.active && (s.ring 45).enable && decide ((s.ring 45).waiting ≠ 0) && decide (s.rpl.ended = 0)) = true) :=
  ⟨crit_meets (by decide +kernel),
   by decide +kernel,
   ⟨[], by decide +kernel⟩⟩

/-- States and operands that meet the hypotheses of MapQueriesComplete, clause by clause. -/
theorem meets_MapQueriesComplete :
    (∃ m, meets specMapStatus (qry []) farm (fun c s => decide (s.map (p8 c.d 0) = some m)) = true) ∧
    meets specReadLegend (qry []) farm (fun c s => (fun c s => decide (p8 c.d 0 ≤ 14) && decide (legImage s (p8 c.d 0) ≠ [])) c s && fits c.d ((fun c s => legImage s (p8 c.d 0)) c s)) = true ∧
    (∃ m r, meets specPredRead (qry []) ({ farm with frm := { farm.frm with next := 5 } }.setMap { gmap 0 with results := [⟨3, 1, 0, 1, 0, 0, 20, 0, []⟩] }) (fun c s => (fun c s => decide (s.map (p8 c.d 0) = some m) && decide (0 < s.frm.next) && decide (boundAt m (s.frm.next - 1) = some r)) c s && fits c.d ((fun _ _ => predBytes r) c s)) = true) ∧
    (∃ m, meets specPairRead (qry []) farm (fun c s => (fun c s => decide (s.map (p8 c.d 0) = some m)) c s && fits c.d ((fun c _ => ((m.pairLog.reverse.take (p16 c.d 2)).map pairBytes).flatten) c s)) = true) ∧
    meets specBiasRead (qry [255]) farm (fun c s => (fun c _ => decide (p8 c.d 0 = 0xFF)) c s && fits c.d ((fun _ s => ((List.range 15).map (biasBytes s)).flatten) c s)) = true ∧
    meets specBiasRead (qry []) farm (fun c s => (fun c s => decide (p8 c.d 0 ≤ 14) && decide (legImage s (p8 c.d 0) ≠ [])) c s && fits c.d ((fun c s => biasBytes s (p8 c.d 0)) c s)) = true :=
  ⟨⟨gmap 0, by decide +kernel⟩,
   by decide +kernel,
   ⟨{ gmap 0 with results := [⟨3, 1, 0, 1, 0, 0, 20, 0, []⟩] }, ⟨3, 1, 0, 1, 0, 0, 20, 0, []⟩, by decide +kernel⟩,
   ⟨gmap 0, by decide +kernel⟩,
   by decide +kernel,
   by decide +kernel⟩

/-- States and operands that meet the hypotheses of LegendStoreCommandsComplete, clause by clause. -/
theorem meets_LegendStoreCommandsComplete :
    meets specLoadLegend (crit specLoadLegend.op 1 [] legImg0) farm (fun c _ => decide (p8 c.d 0 ≤ 14) && !legFormatBad c.d.data && !legRangeBad c.d.data) = true ∧
    (∃ p e, ∃ s2, meets specEraseLegend (crit specEraseLegend.op 1 [0] []) { farm with plant := { farm.plant with maps := [] }, store := { farm.store with datum := none } } (fun c s => decide (p8 c.d 0 ≤ 14) && decide (legArea s.store.legs (p8 c.d 0) = some p) && !legendInUse (p8 c.d 0) s && decide (effFrame s c.d s.now = (e, none)) && decide (clearArea p.1 (ledTarget c.led (0x5000 + p8 c.d 0) p.2.gen s) = (s2, true))) = true) :=
  ⟨meets_data (b := legImg0) (p := fun c _ => decide (p8 c.d 0 ≤ 14)) (crit_meets (by decide +kernel)) (fun c _ h hp => by simp only [h, legImg0_good, legImg0_range, hp]; rfl),
   ⟨(0, { slot := 0, gen := 1, img := legend }), 32767, meets_pair (crit_meets (by decide +kernel))⟩⟩

/-- States and operands that meet the hypotheses of MapSettingCommandsComplete, clause by clause. -/
theorem meets_MapSettingCommandsComplete :
    meets specMapPrime (qry []) farm (fun c s => (s.map (p8 c.d 0)).isSome) = true ∧
    (∃ m r, stands 0x0305 (cmd 0x0305 []) farm (((fun _ c s => decide (s.map (p8 c.d 0) = some m) && decide (s.mapRecs (p8 c.d 0) = some r))) 0) = true) ∧
    meets specBiasReset (qry []) farm (fun c s => decide (p8 c.d 0 ≤ 14) && decide (legImage s (p8 c.d 0) ≠ [])) = true ∧
    stands 0x0322 (cmd 0x0322 []) farm (((fun _ c s => decide (p8 c.d 0 ≤ 14) && decide (legImage s (p8 c.d 0) ≠ []))) 0) = true ∧
    meets specSetInlet (qry [0, 0, 0, 0, 0, 1]) farm (fun c s => (inletChk c s).isNone) = true ∧
    (∃ m, stands 0x0323 (cmd 0x0323 [0, 0, 0, 0, 0, 1]) farm (((fun _ c s => decide (s.map (p8 c.d 8) = some m) && (inletChk c s).isNone)) 0) = true) :=
  ⟨by decide +kernel,
   ⟨gmap 0, mapRecsOf dat (mapR 0 1), by decide +kernel⟩,
   by decide +kernel,
   by decide +kernel,
   by decide +kernel,
   ⟨gmap 0, by decide +kernel⟩⟩

/-- States and operands that meet the hypotheses of MapTransferCommandsComplete, clause by clause. -/
theorem meets_MapTransferCommandsComplete :
    meets specMapExport (qd [0, 0, 0, 0, 1] (zeros 4096)) farm always = true ∧
    (∃ m, stands 0x0325 (cmd 0x0325 [0, 0, 0, 0, 1] (zeros 4096)) farm (((fun _ c s => decide (s.map (p8 c.d 0) = some m) && (exportChk c s).isNone && fits c.d (rowCells m (p16 c.d 2) (p16 c.d 4)))) 0) = true) ∧
    meets specMapSave (qry []) farm always = true ∧
    stands 0x0326 { cmd 0x0326 [] with d := { qry [] with plen := (saveImage 0 live).length } } live (fun c s => fits c.d (saveImage c.eff s)) = true ∧
    meets specMapRestore (qd [] [1]) farm always = true ∧
    (cmd 0x0327 []).op = 0x0327 ∧ anyDischarge (ledRun (cmd 0x0327 []).led farm).plant = false :=
  ⟨by decide +kernel,
   ⟨gmap 0, by decide +kernel⟩,
   by decide +kernel,
   (Bool.and_eq_true _ _).mpr ⟨rfl, decide_eq_true (le_refl _)⟩,
   by decide +kernel,
   by decide +kernel⟩

/-- States and operands that meet the hypotheses of PlantQueriesComplete, clause by clause. -/
theorem meets_PlantQueriesComplete :
    (∃ x, meets specDryStatus (qry []) farm (fun c s => decide (s.dryer (p8 c.d 0) = some x)) = true) ∧
    (∃ r, meets specRouteStatus (qry [3]) farm (fun c s => decide (s.route (p8 c.d 0) = some r)) = true) ∧
    (∃ x, meets specDecisionRead (qry []) farm (fun c s => (fun c s => decide (s.dryer (p8 c.d 0) = some x)) c s && fits c.d ((fun _ _ => padTo 768 (x.choices.map choiceBytes).flatten) c s)) = true) ∧
    (∃ x, meets specStoStatus (qry [1]) farm (fun c s => decide (s.bin (p8 c.d 0) = some x)) = true) ∧
    (∃ x, meets specBudgetRead (qry [1]) farm (fun c s => decide (s.bin (p8 c.d 0) = some x)) = true) ∧
    (∃ x, meets specSensorRead (qry [1]) farm (fun c s => (fun c s => decide (s.bin (p8 c.d 0) = some x)) c s && fits c.d ((fun _ _ => (x.sensors.map sensBytes).flatten) c s)) = true) :=
  ⟨⟨dry 0, by decide +kernel⟩,
   ⟨newRoute dat routeR, by decide +kernel⟩,
   ⟨dry 0, by decide +kernel⟩,
   ⟨bin1, by decide +kernel⟩,
   ⟨bin1, by decide +kernel⟩,
   ⟨bin1, by decide +kernel⟩⟩

/-- States and operands that meet the hypotheses of DischargeCommandsComplete, clause by clause. -/
theorem meets_DischargeCommandsComplete :
    meets specDischargeStart (crit specDischargeStart.op 1 [0, 1] []) farm (fun c s => (s.datum.dryerOf (p8 c.d 0)).isSome && (decide (p8 c.d 1 = 1) || decide (p8 c.d 1 = 2))) = true ∧
    (∃ dc x, stands 0x0402 (cmd 0x0402 [0, 2]) farm (((fun _ c s => decide (s.datum.dryerOf (p8 c.d 0) = some dc) && decide (s.dryer (p8 c.d 0) = some x) && (decide (p8 c.d 1 = 1) || decide (p8 c.d 1 = 2)) && decide (x.sup.trip = 0) && !s.plant.safeHeld)) 0) = true) ∧
    meets specDischargeStop (qry []) farm (fun c s => (s.datum.dryerOf (p8 c.d 0)).isSome) = true ∧
    (∃ x, stands 0x0403 (cmd 0x0403 []) farm (((fun _ c s => (s.datum.dryerOf (p8 c.d 0)).isSome && decide (s.dryer (p8 c.d 0) = some x))) 0) = true) ∧
    (∃ dc, meets specSetRate (crit specSetRate.op 1 [0, 0, 0, 0, 100] []) farm (fun c s => decide (s.datum.dryerOf (p8 c.d 0) = some dc) && decide (dcQMin dc ≤ p32 c.d 4) && decide (p32 c.d 4 ≤ dcQMax dc)) = true) ∧
    (∃ dc x, stands 0x0404 (cmd 0x0404 (zeros 4 ++ leBytes 4 1000)) (farm.putDryer { dry 0 with dis := { (dry 0).dis with mode := 2 } }) (((fun _ c s => decide (s.datum.dryerOf (p8 c.d 0) = some dc) && decide (s.dryer (p8 c.d 0) = some x) && decide (dcQMin dc ≤ p32 c.d 4) && decide (p32 c.d 4 ≤ dcQMax dc) && decide (x.dis.mode = 2))) 0) = true) ∧
    meets specSetTarget (qry [0, 0, 1]) farm (fun c s => (s.datum.dryerOf (p8 c.d 0)).isSome && (decide (p16 c.d 2 ≠ 0) || decide (lgTarget (legImg s.imgs (inletSlot s.plant (p8 c.d 0))) ≠ 0))) = true ∧
    (∃ x, stands 0x0405 (cmd 0x0405 [0, 0, 1]) farm (((fun _ c s => (s.datum.dryerOf (p8 c.d 0)).isSome && decide (s.dryer (p8 c.d 0) = some x) && (decide (p16 c.d 2 ≠ 0) || decide (lgTarget (legImg s.imgs (inletSlot s.plant (p8 c.d 0))) ≠ 0)))) 0) = true) :=
  ⟨crit_meets (by decide +kernel),
   ⟨dryR 0, dry 0, by decide +kernel⟩,
   by decide +kernel,
   ⟨dry 0, by decide +kernel⟩,
   ⟨dryR 0, crit_meets (by decide +kernel)⟩,
   ⟨dryR 0, { dry 0 with dis := { (dry 0).dis with mode := 2 } }, by decide +kernel⟩,
   by decide +kernel,
   ⟨dry 0, by decide +kernel⟩⟩

/-- States and operands that meet the hypotheses of HeatCommandsComplete, clause by clause. -/
theorem meets_HeatCommandsComplete :
    meets (specHeatPermit (crit 1030 1 [0, 1] [])) (crit 1030 1 [0, 1] []) farm (fun c s => decide (p8 c.d 0 < (s.datum.recs tyHeat).length)) = true ∧
    (∃ r z x, stands 0x0406 (cmd 0x0406 [0, 1]) farm (((fun _ c s => decide (p8 c.d 0 < (s.datum.recs tyHeat).length) && decide ((s.datum.recs tyHeat)[p8 c.d 0]? = some r) && decide (s.plant.zones[p8 c.d 0]? = some z) && decide (p8 c.d 1 = 1) && decide (s.dryer (hzMap r) = some x) && decide (x.sup.trip = 0) && !s.plant.safeHeld)) 0) = true) ∧
    (∃ z, stands 0x0406 (cmd 0x0406 []) farm (((fun _ c s => decide (p8 c.d 0 < (s.datum.recs tyHeat).length) && decide (s.plant.zones[p8 c.d 0]? = some z) && decide (p8 c.d 1 ≠ 1))) 0) = true) ∧
    meets specHeatOverride (crit specHeatOverride.op 1 [] []) farm (fun c s => decide (p8 c.d 0 < (s.datum.recs tyHeat).length)) = true ∧
    (∃ z, stands 0x0407 (cmd 0x0407 []) farm (((fun _ c s => decide (p8 c.d 0 < (s.datum.recs tyHeat).length) && decide (s.plant.zones[p8 c.d 0]? = some z))) 0) = true) ∧
    (∃ r, meets specSetPlenum (qry (zeros 2 ++ leBytes 2 1000)) farm (fun c s => decide ((s.datum.recs tyHeat)[p8 c.d 0]? = some r) && decide (hzMin r ≤ s16 c.d.params 2) && decide (s16 c.d.params 2 ≤ hzMax r)) = true) ∧
    (∃ r z, stands 0x0408 (cmd 0x0408 (zeros 2 ++ leBytes 2 1000)) farm (((fun _ c s => decide ((s.datum.recs tyHeat)[p8 c.d 0]? = some r) && decide (s.plant.zones[p8 c.d 0]? = some z) && decide (hzMin r ≤ s16 c.d.params 2) && decide (s16 c.d.params 2 ≤ hzMax r))) 0) = true) :=
  ⟨crit_meets (by decide +kernel),
   ⟨heatR, newZone heatR, dry 0, by decide +kernel⟩,
   ⟨newZone heatR, by decide +kernel⟩,
   crit_meets (by decide +kernel),
   ⟨newZone heatR, by decide +kernel⟩,
   ⟨heatR, by decide +kernel⟩,
   ⟨heatR, newZone heatR, by decide +kernel⟩⟩

/-- States and operands that meet the hypotheses of RouteAndBatchCommandsComplete, clause by clause. -/
theorem meets_RouteAndBatchCommandsComplete :
    meets specRouteStart (crit specRouteStart.op 1 [3] []) farm (fun c s => (s.datum.routeRec (p8 c.d 0)).isSome) = true ∧
    (∃ rr r, stands 0x0409 (cmd 0x0409 [3]) farm (((fun n c s => decide (s.datum.routeRec (p8 c.d 0) = some rr) && decide (s.route (p8 c.d 0) = some r) && (decide (r.state = 0) || decide (r.state = 4)) && decide (r.stopped ≠ some n) && !routeConflict s.datum s.plant rr && !(bit (rtFlags rr) 0 && s.plant.dryers.any fun x => x.map == rtMap rr && x.sup.trip != 0) && !s.plant.safeHeld)) 0) = true) ∧
    meets specRouteStop (qry [3]) farm (fun c s => (s.datum.routeRec (p8 c.d 0)).isSome) = true ∧
    (∃ r, stands 0x040A (cmd 0x040A [3]) farm (((fun _ c s => (s.datum.routeRec (p8 c.d 0)).isSome && decide (s.route (p8 c.d 0) = some r))) 0) = true) ∧
    meets (specBatchControl (qry [2, 3])) (qry [2, 3]) farm (fun c s => (s.datum.dryerOf (p8 c.d 0)).isSome) = true ∧
    (∃ x mr, stands 0x040B (cmd 0x040B [2, 1]) farm (((fun _ c s => (s.datum.dryerOf (p8 c.d 0)).isSome && decide (s.dryer (p8 c.d 0) = some x) && decide (s.datum.mapRec x.map = some mr) && decide (mapKind mr ≠ kCont) && decide (p8 c.d 1 = 1) && decide (x.bat.state = 0) && !s.plant.safeHeld)) 0) = true) ∧
    (∃ x mr, stands 0x040B (cmd 0x040B [2, 2]) (farm.putDryer { dry 2 with bat := { (dry 2).bat with state := 3, held := false } }) (((fun _ c s => (s.datum.dryerOf (p8 c.d 0)).isSome && decide (s.dryer (p8 c.d 0) = some x) && decide (s.datum.mapRec x.map = some mr) && decide (mapKind mr ≠ kCont) && decide (p8 c.d 1 = 2) && decide (x.bat.state ≠ 0) && !x.bat.held)) 0) = true) ∧
    (∃ x mr, stands 0x040B (cmd 0x040B [2, 4]) (farm.putDryer { dry 2 with bat := { (dry 2).bat with state := 3, held := true } }) (((fun _ c s => (s.datum.dryerOf (p8 c.d 0)).isSome && decide (s.dryer (p8 c.d 0) = some x) && decide (s.datum.mapRec x.map = some mr) && decide (mapKind mr ≠ kCont) && decide (p8 c.d 1 = 4) && x.bat.held && !s.plant.safeHeld)) 0) = true) ∧
    meets specDryRearm (crit specDryRearm.op 1 [] []) farm (fun c s => (s.datum.dryerOf (p8 c.d 0)).isSome) = true ∧
    (∃ x su, stands 0x040C (cmd 0x040C []) (farm.putDryer { dry 0 with sup := { (dry 0).sup with trip := 1, clear := 1 } }) (((fun _ c s => (s.datum.dryerOf (p8 c.d 0)).isSome && decide (s.dryer (p8 c.d 0) = some x) && decide (s.datum.superOf x.map = some su) && decide (x.sup.trip ≠ 0) && decide (suRearm su ≤ x.sup.clear))) 0) = true) :=
  ⟨crit_meets (by decide +kernel),
   ⟨routeR, newRoute dat routeR, by decide +kernel⟩,
   by decide +kernel,
   ⟨newRoute dat routeR, by decide +kernel⟩,
   by decide +kernel,
   ⟨dry 2, mapR 2 2, by decide +kernel⟩,
   ⟨{ dry 2 with bat := { (dry 2).bat with state := 3, held := false } }, mapR 2 2, by decide +kernel⟩,
   ⟨{ dry 2 with bat := { (dry 2).bat with state := 3, held := true } }, mapR 2 2, by decide +kernel⟩,
   crit_meets (by decide +kernel),
   ⟨{ dry 0 with sup := { (dry 0).sup with trip := 1, clear := 1 } }, superR, by decide +kernel⟩⟩

/-- States and operands that meet the hypotheses of StorageCommandsComplete, clause by clause. -/
theorem meets_StorageCommandsComplete :
    meets specAerationMode (qry [1, 3]) farm (fun c s => (s.bin (p8 c.d 0)).isSome && decide (p8 c.d 1 ≤ 3)) = true ∧
    (∃ x, stands 0x0502 (cmd 0x0502 [1, 3]) farm (((fun _ c s => decide (s.bin (p8 c.d 0) = some x) && decide (p8 c.d 1 ≤ 3))) 0) = true) ∧
    meets specAerationForce (crit specAerationForce.op 1 [1, 1, 1] []) farm (fun c s => (forceChk c s).isNone) = true ∧
    (∃ x, stands 0x0503 (cmd 0x0503 [1, 1, 1]) farm (((fun _ c s => decide (s.bin (p8 c.d 0) = some x) && (forceChk c s).isNone)) 0) = true) ∧
    meets specStoAck (qry [1, 0, 0, 0, 3]) (farm.putBin { bin1 with sensors := [{ newSens with cannot := true, hot := true }] }) (fun c s => (ackChk c s).isNone) = true ∧
    (∃ x y, stands 0x0504 (cmd 0x0504 [1, 0, 0, 0, 3]) (farm.putBin { bin1 with sensors := [{ newSens with cannot := true, hot := true }] }) (((fun _ c s => decide (s.bin (p8 c.d 0) = some x) && decide (x.sensors[p16 c.d 2]? = some y) && !(bit (p8 c.d 4) 0 && !y.cannot) && !(bit (p8 c.d 4) 1 && !y.hot))) 0) = true) ∧
    meets specNodeScan (qry []) farm (fun _ s => s.cableCan.isSome) = true ∧
    (∃ e, comes { farm with sto := { farm.sto with scanEnd := some 5 } } (fun s => s.awake && decide (s.sto.scanEnd = some e) && decide (e ≤ s.now)) = true) ∧
    comes { farm with time := { farm.time with acc := (8 - 4) * 2 ^ 55 } } (fun s => s.awake && (readDue s.datum (frameOf s.now)).isSome) = true :=
  ⟨by decide +kernel,
   ⟨bin1, by decide +kernel⟩,
   crit_meets (by decide +kernel),
   ⟨bin1, by decide +kernel⟩,
   by decide +kernel,
   ⟨{ bin1 with sensors := [{ newSens with cannot := true, hot := true }] }, { newSens with cannot := true, hot := true }, by decide +kernel⟩,
   by decide +kernel,
   ⟨5, by decide +kernel⟩,
   by decide +kernel⟩

/-- States and operands that meet the hypotheses of SensorQueriesComplete, clause by clause. -/
theorem meets_SensorQueriesComplete :
    (∃ r, meets specSenRead (qry []) farm (fun c s => (fun c s => decide (s.datum.chanRec (p8 c.d 0) = some r)) c s && fits c.d ((fun _ s => latestRec s r) c s)) = true) ∧
    meets specCswRead (qry []) farm always = true ∧
    meets specSenCounts (qry []) farm always = true ∧
    meets specCheckRead (qry []) farm (fun c s => always c s && fits c.d ((fun _ s => ((List.range 64).map (pinBytes s)).flatten) c s)) = true ∧
    (∃ r, meets specMoistSpectrum (qry [8]) farm (fun c s => (fun c s => decide (s.datum.chanRec (p8 c.d 0) = some r) && decide (s.datum.listOf (p8 c.d 0) = some 4) && !s.senDown) c s && fits c.d ((fun _ s => spectrumBytes ((s.sense.ent (chEntry r)).getD (newEnt r none)) r) c s)) = true) ∧
    (∃ r, meets specLinTest (qry []) farm (fun c s => decide (s.datum.chanRec (p8 c.d 0) = some r) && !s.senDown && decide (chLinSrc r ≠ 0)) = true) :=
  ⟨⟨chanR 0 1 0, by decide +kernel⟩,
   by decide +kernel,
   by decide +kernel,
   by decide +kernel,
   ⟨chanR 8 0 0, by decide +kernel⟩,
   ⟨chanR 0 1 0, by decide +kernel⟩⟩

/-- States and operands that meet the hypotheses of SensorOrdersComplete, clause by clause. -/
theorem meets_SensorOrdersComplete :
    (∃ r, meets specSeqRequest (qry []) farm (fun c s => decide (s.datum.seqRec (p8 c.d 0) = some r) && decide (sqTrig r = 3) && !s.senDown && !seqBusy s (p8 c.d 0) r && !seqTooSoon s (p8 c.d 0) r) = true) ∧
    meets specCswClear (qry []) farm (fun c s => (s.datum.cswRec (p8 c.d 0)).isSome && !s.senDown) = true ∧
    (∃ r, meets specMoistEmpty (qry [8]) farm (fun c s => decide (s.datum.chanRec (p8 c.d 0) = some r) && decide (s.datum.listOf (p8 c.d 0) = some 4) && decide (chMode r = 0) && !s.senDown && decide (64 ≤ c.d.plen)) = true) ∧
    (∃ r, meets specCheckRun (qry [1]) farm (fun c s => decide (((s.datum.recs tyChan).find? fun r => (entryPins r).contains (p8 c.d 0)) = some r) && !s.senDown) = true) ∧
    meets specCheckBaseline (qry [255]) farm (fun _ s => !s.senDown) = true :=
  ⟨⟨put 8 [(1, 1, 3), (3, 1, 1)], by decide +kernel⟩,
   by decide +kernel,
   ⟨chanR 8 0 0, by decide +kernel⟩,
   ⟨chanR 0 1 0, by decide +kernel⟩,
   by decide +kernel⟩

/-- States and operands that meet the hypotheses of FieldQueriesComplete, clause by clause. -/
theorem meets_FieldQueriesComplete :
    meets specVlvStatus (qry []) farm (fun c s => (s.datum.valveRec (p8 c.d 0)).isSome) = true ∧
    meets specVlvTherm (qry []) farm (fun c s => (fun c s => (s.datum.valveRec (p8 c.d 0)).isSome && !s.powDown) c s && fits c.d ((fun c s => thermBytes ((s.power.valve (p8 c.d 0)).getD (newValve (p8 c.d 0)))) c s)) = true ∧
    (∃ r, meets specFanStatus (qry []) farm (fun c s => decide (s.datum.fanRec (p8 c.d 0) = some r)) = true) ∧
    meets specUioStatus (qry []) farm (fun c s => (s.datum.uioLead (p8 c.d 0)).isSome) = true ∧
    meets specUioSupply (qry []) farm (fun c s => !s.ioDown && fits c.d (supplyBytes s)) = true :=
  ⟨by decide +kernel,
   by decide +kernel,
   ⟨fanR 0 2, by decide +kernel⟩,
   by decide +kernel,
   by decide +kernel⟩

/-- States and operands that meet the hypotheses of FieldSettingsComplete, clause by clause. -/
theorem meets_FieldSettingsComplete :
    meets specVlvForce (crit specVlvForce.op 1 [0, 2] []) farm (fun c s => (s.datum.valveRec (p8 c.d 0)).isSome && decide (p8 c.d 1 ≤ 2)) = true ∧
    stands 0x0702 (cmd 0x0702 [0, 2]) farm (((fun _ c s => (s.datum.valveRec (p8 c.d 0)).isSome && decide (p8 c.d 1 ≤ 2) && !s.powDown)) 0) = true ∧
    (∃ r, meets specFanSet (qry []) farm (fun c s => decide (s.datum.fanRec (p8 c.d 0) = some r) && decide (fnSource r = 2)) = true) ∧
    (∃ r, stands 0x0802 (cmd 0x0802 []) farm (((fun _ c s => decide (s.datum.fanRec (p8 c.d 0) = some r) && decide (fnSource r = 2) && !s.powDown)) 0) = true) ∧
    meets specFanForce (crit specFanForce.op 1 [0, 1] []) farm (fun c s => (s.datum.fanRec (p8 c.d 0)).isSome && decide (p8 c.d 1 ≤ 1)) = true ∧
    stands 0x0803 (cmd 0x0803 [0, 1]) farm (((fun _ c s => (s.datum.fanRec (p8 c.d 0)).isSome && decide (p8 c.d 1 ≤ 1) && !s.powDown)) 0) = true ∧
    (∃ r, meets specFanLoopSet (qry [1]) farm (fun c s => decide (s.datum.fanRec (p8 c.d 0) = some r) && decide (fnSource r = 1)) = true) ∧
    (∃ r, stands 0x0805 (cmd 0x0805 [1]) farm (((fun _ c s => decide (s.datum.fanRec (p8 c.d 0) = some r) && decide (fnSource r = 1) && !s.powDown)) 0) = true) ∧
    (∃ r, meets specUioSet (qry []) farm (fun c s => decide (s.datum.uioLead (p8 c.d 0) = some r) && ucIsOut r && decide (ucSource r = 1)) = true) ∧
    (∃ r, stands 0x0902 (cmd 0x0902 []) farm (((fun _ c s => decide (s.datum.uioLead (p8 c.d 0) = some r) && ucIsOut r && decide (ucSource r = 1) && !s.ioDown)) 0) = true) ∧
    (∃ r, meets specUioForce (crit specUioForce.op 1 [0, 2] []) farm (fun c s => decide (s.datum.uioLead (p8 c.d 0) = some r) && ucIsOut r && decide (p8 c.d 1 ≤ 2)) = true) ∧
    (∃ r, stands 0x0903 (cmd 0x0903 [0, 2]) farm (((fun _ c s => decide (s.datum.uioLead (p8 c.d 0) = some r) && ucIsOut r && decide (p8 c.d 1 ≤ 2) && !s.ioDown)) 0) = true) :=
  ⟨crit_meets (by decide +kernel),
   by decide +kernel,
   ⟨fanR 0 2, by decide +kernel⟩,
   ⟨fanR 0 2, by decide +kernel⟩,
   crit_meets (by decide +kernel),
   by decide +kernel,
   ⟨fanR 1 1, by decide +kernel⟩,
   ⟨fanR 1 1, by decide +kernel⟩,
   ⟨uioR 0 2 16 1, by decide +kernel⟩,
   ⟨uioR 0 2 16 1, by decide +kernel⟩,
   ⟨uioR 0 2 16 1, crit_meets (by decide +kernel)⟩,
   ⟨uioR 0 2 16 1, by decide +kernel⟩⟩

/-- States and operands that meet the hypotheses of FieldClearsComplete, clause by clause. -/
theorem meets_FieldClearsComplete :
    meets specVlvClear (qry [255]) farm (fun c s => decide (p8 c.d 0 = 0xFF) && !s.powDown) = true ∧
    (∃ q, meets specVlvClear (qry []) farm (fun c s => decide (p8 c.d 0 ≠ 0xFF) && (s.datum.valveRec (p8 c.d 0)).isSome && !s.powDown && decide (vlvClearAt (p8 c.d 0) s.openBit s.used = some q)) = true) ∧
    meets specFanClear (qry [255]) farm (fun c s => decide (p8 c.d 0 = 0xFF) && !s.powDown) = true ∧
    (∃ q, meets specFanClear (qry []) farm (fun c s => decide (p8 c.d 0 ≠ 0xFF) && (s.datum.fanRec (p8 c.d 0)).isSome && !s.powDown && decide (fanClearAt (p8 c.d 0) s.openBit s.used = some q)) = true) ∧
    meets specUioClear (qry [255]) farm (fun c s => decide (p8 c.d 0 = 0xFF) && !s.ioDown) = true ∧
    (∃ q, meets specUioClear (qry []) farm (fun c s => decide (p8 c.d 0 ≠ 0xFF) && (s.datum.uioLead (p8 c.d 0)).isSome && !s.ioDown && decide (uioClearAt (p8 c.d 0) s.openBit s.used = some q)) = true) ∧
    (∃ f, ∃ s2, meets specFanLearn (qry []) { farm with power := { farm.power with fans := [f0] } } (fun c s => (s.datum.fanRec (p8 c.d 0)).isSome && decide (s.power.fan (p8 c.d 0) = some f) && !s.powDown && fits c.d (f.bins.map binBytes).flatten && decide (commitBins (if bit (p8 c.d 1) 0 then putPower (s.power.setFan { f with bins := noBins }) s else s) = (s2, true))) = true) :=
  ⟨by decide +kernel,
   meets_some (by decide +kernel),
   by decide +kernel,
   meets_some (by decide +kernel),
   by decide +kernel,
   meets_some (by decide +kernel),
   ⟨f0, meets_pair (by decide +kernel)⟩⟩

/-- States and operands that meet the hypotheses of CanCommandsComplete, clause by clause. -/
theorem meets_CanCommandsComplete :
    meets specCanStatus (qry []) farm (fun c s => (s.datum.canRec (p8 c.d 0)).isSome) = true ∧
    meets specCanStrangers (qry [0, 1]) farm (fun c s => (s.datum.canRec (p8 c.d 0)).isSome && fits c.d (((s.canCh (p8 c.d 0)).table.map strangerBytes).flatten)) = true ∧
    (∃ h i x, meets specCanTxCancel (qry [0, 0, 0, 0, 7]) (withCan { c0 with fifo := [tx 5, tx 7] }) (fun c s => (canSendRec c s).isSome && decide (tagHolder (p8 c.d 0) (p32 c.d 4) s = some (h, i, x)) && !(i == 0 && (txHead h).isSome)) = true) ∧
    (∃ h x, meets specCanTxCancel (qry [0, 0, 0, 0, 7]) (withCan { c0 with fifo := [tx 7] }) (fun c s => (canSendRec c s).isSome && decide (tagHolder (p8 c.d 0) (p32 c.d 4) s = some (h, 0, x)) && (txHead h).isSome) = true) ∧
    (∃ r, meets specCanRecover (qry []) (withCan { c0 with state := 2 }) (fun c s => decide (s.datum.canRec (p8 c.d 0) = some r) && decide ((s.canCh (p8 c.d 0)).state = 2) && !cnAuto r) = true) ∧
    (∃ r, meets specCanClaim (qry []) farm (fun c s => decide (canSendRec c s = some r) && !((s.canCh (p8 c.d 0)).claim.any fun k => !k.holding)) = true) ∧
    meets specCanRelease (qry []) farm (fun c s => (s.datum.canRec (p8 c.d 0)).isSome) = true :=
  ⟨by decide +kernel,
   by decide +kernel,
   ⟨{ c0 with fifo := [tx 5, tx 7] }, 1, tx 7, by decide +kernel⟩,
   ⟨{ c0 with fifo := [tx 7] }, tx 7, by decide +kernel⟩,
   ⟨canR 0, by decide +kernel⟩,
   ⟨canR 0, by decide +kernel⟩,
   by decide +kernel⟩

/-- States and operands that meet the hypotheses of SystemCommandsComplete, clause by clause. -/
theorem meets_SystemCommandsComplete :
    meets specSysInfo (qry []) farm (fun c s => always c s && fits c.d ((fun _ s => sysInfoBytes s) c s)) = true ∧
    meets specExchangeRead (qry ([0, 3] ++ leBytes 2 256)) farm (fun c s => (fun c _ => decide (p16 c.d 2 ≠ 0) && decide (p16 c.d 0 + p16 c.d 2 ≤ 1024)) c s && fits c.d ((fun c s => ((List.range (p16 c.d 2)).map fun i => slotBytes s (p16 c.d 0 + i)).flatten) c s)) = true ∧
    meets specReadDatum (qry []) farm (fun c s => always c s && fits c.d ((fun _ s => (s.area.datum.body).getD []) c s)) = true ∧
    (∃ f, meets specSampleFeed (qry []) farm (fun c s => decide (c.d.plen % 16 = 0) && decide ((chunks 16 (c.d.plen / 16) c.d.data).foldl feedOne { s := s, taken := 0, refused := 0 } = f)) = true) ∧
    (∃ x, meets specAbort (qry [9]) { farm with cmds := [{ cmd 0x0701 [] with d := { qry [] with tag := 9 } }] } (fun c s => decide (abortTarget c.d s = some x)) = true) ∧
    meets specLoadDatum (crit specLoadDatum.op 1 [] datImg) farm (fun c s => !s.armed && (checkImage c.d.data c.d.plen (legImages s)).isNone) = true :=
  ⟨by decide +kernel,
   by decide +kernel,
   by decide +kernel,
   meets_val (by decide +kernel),
   ⟨{ cmd 0x0701 [] with d := { qry [] with tag := 9 } }, by decide +kernel⟩,
   crit_meets (by decide +kernel)⟩

/-- States and operands that meet the hypotheses of SafeAndPowerCommandsComplete, clause by clause. -/
theorem meets_SafeAndPowerCommandsComplete :
    meets specSafeSet (qry []) farm always = true ∧
    meets specSafeStatus (qry []) farm always = true ∧
    meets specSafeRelease (crit specSafeRelease.op 1 [] []) farm (fun _ s => (releaseBad s).isNone) = true ∧
    stands 0x0130 { cmd 0x0130 [] with acc := 1 } farm (((fun _ c s => decide (s.safe.at' < c.acc))) 0) = true ∧
    (∃ k, ∃ s2, meets specPlanSet (crit specPlanSet.op 1 (([0, 63] : Bytes) ++ leBytes 2 7200) []) farm (fun c s => decide (20 ≤ p16 c.d 2) && decide (p16 c.d 2 ≤ 7200) && decide (p8 c.d 1 < 64) && decide (s.areaNo = some k) && decide (storePlan k { armed := p8 c.d 0, causes := p8 c.d 1, delay := p16 c.d 2, secVer := s.boot.secVer, hash := configHash s } (ledTarget c.led (0x3006 + 0x1000 * k) (s.areaAt k).plan.nextGen s) = (s2, true))) = true) ∧
    meets specPlanRead (qry []) farm (fun c s => always c s && fits c.d ((fun _ s => match s.area.plan.body with | some p => planBytes p | none => zeros 64) c s)) = true ∧
    meets specPwrState (qry [1]) farm (fun c _ => decide (p8 c.d 0 < 2) && decide (p32 c.d 4 = 0)) = true ∧
    meets specPwrState (qry [3, 0, 0, 0, 9]) (withUpd fun u => { u with run := { bootReset with state := 1 } }) (fun c s => (decide (p8 c.d 0 = 2) && decide (p32 c.d 4 = 0) || decide (p8 c.d 0 = 3)) && !pwrBusy c.eff s && s.clk.lfProven) = true ∧
    stands 0x0120 (cmd 0x0120 [1]) farm (((fun _ c _ => decide (p8 c.d 0 < 2))) 0) = true ∧
    meets specPwrReset (crit specPwrReset.op 1 [] []) farm (fun _ s => !s.armed) = true :=
  ⟨by decide +kernel,
   by decide +kernel,
   crit_meets (by decide +kernel),
   by decide +kernel,
   ⟨0, meets_pair (crit_meets (by decide +kernel))⟩,
   by decide +kernel,
   by decide +kernel,
   by decide +kernel,
   by decide +kernel,
   crit_meets (by decide +kernel)⟩

/-- States and operands that meet the hypotheses of KeyAndStoreCommandsComplete, clause by clause. -/
theorem meets_KeyAndStoreCommandsComplete :
    meets specKeyStatus (qry [7]) farm (fun c _ => decide (p8 c.d 0 ≤ 7)) = true ∧
    meets specCosignRead (qry []) farm (fun c s => always c s && fits c.d ((fun _ s => s.cosign.key.getD []) c s)) = true ∧
    (∃ key, ∃ q, meets (specKeyChange (qd [0] (zeros 16)) (advance 0 { farm with auth := authReset })) (qd [0] (zeros 16)) { farm with auth := authReset } (fun c s => decide (p8 c.d 0 ≤ 7) && decide (newKeyOf c s = some key) && decide (storeKey (p8 c.d 0) { key := some key, mask := installMask (p8 c.d 0) (p16 c.d 2), installs := (s.keyRec (p8 c.d 0)).installs + 1 } (ledTarget c.led (0xA200 + p8 c.d 0) (s.kslot (p8 c.d 0)).key.nextGen s) = (q, true))) = true) ∧
    (∃ q, meets specKeyErase (crit specKeyErase.op 0 [7] []) farm (fun c s => decide (1 ≤ p8 c.d 0) && decide (p8 c.d 0 ≤ 7) && decide (storeKey (p8 c.d 0) { key := none, mask := 0, installs := (s.keyRec (p8 c.d 0)).installs } (ledTarget c.led (0xA200 + p8 c.d 0) (s.kslot (p8 c.d 0)).key.nextGen s) = (q, true))) = true) ∧
    (∃ q, meets specCosignSet (crit specCosignSet.op 0 [] p256G) farm (fun c s => onP256 c.d.data && decide (storeCosign { key := some c.d.data, require := bit (p8 c.d 0) 0 } (ledTarget c.led 0xA208 s.auth.cosign.nextGen s) = (q, true))) = true) ∧
    meets specQueryLedger (qry [63, 1]) farm (fun c s => (fun c _ => decide (p8 c.d 1 ≠ 0) && decide (p8 c.d 0 + p8 c.d 1 ≤ 64)) c s && fits c.d ((fun c s => ((List.range (p8 c.d 1)).map fun i => (ledRead s (p8 c.d 0 + i)).take 56).flatten) c s)) = true ∧
    meets specNvsStatus (qry []) farm always = true ∧
    meets specSettingsCommit (crit specSettingsCommit.op 1 [] []) farm (fun c _ => !bit (p8 c.d 0) 0) = true :=
  ⟨by decide +kernel,
   by decide +kernel,
   ⟨zeros 16, meets_pair (by decide +kernel)⟩,
   meets_pair (crit_meets (by decide +kernel)),
   meets_pair (crit_meets (by decide +kernel)),
   by decide +kernel,
   by decide +kernel,
   crit_meets (by decide +kernel)⟩

/-- States and operands that meet the hypotheses of DownloadCommandsComplete, clause by clause. -/
theorem meets_DownloadCommandsComplete :
    meets specUpdStatus (qry []) farm always = true ∧
    meets specStageStatus (qry []) farm always = true ∧
    meets specUpdBitmap (qry []) farm (fun c s => always c s && fits c.d ((fun _ s => leBytes 80 s.upd.bitmap) c s)) = true ∧
    meets specUpdBegin (qd [] header) (session 1 1 1) (fun c s => !s.upd.applyBusy && (headerCheck c.d.data 1 s).isNone && decide (s.session.state ≠ 0) && decide (s.session.hash = hdHash c.d.data) && decide (s.session.path = 1)) = true ∧
    (∃ s2, meets specUpdBegin (qd [] header) farm (fun c s => !s.upd.applyBusy && (headerCheck c.d.data 1 s).isNone && !(s.session.state != 0 && decide (s.session.hash = hdHash c.d.data) && decide (s.session.path = 1)) && decide (openSession c.d.data 1 s = (s2, true))) = true) ∧
    (∃ s2, meets specStageBegin (qd [] header) farm (fun c s => !stageBusy s && (headerCheck c.d.data 2 s).isNone && !(s.session.state != 0 && decide (s.session.hash = hdHash c.d.data) && decide (s.session.path = 2)) && decide (openSession c.d.data 2 s = (s2, true))) = true) ∧
    (∃ s2, meets specUpdBlock (qd [] (zeros 8)) (session 1 1 1) (fun c s => !s.upd.applyBusy && decide (s.session.state = 1) && decide (s.session.path = 1) && decide (p16 c.d 0 < s.session.blocks) && decide (c.d.plen = blockLen (p16 c.d 0) s) && !bit s.upd.bitmap (p16 c.d 0) && decide (putBlock (p16 c.d 0) c.d.data s = (s2, true))) = true) ∧
    (∃ s2, meets specStageWrite (qd [] (zeros 8)) (session 1 2 1) (fun c s => !stageBusy s && decide (s.session.state = 1) && decide (p32 c.d 0 % 4096 = 0) && decide (p32 c.d 0 / 4096 < s.session.blocks) && decide (c.d.plen = blockLen (p32 c.d 0 / 4096) s) && !bit s.upd.bitmap (p32 c.d 0 / 4096) && decide (putBlock (p32 c.d 0 / 4096) c.d.data s = (s2, true))) = true) ∧
    meets specUpdApply (qry []) (session 1 1 0) (fun _ s => !s.upd.applyBusy && decide (s.session.state = 1) && decide (s.session.path = 1) && bitmapFull s) = true ∧
    (∃ s2, meets specUpdCancel (qry []) (session 1 1 1) (fun _ s => !s.upd.applyBusy && decide (s.session.state ≠ 0) && decide (storeSession { s.session with state := 0 } s = (s2, true))) = true) :=
  ⟨by decide +kernel,
   by decide +kernel,
   by decide +kernel,
   by decide +kernel,
   meets_pair (by decide +kernel),
   meets_pair (by decide +kernel),
   meets_pair (by decide +kernel),
   meets_pair (by decide +kernel),
   by decide +kernel,
   meets_pair (by decide +kernel)⟩

/-- States and operands that meet the hypotheses of ActivationCommandsComplete, clause by clause. -/
theorem meets_ActivationCommandsComplete :
    (∃ s1, meets specUpdActivate (crit specUpdActivate.op 1 [] []) (session 2 1 0) (fun c s => decide (s.session.state = 2) && decide (s.session.path = 1) && !(bit (p8 c.d 2) 1 && s.armed) && decide (storeBoot (trialRec (clampN 60 3600 (dflt (p16 c.d 0) 900)) (2 * b2n (bit (p8 c.d 2) 0)) s) (ledTarget c.led 0xA100 s.upd.boot.nextGen s) = (s1, true))) = true) ∧
    (∃ s1, meets specUpdConfirm (crit specUpdConfirm.op 1 [] []) { trial with upd := { trial.upd with trialEnd := some (2 ^ 70) } } (fun c s => onTrial s.boot && s.upd.healthy && !trialOver s && decide (confirm (ledTarget c.led 0xA100 s.upd.boot.nextGen s) = (s1, true))) = true) ∧
    meets specUpdFallback (qry []) { trial with upd := { trial.upd with trialEnd := some (2 ^ 70) } } (fun _ s => onTrial s.boot && !s.armed) = true ∧
    (∃ s1, meets specStageCommit (crit specStageCommit.op 1 [] []) (session 1 2 0) (fun c s => !s.armed && !stageBusy s && decide (s.session.state = 1) && bitmapFull s && decide (storeBoot (trialRec 900 3 s) (ledTarget c.led 0xA100 s.upd.boot.nextGen s) = (s1, true))) = true) :=
  ⟨meets_pair (crit_meets (by decide +kernel)),
   meets_pair (crit_meets (by decide +kernel)),
   by decide +kernel,
   meets_pair (crit_meets (by decide +kernel))⟩

/-- States and operands that meet the hypotheses of RecorderCommandsComplete, clause by clause. -/
theorem meets_RecorderCommandsComplete :
    meets specGazStatus (qry []) farm always = true ∧
    meets specGazRead (qry ([0, 0] ++ leBytes 2 15872 ++ leBytes 2 512)) farm (fun c s => (fun c _ => decide (p8 c.d 0 ≤ 1) && decide (1 ≤ p16 c.d 4) && decide (p16 c.d 4 ≤ 512) && decide (p16 c.d 2 + p16 c.d 4 ≤ if p8 c.d 0 = 0 then 16384 else 8192)) c s && fits c.d ((fun c s => ((List.range (p16 c.d 4)).map fun i => (gazSlot (p8 c.d 0 == 1) (p16 c.d 2 + i) s).take 64).flatten) c s)) = true ∧
    (∃ s2, meets specGazClear (crit specGazClear.op 1 [7] []) farm (fun c s => decide (p8 c.d 0 % 8 ≠ 0) && decide (storeG0 { s.g0 with aFirst := if bit (p8 c.d 0 % 8) 0 then s.gaz.next else s.g0.aFirst, bFirst := if bit (p8 c.d 0 % 8) 1 then s.gaz.next else s.g0.bFirst } (ledTarget c.led 0xA001 s.gaz.g0.nextGen s) = (s2, true))) = true) ∧
    meets specLifeRead (qry [8]) farm (fun c s => (fun c _ => decide (p8 c.d 0 ≤ 8)) c s && fits c.d ((fun c s => lifeInForce s (p8 c.d 0)) c s)) = true ∧
    meets specLifeReplace (qry []) farm (fun c s => (s.datum.valveRec (p8 c.d 0)).isSome) = true ∧
    (∃ m, meets specMaintAck (qry [3]) (farm.setLife { farm.gaz.life with maint := [⟨3, 0, 0, true, 0, 0, false, 1⟩] }) (fun c s => decide ((s.gaz.life.maint.find? fun m => m.item == p8 c.d 0) = some m) && m.due) = true) ∧
    meets specLastWordsRead (qry []) farm (fun c s => always c s && fits c.d ((fun _ s => ((List.range 8).map fun k => (padTo 64 ((lookupKey k s.gaz.words).getD [])).take 64).flatten) c s)) = true :=
  ⟨by decide +kernel,
   by decide +kernel,
   meets_pair (crit_meets (by decide +kernel)),
   by decide +kernel,
   by decide +kernel,
   ⟨⟨3, 0, 0, true, 0, 0, false, 1⟩, by decide +kernel⟩,
   by decide +kernel⟩

/-- States and operands that meet the hypotheses of DoorbellAndHeartbeatComplete, clause by clause. -/
theorem meets_DoorbellAndHeartbeatComplete :
    (∃ r v, comes farm (fun s => s.awake && decide (r < 46) && (s.ring r).enable && hostProducer r && !doorbellBad r v (s.ring r)) = true) ∧
    (∃ r v, comes (farm.setRing 16 { ringReset with enable := true, dev := 3 }) (fun s => s.awake && decide (r < 46) && (s.ring r).enable && !hostProducer r && !doorbellBad r v (s.ring r)) = true) ∧
    (∃ (v : Nat), comes (withHif fun h => { h with hbStart := farm.now }) (fun s => s.awake && !s.hif.hostSilent && (heartbeatEnd s).all fun e => decide (s.now ≤ e)) = true) ∧
    (∃ (v : Nat), comes (withHif fun h => { h with hostSilent := true }) (fun s => s.awake && s.hif.hostSilent) = true) ∧
    (∃ (v : Nat) (e : Nat), comes (withHif fun h => { h with hbStart := 0, hbTimeout := 1 }) (fun s => s.awake && decide (heartbeatEnd s = some e) && decide (e < s.now)) = true) ∧
    (∃ (v : Nat), comes (withHif fun h => { h with hbStart := farm.now }) (fun s => (fun s => s.awake && !s.hif.hostSilent && (heartbeatEnd s).all fun e => decide (s.now ≤ e)) s && !s.cy.early.contains ((fun t => .hifHbkick t v) 0)) = true) ∧
    (∃ (v : Nat), comes farm (fun s => State.awake s && !s.cy.early.contains ((fun t => .hifHbcfgWrite t v) 0)) = true) ∧
    (∃ (e : Nat), comes (withHif fun h => { h with hbStart := 0, hbTimeout := 1 }) (fun s => s.awake && decide (heartbeatEnd s = some e) && decide (e ≤ s.now) && !heartbeatWaits s) = true) ∧
    (∃ m r a, comes { withHif (fun h => { h with hostSilent := true }) with plant := { farm.plant with silentAt := some 0 } } (fun s => s.awake && decide (s.datum.dryerOf m = some r) && decide (s.plant.silentAt = some a) && s.hif.hostSilent && decide (dcAutoLimit r ≠ 0) && decide (a + dcAutoLimit r * 60 * 2 ^ 24 ≤ s.now) && !(s.cmds.any fun c => c.op == opHostLimit && u8 c.d.params 0 == m) && !((dryerAt s.plant m).any fun x => x.stopped)) = true) :=
  ⟨⟨0, 2, by decide +kernel⟩,
   ⟨16, 0, by decide +kernel⟩,
   ⟨1, by decide +kernel⟩,
   ⟨1, by decide +kernel⟩,
   ⟨1, 1677722, by decide +kernel⟩,
   ⟨1, by decide +kernel⟩,
   ⟨4095, by decide +kernel⟩,
   ⟨1677722, by decide +kernel⟩,
   ⟨0, dryR 0, 0, by decide +kernel⟩⟩

/-- States and operands that meet the hypotheses of RingAndLinkEventsComplete, clause by clause. -/
theorem meets_RingAndLinkEventsComplete :
    (∃ r v, comes (withHif fun h => { h with shadow := 4096 }) (fun s => (fun s => s.awake && decide (r < 46) && !(s.ring r).enable && bit v 31 && !enableRefused r { s.ring r with vector := bits v 20 16, cq := if r < 16 then bits v 11 8 else 0, log2 := bits v 4 0 } s) s && !s.cy.early.contains ((fun t => .ringEnable t r v) 0)) = true) ∧
    (∃ r v, comes farm (fun s => (fun s => s.awake && decide (r < 46) && (s.ring r).enable && !bit v 31) s && !s.cy.early.contains ((fun t => .ringDisable t r v) 0)) = true) ∧
    (∃ cq p, comes (withHif fun h => { h with held := [(0, [])] }) (fun s => s.awake && decide ((s.hif.held.find? fun q => q.1 == cq) = some p) && decide ((s.ring (16 + cq)).room ≠ 0)) = true) ∧
    (∃ r, comes ((farm.setRing 32 { ringReset with enable := true }).setSpill 32 { noSpill with recs := [[]] }) (fun s => s.awake && decide (0 < min (s.spill r).recs.length (s.ring r).room)) = true) ∧
    comes farm State.awake = true ∧
    comes farm State.awake = true ∧
    (∃ (sp : Nat) (w : Nat) (b : Bool), comes farm State.awake = true) :=
  ⟨⟨1, 2 ^ 31 + 65536 * 8 + 256 * 0 + 4, by decide +kernel⟩,
   ⟨16, 0, by decide +kernel⟩,
   ⟨0, (0, []), by decide +kernel⟩,
   ⟨32, by decide +kernel⟩,
   by decide +kernel,
   by decide +kernel,
   ⟨3, 4, true, by decide +kernel⟩⟩

/-- States and operands that meet the hypotheses of RegisterCommandsComplete, clause by clause. -/
theorem meets_RegisterCommandsComplete :
    (∃ (a : Nat) (v : Nat), comes farm (fun s => State.awake s && !s.cy.early.contains ((fun t => .registerWrite t (4 * a) 4 v) 0)) = true) ∧
    comes farm State.awake = true ∧
    comes farm (fun s => !s.pwr.reset) = true ∧
    (∃ (n : Nat) (v : Nat), comes farm (fun s => (fun s => s.awake && decide (n < 3) && s.safe.set) s && !s.cy.early.contains ((fun t => .sysIlcfgWrite t n v) 0)) = true) ∧
    (∃ (v : Nat), comes farm (fun s => (fun s => !s.pwr.reset) s && !s.cy.early.contains ((fun t => .sysLedgerSelWrite t v) 0)) = true) ∧
    (∃ (v : Nat), comes farm (fun s => (fun s => s.awake && decide (clampN 1 24 (v % 32) ≠ s.gaz.bHours)) s && !s.cy.early.contains ((fun t => .gazCfgWrite t v) 0)) = true) ∧
    (∃ (ch : _) (v : Nat), comes farm (fun s => (fun s => s.awake && decide (ch < 4)) s && !s.cy.early.contains ((fun t => .canMbbaseWrite t ch true v) 0)) = true) ∧
    (∃ (ch : _) (v : Nat), comes farm (fun s => (fun s => s.awake && decide (ch < 4)) s && !s.cy.early.contains ((fun t => .canMbbaseWrite t ch false v) 0)) = true) :=
  ⟨⟨256, 0, by decide +kernel⟩,
   by decide +kernel,
   by decide +kernel,
   ⟨2, 16383, by decide +kernel⟩,
   ⟨63, by decide +kernel⟩,
   ⟨31, by decide +kernel⟩,
   ⟨3, 1, by decide +kernel⟩,
   ⟨0, 4096, by decide +kernel⟩⟩

/-- States and operands that meet the hypotheses of InterruptCommandsComplete, clause by clause. -/
theorem meets_InterruptCommandsComplete :
    (∃ n, comes farm (fun s => s.awake && decide (n < 8)) = true) ∧
    (∃ (n : Nat) (v : Nat), comes farm (fun s => (fun s => s.awake && decide (n < 8)) s && !s.cy.early.contains ((fun t => .icDone t n v) 0)) = true) ∧
    (∃ (v : Nat), comes farm (fun s => State.awake s && !s.cy.early.contains ((fun t => .icTreset t v) 0)) = true) ∧
    (∃ (v : Nat), comes farm (fun s => State.awake s && !s.cy.early.contains ((fun t => .icSwset t v) 0)) = true) ∧
    (∃ (w : Nat) (v : Nat), comes farm (fun s => (fun s => s.awake && decide (w < 8)) s && !s.cy.early.contains ((fun t => .icPendClear t w v) 0)) = true) ∧
    (∃ (n : Nat) (v : Nat), comes farm (fun s => (fun s => s.awake && decide (n < 256)) s && !s.cy.early.contains ((fun t => .icSrccfgWrite t n v) 0)) = true) ∧
    (∃ (v : Nat), comes farm (fun s => State.awake s && !s.cy.early.contains ((fun t => .icTsleepWrite t v) 0)) = true) ∧
    (∃ (n : _) (l : Bool), comes farm (fun s => s.awake && !(decide (9 ≤ n) && decide (n ≤ 24)) && s.pwr.cycle.isNone) = true) ∧
    (∃ n, comes farm (fun s => s.awake && decide (9 ≤ n) && decide (n ≤ 24) && !bit s.ic.gpl (n - 9)) = true) ∧
    (∃ n, comes { farm with ic := farm.ic.setSrc 5 { farm.ic.src 5 with start := some 0, time := 1, count := 2, c := 1 } } (fun s => s.awake && !(s.ic.src n).pend && !s.ic.inSvc n && timeUp s.now (s.ic.src n)) = true) :=
  ⟨⟨7, by decide +kernel⟩,
   ⟨7, 0, by decide +kernel⟩,
   ⟨8191, by decide +kernel⟩,
   ⟨65535, by decide +kernel⟩,
   ⟨7, 0, by decide +kernel⟩,
   ⟨255, 0, by decide +kernel⟩,
   ⟨0, by decide +kernel⟩,
   ⟨8, true, by decide +kernel⟩,
   ⟨24, by decide +kernel⟩,
   ⟨5, by decide +kernel⟩⟩

/-- States and operands that meet the hypotheses of SpiCommandsComplete, clause by clause. -/
theorem meets_SpiCommandsComplete :
    (∃ (x : SpiTx), comes farm (fun s => (fun s => !(hostFirst (fun off => off == x.addr) s).pwr.reset && decide (x.len = 4) && spiWriteOk 1 x && decide (x.addr % 4 = 0)) s && !s.cy.early.contains ((fun t => .spiRegisterWrite t x) 0)) = true) ∧
    (∃ (x : SpiTx), comes farm (fun s => !(readTurn x.addr s).pwr.reset && decide (x.len = 4) && decide (x.addr % 4 = 0)) = true) ∧
    (∃ (x : SpiTx), comes farm (fun s => !s.pwr.reset && decide (1 ≤ x.len) && decide (x.len ≤ 4096) && spiWriteOk 3 x) = true) ∧
    (∃ (x : SpiTx), comes farm (fun s => !s.pwr.reset && decide (1 ≤ x.len) && decide (x.len ≤ 4096)) = true) ∧
    (∃ x : SpiTx, x.addr + x.len ≤ 65536) ∧
    (∃ (x : SpiTx), comes farm (fun s => !s.pwr.reset && decide (x.addr = 0) && decide (x.len = 64) && spiWriteOk 5 x && s.spi.mailbox.isNone) = true) ∧
    (∃ (x : SpiTx), comes farm (fun s => !s.pwr.reset && decide (x.addr = 0) && decide (x.len = 32)) = true) ∧
    (∃ (x : SpiTx), comes farm (fun s => !s.pwr.reset && (decide (x.len = 0) || decide (4096 < x.len) || !spiWriteOk 3 x)) = true) ∧
    (∃ (x : SpiTx), comes farm (fun s => !s.pwr.reset && (decide (x.addr ≠ 0) || decide (x.len ≠ 64) || !spiWriteOk 5 x || s.spi.mailbox.isSome)) = true) :=
  ⟨⟨spi 1 0x400 4 (zeros 4), by decide +kernel⟩,
   ⟨spi 0 0x400 4 [], by decide +kernel⟩,
   ⟨spi 3 65535 4 (zeros 4), by decide +kernel⟩,
   ⟨spi 0 61440 4096 [], by decide +kernel⟩,
   ⟨{ addr := 65535, len := 1, data := [], crc := 0 }, by decide⟩,
   ⟨spi 5 0 64 (zeros 64), by decide +kernel⟩,
   ⟨spi 0 0 32 [], by decide +kernel⟩,
   ⟨{ addr := 0, len := 4, data := zeros 4, crc := 0 }, by decide +kernel⟩,
   ⟨{ addr := 0, len := 64, data := zeros 64, crc := 0 }, by decide +kernel⟩⟩

/-- States and operands that meet the hypotheses of LinkEventsComplete, clause by clause. -/
theorem meets_LinkEventsComplete :
    (∃ k, comes farm (fun s => decide (k < 3) && linkRuns k s && (s.near k).session.isSome) = true) ∧
    (∃ k dmg f g rest, comes (withNear 1 fun x => { x with wire := [(sealOut 1 frameOut)] }) (fun s => decide (k < 3) && decide (((judgedFirst k s).near k).wire = f :: rest) && decide (outTaken k dmg f = some g) && !dieDown k ((judgedFirst k s).setNear k { (judgedFirst k s).near k with wire := rest })) = true) ∧
    (∃ k dmg f rest, comes (withNear 1 fun x => { x with wire := [frameOut] }) (fun s => decide (k < 3) && decide (((judgedFirst k s).near k).wire = f :: rest) && decide (outTaken k dmg f = none) && !dieDown k ((judgedFirst k s).setNear k { (judgedFirst k s).near k with wire := rest })) = true) ∧
    (∃ k, comes farm (fun s => decide (k < 3) && !dieDown k s) = true) ∧
    (∃ k dmg f g rest, comes (withFar 1 fun x => { x with wire := [(sealIn 1 frameIn0)] }) (fun s => decide (k < 3) && decide ((s.far k).wire = f :: rest) && decide (inTaken k dmg f = some g) && s.awake && !s.upd.recovery && !s.resetNow) = true) ∧
    (∃ k dmg f rest, comes (withFar 1 fun x => { x with wire := [frameIn0] }) (fun s => decide (k < 3) && decide ((s.far k).wire = f :: rest) && decide (inTaken k dmg f = none) && s.awake && !s.upd.recovery && !s.resetNow) = true) ∧
    (∃ k, comes (withFar 2 fun x => { x with timer := some (0, 100) }) (fun s => decide (k < 3) && !dieDown k s && farTimerUp s.now (s.far k).timer && !frameWaits k s) = true) ∧
    (∃ k, comes (withNear 2 fun x => { x with timer := some (0, 100) }) (fun s => decide (k < 3) && s.awake && !(s.near k).stopped && timerUp s.now (s.near k).timer) = true) ∧
    (∃ k e, comes (withFar 1 fun x => { x with lease := some 5 }) (fun s => decide (k < 3) && !dieDown k s && decide ((s.far k).lease = some e) && (decide (e < s.now) || decide (e = s.now) && !frameWaits k s)) = true) ∧
    (∃ k, comes (withNear 0 fun x => { x with lost := true }) (fun s => decide (k < 3) && s.awake && (s.near k).lost && decide ((s.near k).silentAt < frameStart (frameOf s.now))) = true) :=
  ⟨⟨2, by decide +kernel⟩,
   ⟨1, cleanLine, (sealOut 1 frameOut), (sealOut 1 frameOut), [], (by rw [comes]; simp only [Bool.and_eq_true, decide_eq_true_eq]; exact ⟨⟨⟨by decide, rfl⟩, outTaken_clean (by decide) _⟩, by decide +kernel⟩)⟩,
   ⟨1, spoilt, frameOut, [], by decide +kernel⟩,
   ⟨2, by decide +kernel⟩,
   ⟨1, cleanLine, (sealIn 1 frameIn0), (sealIn 1 frameIn0), [], (by rw [comes]; simp only [Bool.and_eq_true, decide_eq_true_eq]; exact ⟨⟨⟨⟨⟨by decide, rfl⟩, inTaken_clean (by decide) _⟩, by decide +kernel⟩, by decide +kernel⟩, by decide +kernel⟩)⟩,
   ⟨1, spoilt, frameIn0, [], by decide +kernel⟩,
   ⟨2, by decide +kernel⟩,
   ⟨2, by decide +kernel⟩,
   ⟨1, 5, by decide +kernel⟩,
   ⟨0, by decide +kernel⟩⟩

/-- States and operands that meet the hypotheses of DieLoadsComplete, clause by clause. -/
theorem meets_DieLoadsComplete :
    (∃ k w, comes (withUpd fun u => { u with seqRun := [true, true, true] }) (fun s => canLoad k s && decide ((s.far k).window = some w) && decide (s.store.datum = some w.datum) && s.upd.seqRun.getD k false) = true) ∧
    (∃ k, comes farm (fun s => canLoad k s && !s.upd.seqRun.getD k false) = true) ∧
    (∃ k, comes farm (fun s => canLoad k s && !s.upd.seqRun.getD k false) = true) ∧
    (∃ k, comes (withUpd fun u => { u with seqRetry := [none, some 5, none] }) (fun s => canLoad k s && retryDue k s) = true) ∧
    comes { withSense (fun d => { d with powered := false }) with pwr := { farm.pwr with senseGate := true } } (fun s => !s.sense.powered && s.pwr.senseGate) = true :=
  ⟨⟨2, win0, by decide +kernel⟩,
   ⟨1, by decide +kernel⟩,
   ⟨1, by decide +kernel⟩,
   ⟨1, by decide +kernel⟩,
   by decide +kernel⟩

/-- States and operands that meet the hypotheses of SenseDieEventsComplete, clause by clause. -/
theorem meets_SenseDieEventsComplete :
    (∃ i r, comes farm (fun s => let loc := dieShort (s.far 0) s.now; let q := s.sense.seq i; s.sense.powered && s.sense.cfgValid && decide (s.sense.cfg.seqRec i = some r) && decide (sqTrig r = 2) && decide (sqPeriod r ≠ 0) && decide (loc % sqPeriod r = sqPhase r) && decide (q.lastDue ≠ some loc) && !q.due && !((s.sense.pass (sqList r)).any fun p => p.seq == i)) = true) ∧
    (∃ l p r, comes (withPass 1 { p0 with seq := 2, modAt := none }) (fun s => decide (s.sense.pass l = some p) && decide (s.sense.cfg.chanRec (s.sense.entryAt p.seq p.pos) = some r) && !p.waiting && p.modAt.isNone && decide (p.entAt + usTicks (max (chSettle r) 2) ≤ s.now)) = true) ∧
    (∃ (l : _) (nv : Int) (sref : Nat) (p : _) (r : _) (m : _) (e : _), comes (withPass 0 p0) (fun s => let q := divr (nv * 2 ^ (23 + e.gain)) (refNv (chRef r) sref); decide (l < 4) && decide (converting s.sense l = some (p, r, m)) && decide (convDue r m (p.k + 1) ≤ s.now) && decide (sref ≠ 0) && decide (s.sense.ent (chEntry r) = some e) && !((entryPins r).any s.sense.faulted) && decide (p.openPins = []) && decide (p.settling = 0) && decide (-0x800000 ≤ q) && decide (q ≤ 0x7FFFFF)) = true) ∧
    (∃ (z : List (List Int)), comes (withPass 4 { p0 with seq := 1 }) (fun s => match converting s.sense 4 with | some (_, r, m) => decide (m + usTicks ((toneEighths r + 7) / 8) ≤ s.now) | none => false) = true) ∧
    (∃ x rest r e, comes (withSense fun d => { d with pend := [pend0] }) (fun s => decide (s.sense.pend = x :: rest) && decide (20 * 16777216 ≤ (s.now - x.endAt) * 1000000) && decide (s.sense.cfg.chanRec x.entry = some r) && decide (s.sense.ent x.entry = some e)) = true) ∧
    (∃ (l : _) (vsa : Nat) (runs : List (Nat × List Nat)) (p : _) (r : _) (m : _), comes (withPass 0 p0) (fun s => decide (s.sense.pend = []) && decide (converting s.sense l = some (p, r, m))) = true) ∧
    (∃ c, comes (withSense fun d => { d with chkQ := [⟨0, 1, 2, none⟩] }) (fun s => s.sense.powered && s.sense.cfgValid && decide (nextChk s.sense = some c) && s.sense.chk.isNone && (s.sense.turn || (match s.sense.pass 4 with | none => true | some p => p.waiting)) && !pinInUse s.sense (askedAt s.sense c s.now) c.pin && !pinInUse s.sense (askedAt s.sense c s.now) c.partner) = true) ∧
    (∃ (lp : List Int) (gr : List Int) (c : _) (t0 : _), comes (withSense fun d => { d with chk := some (⟨0, 1, 2, none⟩, 0) }) (fun s => decide (s.sense.chk = some (c, t0)) && decide (t0 + usTicks 3700 ≤ s.now)) = true) ∧
    comes { withSense (fun d => { d with lastRound := 0 }) with time := { farm.time with acc := 2 ^ 70 } } (fun s => s.sense.powered && s.sense.cfgValid && decide (s.sense.lastRound + secTicks s.sense.cfg.chkPeriod ≤ s.now)) = true ∧
    (∃ pin p d, comes (withSense fun d => { d with pins := [⟨3, 1, true, 0, 0, some 5⟩] }) (fun s => decide ((s.sense.pins.find? fun q => q.pin == pin) = some p) && decide (p.recheck = some d) && decide (d ≤ s.now)) = true) :=
  ⟨⟨2, put 8 [(0, 1, 1), (1, 1, 2), (2, 1, 4), (3, 1, 1), (4, 2, 1)], by decide +kernel⟩,
   ⟨1, { p0 with seq := 2, modAt := none }, chanR 4 0 0, by decide +kernel⟩,
   ⟨0, 0, 1, p0, chanR 0 1 0, 0, newEnt (chanR 0 1 0) none, by decide +kernel⟩,
   ⟨[], by decide +kernel⟩,
   ⟨pend0, [], chanR 0 1 0, newEnt (chanR 0 1 0) none, by decide +kernel⟩,
   ⟨0, 0, [], p0, chanR 0 1 0, 0, by decide +kernel⟩,
   ⟨⟨0, 1, 2, none⟩, by decide +kernel⟩,
   ⟨[], [], ⟨0, 1, 2, none⟩, 0, by decide +kernel⟩,
   by decide +kernel,
   ⟨3, ⟨3, 1, true, 0, 0, some 5⟩, 5, by decide +kernel⟩⟩

/-- States and operands that meet the hypotheses of ValvePhasesComplete, clause by clause. -/
theorem meets_ValvePhasesComplete :
    (∃ ch code v, comes (withValve { v0 with state := 2 }) (fun s => !dieDown 1 s && decide (stateIs s.power ch 2 = some v) && codeReaches (s.power.vrec ch) code (vaIPeak (s.power.vrec ch))) = true) ∧
    (∃ ch v, comes (withValve { v0 with state := 3 }) (fun s => !dieDown 1 s && decide (stateIs s.power ch 3 = some v) && decide (v.dwellAt + usTicks (100 * vaDwell (s.power.vrec ch)) ≤ s.now)) = true) ∧
    (∃ ch code v, comes (withValve { v0 with state := 4 }) (fun s => !dieDown 1 s && decide (stateIs s.power ch 4 = some v) && codeWithin (s.power.vrec ch) code (vaIHold (s.power.vrec ch))) = true) ∧
    (∃ ch top v, comes (withValve { v0 with state := 6, pendOn := true }) (fun s => !dieDown 1 s && decide (stateIs s.power ch 6 = some v) && decide (top < 32) && !v.toFault && v.pendOn) = true) ∧
    (∃ ch top v, comes (withValve { v0 with state := 6 }) (fun s => !dieDown 1 s && decide (stateIs s.power ch 6 = some v) && decide (top < 32) && !v.toFault && !v.pendOn) = true) ∧
    (∃ ch top v, comes (withValve { v0 with state := 6, toFault := true }) (fun s => !dieDown 1 s && decide (stateIs s.power ch 6 = some v) && decide (top < 32) && v.toFault) = true) ∧
    (∃ ch v, comes (withValve { v0 with state := 2 }) (fun s => !dieDown 1 s && !peakWins ch s && decide (stateIs s.power ch 2 = some v) && decide (v.riseAt + usTicks (100 * vaTPeakMax (s.power.vrec ch)) ≤ s.now)) = true) ∧
    (∃ ch v, comes (withValve { v0 with state := 1 }) (fun s => !dieDown 1 s && !releaseWins ch s && decide (stateIs s.power ch 1 = some v) && decide (v.waitAt + usTicks (100 * vaDefer (s.power.vrec ch)) ≤ s.now)) = true) :=
  ⟨⟨0, 4095, { v0 with state := 2 }, by decide +kernel⟩,
   ⟨0, { v0 with state := 3 }, by decide +kernel⟩,
   ⟨0, 0, { v0 with state := 4 }, by decide +kernel⟩,
   ⟨0, 31, { v0 with state := 6, pendOn := true }, by decide +kernel⟩,
   ⟨0, 31, { v0 with state := 6 }, by decide +kernel⟩,
   ⟨0, 31, { v0 with state := 6, toFault := true }, by decide +kernel⟩,
   ⟨0, { v0 with state := 2 }, by decide +kernel⟩,
   ⟨0, { v0 with state := 1 }, by decide +kernel⟩⟩

/-- States and operands that meet the hypotheses of ValveDiagnosticsComplete, clause by clause. -/
theorem meets_ValveDiagnosticsComplete :
    (∃ (i2 : List Nat) (dt : Int), comes farm (fun s => !dieDown 1 s && decide (s.power.tickAt + usTicks 1000 ≤ s.now)) = true) ∧
    (∃ (ch : _) (sv : Nat) (si : _) (mi : _) (v : _), comes (withValve { v0 with state := 5 }) (fun s => !dieDown 1 s && decide (stateIs s.power ch 5 = some v) && decide (v.holdAt + usTicks 10000 ≤ s.now) && decide (256 ≤ mi) && decide (si ≠ 0)) = true) ∧
    (∃ (ch : _) (vd : _) (vb : Nat) (v : _), comes (withValve { v0 with state := 0 }) (fun s => !dieDown 1 s && decide (s.power.valve ch = some v) && decide (v.state = 0) && decide (bankHigh s.power (bankOf ch) = 0) && decide (6000 ≤ vd)) = true) ∧
    (∃ (ch : _) (vd : _) (vb : Nat) (v : _), comes (withValve { v0 with state := 0 }) (fun s => !dieDown 1 s && decide (s.power.valve ch = some v) && decide (v.state = 0) && decide (bankHigh s.power (bankOf ch) = 0) && decide (4000 ≤ vd) && decide (vd < 6000)) = true) ∧
    (∃ (ch : _) (us : Nat) (v1 : Nat) (v2 : Nat) (i0 : Nat) (i1 : Nat) (i2 : Nat) (v : _), comes (withValve { v0 with state := 2 }) (fun s => !dieDown 1 s && decide (s.power.valve ch = some v) && (decide (v.state = 2) || decide (v.state = 3) || decide (v.state = 5)) && decide (4 ≤ us) && decide (3000 < v1) && decide (3000 < v2)) = true) ∧
    (∃ (ch : _) (us : Nat) (v1 : Nat) (v2 : Nat) (i0 : Nat) (i1 : Nat) (i2 : Nat) (v : _), comes (withValve { v0 with state := 5 }) (fun s => !dieDown 1 s && decide (s.power.valve ch = some v) && (decide (v.state = 2) || decide (v.state = 3) || decide (v.state = 5)) && decide (4 ≤ us) && decide (v2 ≤ 3000) && decide (i2 ≤ i0) && codeReaches (s.power.vrec ch) i1 (vaOcLimit (s.power.vrec ch)) && codeReaches (s.power.vrec ch) i2 (vaOcLimit (s.power.vrec ch))) = true) ∧
    (∃ ch i vd v, comes (withValve { v0 with state := 2 }) (fun s => !dieDown 1 s && decide (stateIs s.power ch 2 = some v) && decide (v.riseAt + usTicks (100 * vaTDet (s.power.vrec ch)) ≤ s.now) && !codeReaches (s.power.vrec ch) i (vaIDet (s.power.vrec ch)) && decide (4000 ≤ vd)) = true) ∧
    (∃ k us top sup, comes (withValve { v0 with state := 2 }) (fun s => !dieDown 1 s && decide (bankHigh s.power k = 2) && decide (k < 4) && decide (4 ≤ us) && decide (top + 3000 < sup)) = true) ∧
    (∃ k least, comes farm (fun s => !dieDown 1 s && decide (bankHigh s.power k = 0) && decide (k < 4) && decide (6000 < least)) = true) ∧
    (∃ ch bins v, comes (withValve { v0 with state := 0, moveDue := true }) (fun s => !dieDown 1 s && decide (s.power.valve ch = some v) && v.moveDue && decide (kinkAt (vaMoveMin (s.power.vrec ch)) bins = none) && decide (v.state ≠ 3)) = true) ∧
    (∃ (vf : Nat), comes farm (fun s => !dieDown 1 s) = true) :=
  ⟨⟨[], 20, by decide +kernel⟩,
   ⟨0, 1000, 1000, 1000, { v0 with state := 5 }, by decide +kernel⟩,
   ⟨0, 6000, 0, { v0 with state := 0 }, by decide +kernel⟩,
   ⟨0, 5999, 0, { v0 with state := 0 }, by decide +kernel⟩,
   ⟨0, 4, 3001, 3001, 0, 0, 0, { v0 with state := 2 }, by decide +kernel⟩,
   ⟨0, 4, 3001, 3000, 4095, 4095, 4095, { v0 with state := 5 }, by decide +kernel⟩,
   ⟨0, 0, 4000, { v0 with state := 2 }, by decide +kernel⟩,
   ⟨0, 4, 0, 3001, by decide +kernel⟩,
   ⟨3, 6001, by decide +kernel⟩,
   ⟨0, [], { v0 with state := 0, moveDue := true }, by decide +kernel⟩,
   ⟨0, by decide +kernel⟩⟩

/-- States and operands that meet the hypotheses of FanEventsComplete, clause by clause. -/
theorem meets_FanEventsComplete :
    (∃ (ch : _) (us : Nat) (v : _), comes (withFan f0) (fun s => !dieDown 1 s && decide (s.power.fan ch = some v)) = true) ∧
    (∃ ch i v w g, comes (withPower fun p => { p with fans := [{ f0 with state := 1, winAt := some 0 }], cmd := { p.cmd with fans := [{ ch := 0, dec := 0, host := 5, force := none, tset := none, table := false }] } }) (fun s => let q := fanFirst ch s; let r := s.power.frec ch; !dieDown 1 s && decide (s.power.fan ch = some v) && decide (q.power.fan ch = some g) && decide (g.state = 1) && decide (v.state = 1) && decide (v.winAt = some w) && decide (w + usTicks (100000 * fnTStart r) ≤ q.now) && decide (fanCur r i < fnIOpen r) && decide ((fanTarget q.fanEnv q.power.supplyOff (q.power.fcmd ch) r v).1 ≠ 0)) = true) ∧
    (∃ ch i v w g, comes (withPower fun p => { p with fans := [{ f0 with state := 1, winAt := some 0 }], cmd := { p.cmd with fans := [{ ch := 0, dec := 0, host := 5, force := none, tset := none, table := false }] } }) (fun s => let q := fanFirst ch s; let r := s.power.frec ch; !dieDown 1 s && decide (s.power.fan ch = some v) && decide (q.power.fan ch = some g) && decide (g.state = 1) && decide (v.state = 1) && decide (v.winAt = some w) && decide (w + usTicks (100000 * fnTStart r) ≤ q.now) && decide (fnIOpen r ≤ fanCur r i) && decide (fnPpr r ≠ 0) && decide ((fanTarget q.fanEnv q.power.supplyOff (q.power.fcmd ch) r v).1 ≠ 0)) = true) ∧
    (∃ (ch : _) (i : Nat) (v : _) (g : _), comes (fanRefState { f0 with state := 2 }) (fun s => !dieDown 1 s && decide (s.power.fan ch = some v) && decide ((fanFirst ch s).power.fan ch = some g) && decide (v.state = 2) && fnRef (s.power.frec ch) && decide (fnPpr (s.power.frec ch) ≠ 0) && tachSilent s.now (s.power.frec ch) g) = true) ∧
    (∃ ch mv v, comes (withFan { f0 with state := 2 }) (fun s => !dieDown 1 s && decide (s.power.fan ch = some v) && !fnRef (s.power.frec ch) && decide (v.state ≠ 5) && decide (fanVolts (s.power.frec ch) v.r + 2000 < mv)) = true) ∧
    (∃ ch v a, comes (withPower fun p => { p with fans := [{ f0 with state := 3, retryAt := some 5 }], cmd := { p.cmd with fans := [{ ch := 0, dec := 0, host := 5, force := none, tset := none, table := false }] } }) (fun s => !dieDown 1 s && decide (s.power.fan ch = some v) && decide (v.state = 3) && decide (v.retryAt = some a) && decide (a ≤ s.now) && decide (fanAsk s.fanEnv (s.power.fcmd ch) (s.power.frec ch) v ≠ 0)) = true) ∧
    (∃ ch v a, comes (withFan { f0 with state := 2, runAt := some 5 }) (fun s => !dieDown 1 s && decide (s.power.fan ch = some v) && decide (v.state = 2) && decide (v.runAt = some a) && decide (a + secTicks 60 ≤ s.now)) = true) ∧
    (∃ ch v, comes (withFan f1) (fun s => !dieDown 1 s && decide (s.power.fan ch = some v) && decide (fnSource (s.power.frec ch) = 1) && decide (v.evalAt + usTicks 100000 ≤ s.now) && decide (slotFresh s.fanEnv.linkUp (s.dieNow 1) s.power.cmd.slots (fnXslot (s.power.frec ch)) = none)) = true) ∧
    (∃ ch v, comes (withFan f0) (fun s => !dieDown 1 s && decide (s.power.fan ch = some v) && decide (fnSource (s.power.frec ch) ≠ 1) && decide (v.evalAt + usTicks 100000 ≤ s.now)) = true) ∧
    (∃ ch temp v, comes (withFan f0) (fun s => !dieDown 1 s && decide (s.power.fan ch = some v) && (decide (temp < -6400) || decide (19200 < temp))) = true) ∧
    (∃ (ch : _) (i : Nat) (v : _), comes (withFan { f0 with state := 2, edgeAt := some (2 ^ 38) }) (fun s => !dieDown 1 s && decide (s.power.fan ch = some v) && decide (v.state = 2) && !tachSilent s.now (s.power.frec ch) v && decide (v.rSince + secTicks 2 ≤ s.now) && decide (v.learnAt + secTicks 1 ≤ s.now)) = true) ∧
    (∃ (ch : _) (i : Nat) (v : _), comes (withFan f0) (fun s => !dieDown 1 s && decide (s.power.fan ch = some v)) = true) ∧
    (∃ ch v, comes (withFan f0) (fun s => !dieDown 1 s && decide (s.power.fan ch = some v)) = true) :=
  ⟨⟨0, 100, f0, by decide +kernel⟩,
   ⟨0, 0, { f0 with state := 1, winAt := some 0 }, 0, { f0 with state := 1, winAt := some 0 }, by decide +kernel⟩,
   ⟨0, 3000, { f0 with state := 1, winAt := some 0 }, 0, { f0 with state := 1, winAt := some 0 }, by decide +kernel⟩,
   ⟨0, 0, { f0 with state := 2 }, { f0 with state := 2 }, by decide +kernel⟩,
   ⟨0, 2001, { f0 with state := 2 }, by decide +kernel⟩,
   ⟨0, { f0 with state := 3, retryAt := some 5 }, 5, by decide +kernel⟩,
   ⟨0, { f0 with state := 2, runAt := some 5 }, 5, by decide +kernel⟩,
   ⟨1, f1, by decide +kernel⟩,
   ⟨0, f0, by decide +kernel⟩,
   ⟨0, -6401, f0, by decide +kernel⟩,
   ⟨0, 7, { f0 with state := 2, edgeAt := some (2 ^ 38) }, by decide +kernel⟩,
   ⟨0, 7, f0, by decide +kernel⟩,
   ⟨0, f0, by decide +kernel⟩⟩

/-- States and operands that meet the hypotheses of UniversalChannelEventsComplete, clause by clause. -/
theorem meets_UniversalChannelEventsComplete :
    (∃ (ch : _) (x : Nat × Nat × Nat) (v : _), comes (withUio u1) (fun s => !dieDown 2 s && ucIsIn (s.io.urec ch) && decide (s.io.chan ch = some v)) = true) ∧
    (∃ (ch : _) (l : List (Nat × Nat × Nat)), comes farm (fun s => !dieDown 2 s && ucIsIn (s.io.urec ch)) = true) ∧
    (∃ (ch : _) (l : List (Nat × Nat × Nat)) (x : Nat × Nat × Nat), comes farm (fun s => !dieDown 2 s && ucIsIn (s.io.urec ch)) = true) ∧
    (∃ (ch : _) (cur : Nat) (l : List (Nat × Nat × Nat)) (v : _), comes (withUio u0) (fun s => !dieDown 2 s && decide (s.io.chan ch = some v) && !ucIsIn (s.io.urec ch) && decide (v.lastRep ≠ some (uioUnit (dieShort (s.far 2) s.now)))) = true) ∧
    (∃ (ch : _) (cur : Nat) (v : _), comes (withUio u1) (fun s => !dieDown 2 s && decide (s.io.chan ch = some v) && ucIsIn (s.io.urec ch) && decide (v.lastRep ≠ some (uioUnit (dieShort (s.far 2) s.now)))) = true) ∧
    (∃ ch v a, comes (withUio { u2 with perAt := some 0 }) (fun s => !dieDown 2 s && decide (s.io.chan ch = some v) && ucIsPwm (s.io.urec ch) && decide (v.perAt = some a) && decide (periodOf s.now a (s.io.ucmd ch).period ≠ v.perIx)) = true) ∧
    (∃ ch ms curs v, comes (withIo fun p => { (p.setChan u0) with cmd := { farm.io.cmd with uios := [{ ch := 0, dec := 0, host := true, force := none, period := 100 }] } }) (fun s => !dieDown 2 s && decide (s.io.chan ch = some v) && uioOnNow s.now (s.far 2).safe s.io v && decide (ucOlTime (s.io.urec ch) ≤ ms) && decide (600 * ucPar (s.io.urec ch) ≤ sumN curs)) = true) ∧
    (∃ n sums curs, comes farm (fun s => !dieDown 2 s && budgetOver s.io (.segment n) sums && decide (sums.getLast? = some curs)) = true) ∧
    (∃ sums curs, comes farm (fun s => !dieDown 2 s && budgetOver s.io .die sums && decide (sums.getLast? = some curs)) = true) ∧
    (∃ (ch : _) (cur : Nat) (pin : Nat) (sup : Nat) (v : _), comes (withIo fun p => { (p.setChan u0) with cmd := { farm.io.cmd with uios := [{ ch := 0, dec := 0, host := true, force := none, period := 100 }] } }) (fun s => !dieDown 2 s && decide (s.io.chan ch = some v) && ucIsOut (s.io.urec ch) && uioOnNow s.now (s.far 2).safe s.io v && decide (4 ≤ cur)) = true) ∧
    (∃ (ch : _) (cur : Nat) (pin : Nat) (sup : Nat) (v : _), comes (withIo fun p => { (p.setChan u0) with cmd := { farm.io.cmd with uios := [{ ch := 0, dec := 0, host := true, force := none, period := 100 }] } }) (fun s => !dieDown 2 s && decide (s.io.chan ch = some v) && ucIsOut (s.io.urec ch) && uioOnNow s.now (s.far 2).safe s.io v && decide (cur < 4) && decide (pin + 1000 < sup)) = true) ∧
    (∃ (ch : _) (cur : Nat) (pin : Nat) (sup : Nat) (v : _), comes (withIo fun p => { (p.setChan u0) with cmd := { farm.io.cmd with uios := [{ ch := 0, dec := 0, host := true, force := none, period := 100 }] } }) (fun s => !dieDown 2 s && decide (s.io.chan ch = some v) && ucIsOut (s.io.urec ch) && uioOnNow s.now (s.far 2).safe s.io v && decide (cur < 4) && decide (sup ≤ pin + 1000) && !s.io.tests.contains (ch, true)) = true) ∧
    (∃ (ch : _) (cur : Nat) (pin : Nat) (sup : Nat) (v : _), comes (withUio u0) (fun s => !dieDown 2 s && decide (s.io.chan ch = some v) && ucIsOut (s.io.urec ch) && !uioOnNow s.now (s.far 2).safe s.io v && decide (3000 ≤ pin) && ucOffDiag (s.io.urec ch)) = true) ∧
    (∃ ch mv v, comes (withIo fun p => { (p.setChan u0) with tests := [(0, true)], cmd := { farm.io.cmd with uios := [{ ch := 0, dec := 0, host := true, force := none, period := 100 }] } }) (fun s => !dieDown 2 s && decide (s.io.chan ch = some v) && s.io.cross.isNone && s.io.tests.contains (ch, true) && !(s.io.tests.any fun q => decide (q.1 < ch)) && uioOnNow s.now (s.far 2).safe s.io v && decide (mv < 5000)) = true) ∧
    (∃ mv c m rest t0 v, comes (withIo fun p => { (p.setChan u0) with cross := some (0, [1, 2], 0) }) (fun s => !dieDown 2 s && decide (s.io.cross = some (c, m :: rest, t0)) && decide (t0 + usTicks 200 ≤ s.now) && decide (s.io.chan c = some v) && !ucIsPwm (s.io.urec m) && decide (5000 ≤ mv) && decide (rest ≠ [])) = true) ∧
    (∃ mv c m t0 v, comes (withIo fun p => { (p.setChan u0) with cross := some (0, [1], 0) }) (fun s => !dieDown 2 s && decide (s.io.cross = some (c, [m], t0)) && decide (t0 + usTicks 200 ≤ s.now) && decide (s.io.chan c = some v) && !ucIsPwm (s.io.urec m) && decide (5000 ≤ mv)) = true) ∧
    (∃ ch mv v, comes (withUio u0) (fun s => !dieDown 2 s && decide (s.io.chan ch = some v) && decide (5000 < mv) && ucIsOut (s.io.urec ch) && !uioOnNow s.now (s.far 2).safe s.io v && !uioFaulted v && !v.testOff && !s.io.tests.contains (ch, false)) = true) :=
  ⟨⟨1, (12000, 0, 24000), u1, by decide +kernel⟩,
   ⟨1, [], by decide +kernel⟩,
   ⟨1, [], (24000, 0, 30000), by decide +kernel⟩,
   ⟨0, 7, [], u0, by decide +kernel⟩,
   ⟨1, 7, u1, by decide +kernel⟩,
   ⟨2, { u2 with perAt := some 0 }, 0, by decide +kernel⟩,
   ⟨0, 10, [600], u0, by decide +kernel⟩,
   ⟨0, List.replicate 20 [4000], [4000], by decide +kernel⟩,
   ⟨List.replicate 20 [9000], [9000], by decide +kernel⟩,
   ⟨0, 4, 0, 0, u0, by decide +kernel⟩,
   ⟨0, 3, 0, 1001, u0, by decide +kernel⟩,
   ⟨0, 3, 0, 1000, u0, by decide +kernel⟩,
   ⟨0, 0, 3000, 0, u0, by decide +kernel⟩,
   ⟨0, 4999, u0, by decide +kernel⟩,
   ⟨5000, 0, 1, [2], 0, u0, by decide +kernel⟩,
   ⟨5000, 0, 1, 0, u0, by decide +kernel⟩,
   ⟨0, 5001, u0, by decide +kernel⟩⟩

/-- States and operands that meet the hypotheses of FieldSupplyEventsComplete, clause by clause. -/
theorem meets_FieldSupplyEventsComplete :
    (∃ mv, comes farm (fun s => !dieDown 1 s && decide (mv < s.power.cfg.uvOff)) = true) ∧
    (∃ mv, comes farm (fun s => !dieDown 2 s && decide (mv < s.io.cfg.uvOff)) = true) ∧
    (∃ (n : Nat) (mv : _), comes farm (fun s => !dieDown 2 s && decide (mv < s.io.cfg.uvOff)) = true) ∧
    (∃ mv, comes (withPower fun p => { p with supplyOff := true }) (fun s => !dieDown 1 s && s.power.supplyOff && decide (s.power.cfg.uvOff + 1000 ≤ mv)) = true) ∧
    (∃ mv, comes farm (fun s => !dieDown 2 s && decide (s.io.cfg.uvOff + 1000 ≤ mv)) = true) ∧
    (∃ (n : Nat) (mv : _), comes farm (fun s => !dieDown 2 s && decide (s.io.cfg.uvOff + 1000 ≤ mv)) = true) ∧
    (∃ v, comes farm (fun s => !dieDown 2 s && !s.io.uvWarn && decide (v < s.io.cfg.uvWarn)) = true) ∧
    (∃ v, comes farm (fun s => !dieDown 2 s && decide (s.io.cfg.uvWarn + 1000 ≤ v)) = true) ∧
    (∃ mv, comes farm (fun _ => decide (mv < 7000)) = true) ∧
    (∃ mv, comes farm (fun _ => decide (mv < 7000)) = true) ∧
    (∃ k mv, comes (withFar 1 fun x => { x with down := true }) (fun s => (s.far k).down && decide (7500 ≤ mv)) = true) :=
  ⟨⟨0, by decide +kernel⟩,
   ⟨0, by decide +kernel⟩,
   ⟨3, 0, by decide +kernel⟩,
   ⟨32000, by decide +kernel⟩,
   ⟨32000, by decide +kernel⟩,
   ⟨3, 32000, by decide +kernel⟩,
   ⟨100, by decide +kernel⟩,
   ⟨30000, by decide +kernel⟩,
   ⟨6999, by decide +kernel⟩,
   ⟨6999, by decide +kernel⟩,
   ⟨1, 7500, by decide +kernel⟩⟩

/-- States and operands that meet the hypotheses of CanBusEventsComplete, clause by clause. -/
theorem meets_CanBusEventsComplete :
    (∃ (ch : _) (sof : Nat) (f : _) (r : _), comes farm (fun s => canLive ch s && decide ((s.canCh ch).state ≠ 2) && decide (s.datum.canRec ch = some r) && decide ((s.canCh ch).rec' ≤ 127) && !cableFrame ch f s && !cycleRequest ch f s) = true) ∧
    (∃ ch recs, comes (farm.setRing 41 { ringReset with enable := true, host := 1 }) (fun s => canTake ch recs s) = true) ∧
    (∃ (ch : _) (sof : Nat), comes (withCan { c0 with fifo := [tx 7] }) (fun s => canSends ch s && (txHead (s.canCh ch)).isSome) = true) ∧
    (∃ (ch : _) (sof : Nat), comes (withCan { c0 with fifo := [tx 7] }) (fun s => canSends ch s && (txHead (s.canCh ch)).isSome) = true) ∧
    (∃ (ch : _) (sof : Nat), comes (withCan { c0 with fifo := [tx 7] }) (fun s => canSends ch s && (txHead (s.canCh ch)).isSome) = true) ∧
    (∃ (ch : _) (sof : Nat), comes (withCan { c0 with fifo := [tx 7] }) (fun s => canSends ch s && (txHead (s.canCh ch)).isSome) = true) ∧
    (∃ ch, comes farm (fun s => canLive ch s) = true) ∧
    (∃ ch, comes farm (fun s => canLive ch s) = true) ∧
    (∃ ch, comes farm (fun s => canLive ch s) = true) ∧
    (∃ ch r, comes (withCan { c0 with tec := 256, state := 1 }) (fun s => decide (s.datum.canRec ch = some r) && canSends ch s && decide ((s.canCh ch).state < 2) && decide (256 ≤ (s.canCh ch).tec)) = true) ∧
    (∃ ch, comes (withCan { c0 with state := 2, recovering := true }) (fun s => canLive ch s && decide ((s.canCh ch).state = 2) && (s.canCh ch).recovering) = true) ∧
    (∃ ch k, comes (withCan { c0 with claim := some { name := 0, addr := 128, lo := 128, hi := 247, since := 0, holding := false, others := [] } }) (fun s => decide ((s.canCh ch).claim = some k) && canLive ch s && !k.holding && decide (k.since + usTicks 250000 ≤ s.now)) = true) ∧
    (∃ ch, comes (dozing fun p => { p with canWake := [0] }) (fun s => s.pwr.canWake.contains ch && s.pwr.ao && s.time.asleep) = true) ∧
    (∃ ch, comes { dozing (fun p => p) with can := setAt 0 { c0 with standby := true } farm.can } (fun s => decide (s.pwr.state = 2) && (s.canCh ch).standby && decide (s.pwr.sleepAt + ticks100ms ≤ s.now)) = true) :=
  ⟨⟨0, 0, { id := 0, dlc := 0, data := [] }, canR 0, by decide +kernel⟩,
   ⟨0, [zeros 32], by decide +kernel⟩,
   ⟨0, 0, by decide +kernel⟩,
   ⟨0, 0, by decide +kernel⟩,
   ⟨0, 0, by decide +kernel⟩,
   ⟨0, 0, by decide +kernel⟩,
   ⟨0, by decide +kernel⟩,
   ⟨0, by decide +kernel⟩,
   ⟨0, by decide +kernel⟩,
   ⟨0, canR 0, by decide +kernel⟩,
   ⟨0, by decide +kernel⟩,
   ⟨0, { name := 0, addr := 128, lo := 128, hi := 247, since := 0, holding := false, others := [] }, by decide +kernel⟩,
   ⟨0, by decide +kernel⟩,
   ⟨0, by decide +kernel⟩⟩

/-- States and operands that meet the hypotheses of ResetsComplete, clause by clause. -/
theorem meets_ResetsComplete :
    comes farm anyState = true ∧
    comes farm (fun s => !s.pwr.porn && !(s.pwr.reset && s.time.asleep)) = true ∧
    comes farm (fun s => !s.pwr.reset) = true ∧
    comes farm State.awake = true ∧
    (∃ e, comes (withPwr fun p => { p with resetDue := some 5 }) (fun s => s.awake && decide (s.pwr.resetDue = some e) && decide (e ≤ s.now)) = true) ∧
    comes State.reset (fun s => s.pwr.porn && s.pwr.reset && decide (s.pwr.state ≠ 3)) = true ∧
    (∃ (b : Bool), comes { withHif (fun h => { h with ready := false }) with upd := { farm.upd with seqRetry := [some 5, some 5, some 5] } } (fun s => s.awake && !s.hif.ready && !s.upd.recovery && !s.resetNow && (List.range 3).all fun k => dieTried k s) = true) ∧
    (∃ e, comes trial (fun s => s.awake && decide (s.upd.trialEnd = some e) && decide (e ≤ s.now) && onTrial s.boot) = true) :=
  ⟨by decide +kernel,
   by decide +kernel,
   by decide +kernel,
   by decide +kernel,
   ⟨5, by decide +kernel⟩,
   by decide +kernel,
   ⟨true, by decide +kernel⟩,
   ⟨7, by decide +kernel⟩⟩

/-- States and operands that meet the hypotheses of SleepAndWakeComplete, clause by clause. -/
theorem meets_SleepAndWakeComplete :
    comes (withPwr fun p => { p with moved := true, cycle := some none }) (fun s => s.awake && s.pwr.moved && s.pwr.cycle.isSome) = true ∧
    (∃ e, comes (withPwr fun p => { p with moved := true, move := some (3, 9) }) (fun s => s.awake && s.pwr.moved && s.pwr.cycle.isNone && decide (s.pwr.move = some (3, e))) = true) ∧
    (∃ st e, comes (withPwr fun p => { p with moved := true, move := some (2, 9) }) (fun s => s.awake && s.pwr.moved && s.pwr.cycle.isNone && decide (s.pwr.move = some (st, e)) && decide (st ≠ 3)) = true) ∧
    (∃ w, comes (dozing fun p => { p with nextWake := some 5 }) (fun s => decide (s.pwr.nextWake = some w) && s.watching && decide (w ≤ s.now)) = true) ∧
    (∃ r, comes (dozing fun p => { p with renewAt := some 5 }) (fun s => decide (s.pwr.renewAt = some r) && s.watching && decide (r ≤ s.now)) = true) ∧
    (∃ n p, comes { dozing (fun p => p) with ic := { farm.ic with latched := [(9, 5)] } } (fun s => decide ((s.ic.latched.find? fun q => q.1 == n) = some p) && !s.halted && s.watching) = true) ∧
    (∃ n p, comes { dozing (fun p => { p with state := 3, reset := true }) with pwr := { farm.pwr with state := 3, reset := true }, ic := { farm.ic with latched := [(9, 5)] } } (fun s => decide ((s.ic.latched.find? fun q => q.1 == n) = some p) && s.halted) = true) ∧
    (∃ e, comes { dozing (fun p => p) with pwr := { farm.pwr with state := 3, reset := true, haltAt := some 5 } } (fun s => decide (s.pwr.haltAt = some e) && s.halted && decide (e ≤ s.now)) = true) ∧
    comes farm (fun s => s.awake && s.pwr.ao) = true ∧
    comes farm anyState = true :=
  ⟨by decide +kernel,
   ⟨9, by decide +kernel⟩,
   ⟨2, 9, by decide +kernel⟩,
   ⟨5, by decide +kernel⟩,
   ⟨5, by decide +kernel⟩,
   ⟨9, (9, 5), by decide +kernel⟩,
   ⟨9, (9, 5), by decide +kernel⟩,
   ⟨5, by decide +kernel⟩,
   by decide +kernel,
   by decide +kernel⟩

/-- States and operands that meet the hypotheses of ClockEventsComplete, clause by clause. -/
theorem meets_ClockEventsComplete :
    comes farm (fun s => s.pwr.ao && !(s.pwr.reset && !s.time.asleep) && decide ((s.time.floor.body).getD 0 ≤ s.now + 2 ^ 39)) = true ∧
    comes farm (fun s => s.awake && !s.clk.onRc) = true ∧
    comes { farm with clk := { farm.clk with onRc := true } } (fun s => s.clk.onRc) = true ∧
    comes farm State.awake = true ∧
    comes farm anyState = true ∧
    (∃ p, comes farm (fun s => s.awake && !s.clk.held.contains p) = true) ∧
    (∃ p, comes { farm with clk := { farm.clk with held := [2] } } (fun s => s.clk.held.contains p && decide (p ≠ 0)) = true) ∧
    comes { farm with clk := { farm.clk with held := [0] } } (fun s => s.clk.held.contains 0) = true :=
  ⟨by decide +kernel,
   by decide +kernel,
   by decide +kernel,
   by decide +kernel,
   by decide +kernel,
   ⟨0, by decide +kernel⟩,
   ⟨2, by decide +kernel⟩,
   by decide +kernel⟩

/-- States and operands that meet the hypotheses of HousekeepingComplete, clause by clause. -/
theorem meets_HousekeepingComplete :
    (∃ (ts : List (Option Int)) (rs : List Nat), comes farm roundDue = true) ∧
    (∃ (ts : List (Option Int)) (rs : List Nat), comes farm roundDue = true) ∧
    (∃ (k : _) (v : Option Int), comes ((withNear 1 fun x => { x with up := false }).setSite 5 { siteReset with throttle := true, shut := true }) (fun s => !dieDown k s && !s.linkUp k && (s.site (k + 4)).throttle && (s.site (k + 4)).shut) = true) ∧
    (∃ n a, comes (farm.setSite 0 { siteReset with coolAt := some 0, shut := true }) (fun s => decide ((s.site n).coolAt = some a) && (s.site n).shut && decide (a + 10 * 2 ^ 24 ≤ s.now)) = true) ∧
    (∃ k, comes (farm.setSlot 1 { key := noTwo, ctr := oneTwo ⟨0, 16, 1, 5⟩ }) (fun s => s.awake && decide ((s.ctrRec k).lockEnd ≠ 0) && decide ((s.ctrRec k).lockEnd ≤ s.now)) = true) ∧
    comes farm (fun s => s.awake && s.hif.ready && s.pwr.cycle.isNone && decide (s.pwr.commitAt + 7200 ≤ frameOf s.now)) = true ∧
    (∃ (a : Nat), comes farm State.awake = true) ∧
    (∃ (a : Nat), comes farm State.awake = true) ∧
    (∃ (a : Nat), comes farm State.awake = true) :=
  ⟨⟨[], [], by decide +kernel⟩,
   ⟨[], [], by decide +kernel⟩,
   ⟨1, some 5, by decide +kernel⟩,
   ⟨0, 0, by decide +kernel⟩,
   ⟨1, by decide +kernel⟩,
   by decide +kernel,
   ⟨8, by decide +kernel⟩,
   ⟨8, by decide +kernel⟩,
   ⟨8, by decide +kernel⟩⟩

/-- States and operands that meet the hypotheses of RecorderInstantsComplete, clause by clause. -/
theorem meets_RecorderInstantsComplete :
    comes farm (fun s => s.awake && decide (s.gaz.secAt < s.now / 2 ^ 24)) = true ∧
    comes (withGaz fun g => { g with perA := periodReset 0 }) (fun s => s.awake && decide (s.gaz.perA.endAt ≤ s.now)) = true ∧
    comes (withGaz fun g => { g with perB := periodReset 0 }) (fun s => s.awake && decide (s.gaz.perB.endAt ≤ s.now)) = true ∧
    comes (at0 (5 * 3600 * 2 ^ 24)) (fun s => s.awake && decide (s.gaz.hourAt < s.now / (3600 * 2 ^ 24)) && decide (s.now / (3600 * 2 ^ 24) % s.gaz.bHours ≠ 0)) = true ∧
    (∃ n m, comes (farm.setLife { farm.gaz.life with powered := 5, maint := [⟨3, 0, 0, false, 1, 0, true, 0⟩] }) (fun s => s.awake && decide ((s.gaz.life.maint.find? fun x => x.item == n) = some m) && maintReached s m) = true) ∧
    comes farm (fun s => s.awake && decide (s.pwr.state ≤ 1) && decide (s.gaz.lifeAt + 2 ^ 30 ≤ s.now)) = true :=
  ⟨by decide +kernel,
   by decide +kernel,
   by decide +kernel,
   by decide +kernel,
   ⟨3, ⟨3, 0, 0, false, 1, 0, true, 0⟩, by decide +kernel⟩,
   by decide +kernel⟩

/-- States and operands that meet the hypotheses of FrameEventsComplete, clause by clause. -/
theorem meets_FrameEventsComplete :
    (∃ (tu : List (Nat × List Nat)) (eu : List (Nat × List Nat)) (ce : Nat) (n : _), comes (at0 (2 ^ 24)) (fun s => decide (frameDue (lapseFrame s) = some n) && canDecide n (lapseFrame s)) = true) ∧
    (∃ n ovr outs, comes { farm with frm := { farm.frm with decided := some (5, false, []) } } (fun s => decide (s.frm.decided = some (n, ovr, outs)) && s.awake && decide (s.applyAt n ≤ s.now)) = true) ∧
    (∃ n, comes farm (fun s => s.frm.decided.isNone && decide (frameDue s = some n) && !s.rpl.active && s.frm.missed.isNone && decide (s.applyAt n ≤ s.now)) = true) ∧
    (∃ (k : Nat) (m : Nat) (st : Nat) (ca : Nat) (me : Nat), comes { farm with svy := { farm.svy with lanes := [some (0, 1, 2, 3), none, none, none] } } (fun s => s.awake && !(lapseFrame s).pwr.shutdown && decide (((lapseFrame s).svy.lanes[k]?).join = some (m, st, ca, me))) = true) ∧
    (∃ src tag c, ∃ e, comes { farm with cmds := [legCmd] } (fun s => s.awake && decide ((s.cmds.find? fun x => x.d.src == src && x.d.tag == tag && (longWork x.op).isSome) = some c) && decide (c.op = 0x0302) && decide (endedOk (commitLegend c s) = some e)) = true) ∧
    (∃ src tag c, ∃ e, comes { farm with cmds := [datCmd] } (fun s => s.awake && decide ((s.cmds.find? fun x => x.d.src == src && x.d.tag == tag && (longWork x.op).isSome) = some c) && decide (c.op = 0x0102) && decide (endedOk (commitDatum c s) = some e)) = true) :=
  ⟨⟨[], [], 0, 0, by decide +kernel⟩,
   ⟨5, false, [], by decide +kernel⟩,
   ⟨0, by decide +kernel⟩,
   ⟨0, 0, 1, 2, 3, by decide +kernel⟩,
   ⟨.ring 0, 1, legCmd, comes_some (by decide +kernel)⟩,
   ⟨.ring 0, 1, datCmd, comes_some (by decide +kernel)⟩⟩

/-! The statements about the whole machine: states and operands that meet their hypotheses, clause by clause. -/

/-- A step that answers a next state. -/
def goes (o : Host.Outcome State Fault Refusal) : Bool := match o with | .next _ => true | _ => false
/-- The farm with a command at the front of its queue. -/
def queued (c : Instr) : State := { farm with pending := [c] }
/-- The farm with an incomplete command of ring 0 under TAG 1, with or without FENCE. -/
def busy (flags : Nat) : State :=
  { farm with cmds := [{ cmd 0x0302 [] with d := { qry [] with flags := flags }, tied := false }] }
/-- A host-fed sample of source 1 stamped after the count's instant; a Datum that declares the source. -/
def ahead : Feed :=
  { s := { live with store := { live.store with datum := some { image := [], sects := [(tyHostSrc, [put 8 [(0, 2, 1)]])] } } }
    taken := 0, refused := 0 }
def aheadRec : Bytes := put 16 [(0, 8, 2 ^ 39), (8, 2, 1)]

theorem meets_StepRunsFrontCommand : (queued (.sysInfo 0 (qry []))).pending = .sysInfo 0 (qry []) :: [] := rfl
theorem meets_IdleStepAndTableWords :
    (farm.pending = [] ∧ farm.time.asleep = false) ∧ ((dozing id).pending = [] ∧ (dozing id).time.asleep = true) := ⟨⟨rfl, rfl⟩, rfl, rfl⟩
theorem meets_ShapeIsKept : (queued (.sysInfo 0 (qry []))).shapeOk = true ∧ goes (step (queued (.sysInfo 0 (qry [])))) = true := by
  decide +kernel
theorem meets_MeridianNeverGoesBack : goes (step (queued (.orderedReset 0))) = true ∧ goes (step farm) = true := by decide +kernel
theorem meets_CommandsLeaveTheQueue : goes (exec (.applyInstant 0) (queued (.sysInfo 0 (qry [])))) = true := by decide +kernel
theorem meets_OnlyFrameDecisionsReleaseTheLine :
    let s := { queued (.applyInstant 0) with safe := { farm.safe with set := true } }
    s.safe.set = true ∧ (∀ t tu eu ce rest, s.pending ≠ .frameDecisions t tu eu ce :: rest) ∧ goes (step s) = true := by
  refine ⟨rfl, ?_, by decide +kernel⟩
  intro t tu eu ce rest h
  cases h
theorem meets_HandlingLeavesTheBody : (begins specSysInfo (qry []) (advance 0 farm)).isSome = true := by decide +kernel
theorem meets_TwoReadsChangeState :
    ((0x404 ≠ 0x400 ∧ claimOf 0x404 = none) ∧ claimOf 0x103C = none ∧ claimOf 0x10C0 = none ∧ claimOf 0x1044 = none) ∧
    farm.hif.ready = true ∧ (0 < 8 ∧ 7 < 8) := by decide +kernel
theorem meets_StampsFramesAndFutures :
    (2 ^ 20 + 1 < 2 ^ 24 ∧ 2 ^ 40 + 5 < (2 ^ 20 + 1) * 2 ^ 20 ∧ (2 ^ 20 + 1 + 2 ^ 24 - 2 ^ 20 % 2 ^ 24) % 2 ^ 24 = 1) ∧
    (2 ^ 24 - 1 < 2 ^ 24 ∧ (2 ^ 24 - 1 + 2 ^ 24 - 2 ^ 24 % 2 ^ 24) % 2 ^ 24 = 2 ^ 24 - 1 ∧ 0 ≤ ((2 ^ 24 : Nat) : Int) + (-1)) ∧
    feedBad ahead.s aheadRec = false ∧ ahead.s.now < u64 aheadRec 0 := by decide +kernel
theorem meets_DiscardedFramesCountOnly :
    let a := judgedFirst 2 (advance 0 (withNear 2 fun x => { x with wire := [frameOut] }))
    let b := withFar 0 fun x => { x with wire := [frameIn0] }
    (a.shapeOk = true ∧ outTaken 2 spoilt frameOut = none ∧ (a.near 2).wire = frameOut :: [] ∧ dieDown 2 a = false) ∧
    (spoilt.noStart = true ∨ spoilt.violation = true) ∧
    (b.shapeOk = true ∧ inTaken 0 spoilt frameIn0 = none ∧ (b.far 0).wire = frameIn0 :: [] ∧ b.awake = true ∧ b.upd.recovery = false ∧
      b.pwr.resetDue = none) := by decide +kernel
/-- A register write that took effect before its turn: the second clause of `lands`. -/
theorem meets_lands : (advance 0 { farm with cyc := { cycleReset farm.time.acc with early := [.hifHbkick 0 1] } }).cy.early.contains
    (.hifHbkick 0 1) = true := by decide +kernel
theorem meets_FencesOrderOneRing :
    (flFence { qry [] with flags := 2 ^ 14 } = true ∧ offered 0x0101 { qry [] with flags := 2 ^ 14 } farm = true) ∧
    ((busy (2 ^ 14)).cmds.any fun c => c.d.src == .ring 0 && !c.internal && flFence c.d) = true ∧
    offered 0x0101 { qry [] with flags := 2 ^ 14 } (busy 0) = false := by decide +kernel
theorem meets_TagAndPayloadRefusals :
    let ok (d : Desc) (s : State) : Bool := sourceOpen d.src s && offered specSampleFeed.op d s && !badDescriptor specSampleFeed d &&
      !notReady specSampleFeed.op (takeOut d s)
    (ok (qry []) (busy 0) = true ∧ tagInUse (qry []) (takeOut (qry []) (busy 0)) = true) ∧
    (let d := { qry [] with readError := true }
     ok d farm = true ∧ tagInUse d (takeOut d farm) = false ∧ d.readError = true) ∧
    (let d := { qry [] with payload := 0, plen := 1 }
     ok d farm = true ∧ tagInUse d (takeOut d farm) = false ∧ d.payload = 0 ∧ d.plen ≠ 0) ∧
    (let d := { qry [] with plen := 23 }
     let k := { specSampleFeed with need := 24 }
     ok d farm = true ∧ tagInUse d (takeOut d farm) = false ∧ d.plen < k.need) := by decide +kernel
theorem meets_MalformedDescriptorsAreRefused :
    let ok (k : Spec) (d : Desc) : Bool := sourceOpen d.src farm && offered k.op d farm && decide (d.check.length = 8) &&
      !notReady k.op (takeOut d farm)
    let clean (k : Spec) (d : Desc) : Bool := ok k d && !badDescriptor k d && !tagInUse d (takeOut d farm) &&
      (refuseAtTaking.canRefused k d (takeOut d farm)).isNone && (payloadOf d (takeOut d farm)).isSome &&
      decide (k.need ≤ d.plen) && (!k.exact || d.plen == k.need) && decide (d.payload ≠ 0) && decide (d.src ≠ .spi)
    ok specSysInfo { qry [] with rsv1 := 1 } = true ∧ ok specSysInfo { qry [] with flags := 2 ^ 12 } = true ∧
    (ok specSysInfo { qry [] with keySlot := 1 } = true ∧ bit (qry []).flags 15 = false) ∧
    (ok specSysInfo { qry [] with flags := 2 ^ 13 } = true ∧ specSysInfo.frame = 0) ∧
    (clean specSetClock (qry []) = true ∧ specSetClock.crit = true) ∧
    (specLoadLegend.frame = 2 ∧ bit (2 ^ 13) 13 = true ∧ farm.rpl.active = false) := by decide +kernel
/-- `mine` of the statement at source 133 and at none. -/
theorem meets_ClaimsTakeTheHighestSource :
    ((switches.tgt 1).frozen = false ∧ (switches.tgt 1).s1 = 0 ∧
      (routed switches 133 = true ∧ assigned switches 133 = some 1 ∧ switches.running 1 < (switches.src 133).prio) ∧
      ((List.range 256).filter fun s => routed switches s) = [133]) ∧
    ((icReset.tgt 7).frozen = false ∧ (icReset.tgt 7).s1 = 0 ∧ ((List.range 256).filter fun s => routed icReset s) = []) ∧
    (((icDone 0 0 5 switches).tgt 1).s1 ≠ 0 ∧ ((icDone 0 0 5 switches).tgt 1).frozen = false ∧ (icDone 0 0 5 switches).running 1 < 15) := by
  decide +kernel
theorem meets_CountersAreAcceptedOnce :
    farm.shapeOk = true ∧ (judgeCrit 0x0303 (crit 0x0303 1 [] []) [] farm).2 = none := by
  refine ⟨by decide +kernel, ?_⟩
  have h : checkOk key0 0x0303 (crit 0x0303 1 [] []) (crit 0x0303 1 [] []).data = true := check_right 0x0303 1 [] []
  have k : (farm.keyRec (crit 0x0303 1 [] []).keySlot).key = some key0 := by decide +kernel
  have j : (judged 0x0303 (crit 0x0303 1 [] []) farm).2 = none := by decide +kernel
  rw [← judge_right k h] at j
  exact j

end Sys2Proof.Tests
end

section
/-!
A link frame that its receiver discards (01 R15): what the interrupt controller's settling leaves alone, the reading rules of the two
ends of a link, and the one update that a discarded frame makes at each end.
-/
namespace Sys2Proof.Machine

/-! Settling of the interrupt controller leaves all that is behind it as it was. -/

theorem foldl_behind {α : Type} {f : State → α → State} (hf : ∀ s y, (f s y).behind = s.behind) (l : List α) (s : State) :
    (l.foldl f s).behind = s.behind := by
  induction l generalizing s with
  | nil => rfl
  | cons y l ih => exact (ih (f s y)).trans (hf s y)

theorem msixSend_behind (v : Nat) (s : State) : (msixSend v s).behind = s.behind := by
  unfold msixSend
  split
  · rfl
  · split <;> rfl

theorem icNotify_behind (s : State) (n : Nat) : (icNotify s n).behind = s.behind := by
  simp only [icNotify]
  split
  · exact msixSend_behind n _
  · rfl

theorem timersUp_behind (s : State) : (timersUp s).behind = s.behind := by
  unfold timersUp
  split <;> rfl

theorem icSettle_behind (s : State) : (icSettle s).behind = s.behind := by
  unfold icSettle
  split
  · exact (foldl_behind icNotify_behind _ _).trans (timersUp_behind s)
  · rfl

@[simp] theorem icSettle_links (s : State) : (icSettle s).links = s.links := (congrArg State.links (icSettle_behind s) :)
@[simp] theorem icSettle_power (s : State) : (icSettle s).power = s.power := (congrArg State.power (icSettle_behind s) :)
@[simp] theorem icSettle_io (s : State) : (icSettle s).io = s.io := (congrArg State.io (icSettle_behind s) :)
@[simp] theorem icSettle_sense (s : State) : (icSettle s).sense = s.sense := (congrArg State.sense (icSettle_behind s) :)
@[simp] theorem icSettle_senLog (s : State) : (icSettle s).senLog = s.senLog := (congrArg State.senLog (icSettle_behind s) :)
@[simp] theorem icSettle_field (s : State) : (icSettle s).field = s.field := (congrArg State.field (icSettle_behind s) :)
@[simp] theorem icSettle_exch (s : State) : (icSettle s).exch = s.exch := (congrArg State.exch (icSettle_behind s) :)
@[simp] theorem icSettle_frm (s : State) : (icSettle s).frm = s.frm := (congrArg State.frm (icSettle_behind s) :)

/-! Reading an end of a link after an update. -/

theorem getD_setAt_same {α : Type} {i : Nat} {l : List α} (h : i < l.length) (y d : α) : (setAt i y l).getD i d = y := by
  unfold setAt
  induction l generalizing i with
  | nil => exact absurd h (Nat.not_lt_zero i)
  | cons z l ih =>
    cases i with
    | zero => rfl
    | succ i => exact ih (Nat.lt_of_succ_lt_succ h)

@[simp] theorem icSettle_near (s : State) (k : Nat) : (icSettle s).near k = s.near k := by simp [State.near]
@[simp] theorem icSettle_far (s : State) (k : Nat) : (icSettle s).far k = s.far k := by simp [State.far]
@[simp] theorem advance_near (t : Nat) (s : State) (k : Nat) : (advance t s).near k = s.near k := rfl
@[simp] theorem setNear_far (s : State) (n : Nat) (x : NearLink) (k : Nat) : (s.setNear n x).far k = s.far k := rfl
@[simp] theorem setFar_near (s : State) (n : Nat) (x : FarLink) (k : Nat) : (s.setFar n x).near k = s.near k := rfl

theorem setNear_near_same {s : State} {k : Nat} (h : k < s.links.near.length) (x : NearLink) : (s.setNear k x).near k = x :=
  getD_setAt_same h x _
theorem setFar_far_same {s : State} {k : Nat} (h : k < s.links.far.length) (x : FarLink) : (s.setFar k x).far k = x :=
  getD_setAt_same h x _

theorem near_length_of_shapeOk {s : State} (h : s.shapeOk = true) : s.links.near.length = 3 := by
  obtain ⟨-, -, -, hn, -⟩ := shapeOk_iff.mp h
  exact hn
theorem far_length_of_shapeOk {s : State} (h : s.shapeOk = true) : s.links.far.length = 3 := by
  obtain ⟨-, -, -, -, hf, -⟩ := shapeOk_iff.mp h
  exact hf

/-! The update that a discarded frame makes, at a far die and at LOGIC. -/

/-- The far die's end after a frame that it discards. -/
def FarLink.discard (x : FarLink) : FarLink := { x with errs := x.errs + 1, seqIn := x.seqIn.map fun q => (q + 1) % 16 }
/-- LOGIC's end after a frame that it discards. -/
def NearLink.discard (x : NearLink) : NearLink :=
  { x with nearErr := sat 65535 (x.nearErr + 1), seqIn := x.seqIn.map fun q => (q + 1) % 16 }

/-- A far die that discards a frame takes it off the wire and updates its own end of the link; nothing else happens. -/
theorem farFrame_discarded {k : Nat} {dmg : Damage} {s : State} {f : OutFrame} {rest : List OutFrame}
    (hwire : (s.near k).wire = f :: rest) (hup : dieDown k s = false) (htaken : outTaken k dmg f = none) :
    farFrame k dmg s = (s.setNear k { s.near k with wire := rest }).setFar k (s.far k).discard := by
  simp only [farFrame, hwire, hup, htaken]
  rfl

/-- LOGIC, running from an image and with no reset due, does the same at its end. -/
theorem nearFrame_discarded {k : Nat} {dmg : Damage} {s : State} {f : InFrame} {rest : List InFrame}
    (hwire : (s.far k).wire = f :: rest) (hawake : s.awake = true) (himage : s.upd.recovery = false) (hreset : s.resetNow = false)
    (htaken : inTaken k dmg f = none) :
    nearFrame k dmg s = (s.setFar k { s.far k with wire := rest }).setNear k (s.near k).discard := by
  simp only [nearFrame, hwire, hawake, himage, hreset, htaken]
  rfl

theorem exec_farFrameReceive {k : Nat} (hk : k < 3) (t : Nat) (dmg : Damage) (s : State) :
    exec (.farFrameReceive t k dmg) s = .next (icSettle (farFrame k dmg (judgedFirst k (advance t s)))) := by
  show run t (fun s => if k < 3 then farFrame k dmg (judgedFirst k s) else s) s = _
  simp only [run, hk, if_true]

theorem exec_logicFrameReceive {k : Nat} (hk : k < 3) (t : Nat) (dmg : Damage) (s : State) :
    exec (.logicFrameReceive t k dmg) s = .next (icSettle (nearFrame k dmg (advance t s))) := by
  show run t (fun s => if k < 3 then nearFrame k dmg s else s) s = _
  simp only [run, hk, if_true]

/-! What makes a receiver discard. -/

/-- A lost start, a coding violation or a CRC that does not fit fails the receiver's checks (R15). -/
theorem linkGood_false {k : Nat} {toLogic : Bool} {dmg : Damage} {r : Bytes}
    (h : dmg.noStart = true ∨ dmg.violation = true ∨ leNat (slice r 93 2) ≠ crc16 (r.take 93)) : linkGood k toLogic dmg r = false := by
  obtain h | h | h := h <;> simp [linkGood, h]

theorem outTaken_none_of_linkGood {k : Nat} {dmg : Damage} {f : OutFrame} (h : linkGood k false dmg (outArrived k dmg f) = false) :
    outTaken k dmg f = none := by
  simp [outTaken, h]

/-! The statement's two ends. -/

theorem farFrameReceive_discarded {t k : Nat} {dmg : Damage} {s0 s : State} {f : OutFrame} {rest : List OutFrame}
    (hs : s = judgedFirst k (advance t s0)) (hshape : s.shapeOk = true) (hk : k < 3) (htaken : outTaken k dmg f = none)
    (hwire : (s.near k).wire = f :: rest) (hup : dieDown k s = false) :
    ∃ u, exec (.farFrameReceive t k dmg) s0 = .next u ∧ u.far k = (s.far k).discard ∧ u.power = s.power ∧ u.io = s.io ∧
      u.sense = s.sense := by
  refine ⟨_, exec_farFrameReceive hk t dmg s0, ?_⟩
  rw [← hs, farFrame_discarded hwire hup htaken]
  simp [setFar_far_same, far_length_of_shapeOk hshape, hk]

theorem logicFrameReceive_discarded {t k : Nat} {dmg : Damage} {s : State} {f : InFrame} {rest : List InFrame}
    (hshape : s.shapeOk = true) (hk : k < 3) (htaken : inTaken k dmg f = none) (hwire : (s.far k).wire = f :: rest)
    (hawake : s.awake = true) (himage : s.upd.recovery = false) (hreset : (advance t s).resetNow = false) :
    ∃ u, exec (.logicFrameReceive t k dmg) s = .next u ∧ u.near k = (s.near k).discard ∧ u.links.viewS = s.links.viewS ∧
      u.links.viewP = s.links.viewP ∧ u.links.viewI = s.links.viewI ∧ u.field = s.field ∧ u.senLog = s.senLog ∧ u.exch = s.exch ∧
      u.frm = s.frm := by
  refine ⟨_, exec_logicFrameReceive hk t dmg s, ?_⟩
  rw [nearFrame_discarded (s := advance t s) hwire hawake himage hreset htaken]
  simp [setNear_near_same, near_length_of_shapeOk hshape, hk]

/-- Settles O55: a discarded frame comes down to `FarLink.discard` at the die and `NearLink.discard` at LOGIC. -/
theorem discardedFramesCountOnly : Obligations.DiscardedFramesCountOnly := by
  unfold Obligations.DiscardedFramesCountOnly
  refine ⟨?die, fun k dmg f h => outTaken_none_of_linkGood (linkGood_false h), ?logic⟩
  case die =>
    intro t k dmg s0 s f rest hs hshape hk htaken hwire hup
    obtain ⟨u, hstep, hfar, hpower, hio, hsense⟩ := farFrameReceive_discarded hs hshape hk htaken hwire hup
    exact ⟨u, hstep, hfar ▸ rfl, hpower, hio, hsense, hfar ▸ rfl⟩
  case logic =>
    intro t k dmg s f rest hshape hk htaken hwire hawake himage hreset
    obtain ⟨u, hstep, hnear, hviewS, hviewP, hviewI, hfield, hsenLog, hexch, hfrm⟩ :=
      logicFrameReceive_discarded hshape hk htaken hwire hawake himage hreset
    exact ⟨u, hstep, hnear ▸ rfl, hviewS, hviewP, hviewI, hfield, hsenLog, hexch, hfrm, hnear ▸ rfl⟩

end Sys2Proof.Machine
end

section
/-!
Stamps (02 R48, R49, R51, R55): the frame of a stamp, the full stamp of a short stamp, and a host-fed record stamped after its arrival.
-/
namespace Sys2Proof.Machine

/-- The frame of a stamp is the one whose 2^23 ticks hold it (R51). -/
theorem frameOf_eq_iff (st n : Nat) : frameOf st = n ↔ n * 2 ^ 23 ≤ st ∧ st < (n + 1) * 2 ^ 23 :=
  (Nat.div_eq_iff (by decide)).trans (by omega)

/-! The full stamp of a short stamp. -/

/-- The signed distance of a short stamp from bits 43:20 of the count, by the half-range rule (R48). -/
def shortDelta (m short : Nat) : Int :=
  let d : Nat := (short + 2 ^ 24 - m / 2 ^ 20 % 2 ^ 24) % 2 ^ 24
  if 2 ^ 23 ≤ d then (d : Int) - 2 ^ 24 else d

/-- A rebuilt stamp of `v` units is bounded by the count: past it, the count's own units stand in its place (R49). -/
theorem rebuildStamp_of_units {m short v : Nat} (h : ((m / 2 ^ 20 : Nat) : Int) + shortDelta m short = v) :
    rebuildStamp m short = if m < v * 2 ^ 20 then m - m % 2 ^ 20 else v * 2 ^ 20 := by
  have hunits : (max (((m / 2 ^ 20 : Nat) : Int) + shortDelta m short) 0).toNat = v := by rw [h]; omega
  rw [← Nat.div_mul_self_eq_mod_sub_self, ← hunits]
  rfl

theorem rebuildStamp_of_later {m short : Nat} (hpos : 0 ≤ ((m / 2 ^ 20 : Nat) : Int) + shortDelta m short)
    (hlater : (m : Int) < (((m / 2 ^ 20 : Nat) : Int) + shortDelta m short) * 2 ^ 20) : rebuildStamp m short = m - m % 2 ^ 20 := by
  obtain ⟨v, hv⟩ := Int.eq_ofNat_of_zero_le hpos
  rw [hv] at hlater
  rw [rebuildStamp_of_units hv, if_pos (by omega)]

theorem rebuildStamp_of_not_later {m short : Nat} (hpos : 0 ≤ ((m / 2 ^ 20 : Nat) : Int) + shortDelta m short)
    (hnot : (((m / 2 ^ 20 : Nat) : Int) + shortDelta m short) * 2 ^ 20 ≤ m) :
    (rebuildStamp m short : Int) = (((m / 2 ^ 20 : Nat) : Int) + shortDelta m short) * 2 ^ 20 := by
  obtain ⟨v, hv⟩ := Int.eq_ofNat_of_zero_le hpos
  rw [hv] at hnot ⊢
  rw [rebuildStamp_of_units hv, if_neg (by omega), Nat.cast_mul]
  rfl

/-! A host-fed record. -/

/-- The sample that a record of SAMPLE_FEED spells, arriving at `now` (R388). -/
def fedSample (now : Nat) (r : Bytes) : Sample :=
  { stamp := u64 r 0, src := u16 r 8, status := u16 r 10, value := s32 r 12, arrival := now }

/-- The capture of a LATE, DUPLICATE or FUTURE sample touches the capture ring alone (R73). -/
theorem capOdd_eq (b : Bytes) (s : State) :
    capOdd b s = { s with cap := if s.cap.active then { s.cap with odd := s.cap.odd ++ [b] } else s.cap } := by
  unfold capOdd
  split <;> rfl

/-- A well-formed record stamped after its arrival is refused, and the state changes by `feedFuture` alone (R55). -/
theorem feedOne_future {f : Feed} {r : Bytes} (hform : feedBad f.s r = false) (hlater : f.s.now < u64 r 0) :
    feedOne f r = { s := feedFuture (fedSample f.s.now r) f.s, taken := f.taken, refused := f.refused + 1 } := by
  simp [feedOne, hform, hlater, fedSample]

/-- Settles O54: the frame by its division, the rebuilt stamp by its whole units, the future record by `feedFuture`. -/
theorem stampsFramesAndFutures : Obligations.StampsFramesAndFutures := by
  unfold Obligations.StampsFramesAndFutures
  refine ⟨frameOf_eq_iff, ?rebuilt, ?future⟩
  case rebuilt => exact fun m short _ => ⟨rebuildStamp_of_later, rebuildStamp_of_not_later⟩
  case future =>
    intro f r hform hlater
    rw [feedOne_future hform hlater]
    exact ⟨rfl, rfl, capOdd_eq _ _⟩

end Sys2Proof.Machine
end

section
/-!
The taking of a ring's command (13 R374, R375): the incomplete commands that it waits for, and the checks that end it with TAG_IN_USE or
PAYLOAD_ERROR.
-/
namespace Sys2Proof.Machine

/-! What a ring offers. -/

/-- The incomplete commands of ring `n`. -/
def State.ringCmds (n : Nat) (s : State) : List Cmd := s.cmds.filter fun c => c.d.src == .ring n && !c.internal

/-- Ring `n` has a descriptor to offer, and no held completion stops it (R370, R373). -/
def State.ringReady (n : Nat) (s : State) : Bool :=
  decide (n < 16) && (s.ring n).enable && decide (0 < (s.ring n).waiting) && !(s.hif.held.any fun p => p.1 == (s.ring n).cq)

/-- A ring's descriptor is offered when its ring is ready and the fences let it go: those of the ring's incomplete commands and its own. -/
theorem offered_ring {n : Nat} {d : Desc} (hsrc : d.src = .ring n) (op : Nat) (s : State) :
    offered op d s =
      (s.ringReady n && !((s.ringCmds n).any fun c => flFence c.d) && (!flFence d || (s.ringCmds n).isEmpty)) := by
  simp only [offered, hsrc, State.ringReady, State.ringCmds]

theorem ringCmds_eq_nil_of_offered {op n : Nat} {d : Desc} {s : State} (hsrc : d.src = .ring n) (hfence : flFence d = true)
    (hoff : offered op d s = true) : s.ringCmds n = [] := by
  simp only [offered_ring hsrc, hfence, Bool.and_eq_true, Bool.not_true, Bool.false_or, List.isEmpty_iff] at hoff
  exact hoff.2

theorem offered_false_of_fence {n : Nat} {d : Desc} {s : State} (hsrc : d.src = .ring n) (op : Nat)
    (hfence : ((s.ringCmds n).any fun c => flFence c.d) = true) : offered op d s = false := by
  simp [offered_ring hsrc, hfence]

theorem ringCmds_filter_src (n : Nat) (s : State) :
    State.ringCmds n { s with cmds := s.cmds.filter fun c => c.d.src == .ring n } = s.ringCmds n := by
  refine (List.filter_filter ..).trans (List.filter_congr fun c _ => ?_)
  cases c.d.src == .ring n <;> simp

/-- A ring's offer depends on no incomplete command of another source. -/
theorem offered_filter_src {n : Nat} {d : Desc} (hsrc : d.src = .ring n) (op : Nat) (s : State) :
    offered op d { s with cmds := s.cmds.filter fun c => c.d.src == .ring n } = offered op d s := by
  rw [offered_ring hsrc, offered_ring hsrc, ringCmds_filter_src]
  rfl

theorem command_of_not_offered {k : Spec} {d : Desc} {s : State} (go : Cmd → State → Next) (h : offered k.op d s = false) :
    command k go d s = s := by
  simp [command, h]

/-- Settles O56: an offer reads the incomplete commands of its own ring alone (`offered_ring`), and what is not offered stays. -/
theorem fencesOrderOneRing : Obligations.FencesOrderOneRing := by
  unfold Obligations.FencesOrderOneRing
  refine ⟨?own, ?others, ?elsewhere, fun k go d s h => command_of_not_offered go h⟩
  case own =>
    intro op n d s hsrc hfence hoff
    have hnone := List.filter_eq_nil_iff.mp (ringCmds_eq_nil_of_offered hsrc hfence hoff)
    rw [List.all_eq_true]
    intro c hc
    simpa [imp_iff_not_or] using hnone c hc
  case others =>
    intro op n d s hsrc hfence
    refine offered_false_of_fence hsrc op ?_
    rw [State.ringCmds, List.any_filter]
    exact hfence
  case elsewhere => exact fun op n d s hsrc => (offered_filter_src hsrc op s).symm

/-! The checks at taking. -/

/-- A command that a check of taking refuses completes with that check's status, and only its descriptor has gone. -/
theorem command_refused {k : Spec} {d : Desc} {s : State} {st : Nat} (go : Cmd → State → Next) (hopen : sourceOpen d.src s = true)
    (hoff : offered k.op d s = true)
    (hst : refuseAtTaking k { d with data := (payloadOf d (takeOut d s)).getD [] } (payloadOf d (takeOut d s)) (takeOut d s) = some st) :
    command k go d s = sendCompletion d.src d.tag st false 0 0 (takeOut d s) := by
  simp [command, take, hopen, hoff, hst]

theorem canRefused_ring {n : Nat} {d : Desc} (hsrc : d.src = .ring n) (k : Spec) (s : State) :
    refuseAtTaking.canRefused k d s = none := by
  simp only [refuseAtTaking.canRefused, hsrc]

theorem payloadOf_ring_readError {n : Nat} {d : Desc} (hsrc : d.src = .ring n) (herr : d.readError = true) (s : State) :
    payloadOf d s = none := by
  simp [payloadOf, hsrc, herr]

theorem refuseAtTaking_tagInUse {k : Spec} {d : Desc} {s : State} (pay : Option Bytes) (hready : notReady k.op s = false)
    (hform : badDescriptor k d = false) (htag : tagInUse d s = true) : refuseAtTaking k d pay s = some stTagInUse := by
  simp [refuseAtTaking, hready, hform, htag]

theorem refuseAtTaking_payloadError {k : Spec} {n : Nat} {d : Desc} {pay : Option Bytes} {s : State} (hsrc : d.src = .ring n)
    (hready : notReady k.op s = false) (hform : badDescriptor k d = false) (htag : tagInUse d s = false)
    (hpay : pay = none ∨ (d.payload = 0 ∧ d.plen ≠ 0) ∨ d.plen < k.need) : refuseAtTaking k d pay s = some stPayloadError := by
  have hbad : (d.payload = 0 ∧ d.plen ≠ 0) ∨ d.plen < k.need ∨ (k.exact = true ∧ d.plen ≠ k.need) ∨ pay = none := by tauto
  simp only [refuseAtTaking, hready, hform, htag, canRefused_ring hsrc, hsrc, hbad, Bool.false_eq_true, reduceCtorEq, false_and, ne_eq,
    not_true, if_false, if_true]

/-- Settles O57: of the checks at taking, that of the TAG and that of the payload are the first to fail. -/
theorem tagAndPayloadRefusals : Obligations.TagAndPayloadRefusals := by
  unfold Obligations.TagAndPayloadRefusals
  intro k go n d s hsrc hopen hoff hready hform
  refine ⟨fun htag => command_refused go hopen hoff ?tag, fun htag hpay => command_refused go hopen hoff ?payload⟩
  case tag => exact refuseAtTaking_tagInUse _ hready hform htag
  case payload =>
    exact refuseAtTaking_payloadError hsrc hready hform htag (hpay.imp_left fun herr => payloadOf_ring_readError hsrc herr _)

end Sys2Proof.Machine
end

section
/-!
The claim of a target (14 R396 to R399): the sources that it can take under an assignment, in ascending order, and of these the first with
the highest PRIO.
-/
namespace Sys2Proof.Machine

/-! The sources that a target can take. -/

/-- The sources assigned to target `n` that are still routed and above its running priority (R397). -/
def claimCandidates (asg : List (Nat × Nat)) (i : Ic) (n : Nat) : List Nat :=
  (asg.filter fun p => p.2 == n && routed i p.1 && decide (i.running n < (i.src p.1).prio)).map Prod.fst

/-- A target that is not frozen takes the first of the highest PRIO among its candidates. -/
theorem claimable_eq_argmax {i : Ic} {n : Nat} (hfrozen : (i.tgt n).frozen = false) (asg : List (Nat × Nat)) :
    claimable asg i n = (claimCandidates asg i n).argmax fun s => (i.src s).prio := by
  simp only [claimable, hfrozen, Bool.false_eq_true, if_false]
  refine congrArg (fun pick => List.foldl pick none (claimCandidates asg i n)) ?_
  funext best s
  cases best <;> rfl

/-- A source outside the controller's list is not pending. -/
theorem lt_length_of_routed {i : Ic} {s : Nat} (h : routed i s = true) : s < i.srcs.length := by
  by_contra hs
  have hnone : i.src s = icSrc0 := List.getD_eq_default _ _ (by omega)
  simp [routed, hnone, icSrc0] at h

theorem mem_assignment {i : Ic} {s n : Nat} : (s, n) ∈ assignment i ↔ routed i s = true ∧ assigned i s = some n := by
  simp only [assignment, routedSrcs, List.mem_filterMap, List.mem_filter, List.mem_range, Option.map_eq_some_iff, Prod.mk.injEq]
  constructor
  · rintro ⟨s, ⟨-, hrouted⟩, n, hn, rfl, rfl⟩
    exact ⟨hrouted, hn⟩
  · rintro ⟨hrouted, hn⟩
    exact ⟨s, ⟨lt_length_of_routed hrouted, hrouted⟩, n, hn, rfl, rfl⟩

theorem mem_claimCandidates {i : Ic} {s n : Nat} :
    s ∈ claimCandidates (assignment i) i n ↔ routed i s = true ∧ assigned i s = some n ∧ i.running n < (i.src s).prio := by
  simp only [claimCandidates, List.mem_map, List.mem_filter, Bool.and_eq_true, beq_iff_eq, decide_eq_true_eq, Prod.exists,
    exists_and_right, exists_eq_right, mem_assignment]
  constructor
  · rintro ⟨m, ⟨hrouted, hm⟩, ⟨rfl, -⟩, hprio⟩
    exact ⟨hrouted, hm, hprio⟩
  · rintro ⟨hrouted, hn, hprio⟩
    exact ⟨n, ⟨hrouted, hn⟩, ⟨rfl, hrouted⟩, hprio⟩

theorem assignment_ascending (i : Ic) : (assignment i).Pairwise fun p q => p.1 < q.1 := by
  refine (List.pairwise_lt_range.filter (routed i)).filterMap _ fun s r hlt p hp q hq => ?_
  obtain ⟨_, _, rfl⟩ := Option.map_eq_some_iff.mp hp
  obtain ⟨_, _, rfl⟩ := Option.map_eq_some_iff.mp hq
  exact hlt

theorem claimCandidates_ascending (i : Ic) (n : Nat) : (claimCandidates (assignment i) i n).SortedLT :=
  (List.pairwise_map.mpr ((assignment_ascending i).filter _)).sortedLT

/-- In a strictly ascending list the earlier of two members is the lower. -/
theorem idxOf_le_idxOf_iff {l : List Nat} (hl : l.SortedLT) {a b : Nat} (ha : a ∈ l) (hb : b ∈ l) : l.idxOf a ≤ l.idxOf b ↔ a ≤ b :=
  (hl.getIso l).symm.le_iff_le (x := ⟨a, ha⟩) (y := ⟨b, hb⟩)

/-! What the claim read does, by the source that it takes. -/

theorem claimable_eq_some {i : Ic} {n s : Nat} (hfrozen : (i.tgt n).frozen = false) (hs : s ∈ claimCandidates (assignment i) i n)
    (hbest : ∀ r ∈ claimCandidates (assignment i) i n,
      (i.src r).prio < (i.src s).prio ∨ ((i.src r).prio = (i.src s).prio ∧ s ≤ r)) :
    claimable (assignment i) i n = some s := by
  rw [claimable_eq_argmax hfrozen, List.argmax_eq_some_iff]
  refine ⟨hs, fun r hr => ?highest, fun r hr hge => ?lowest⟩
  case highest =>
    have := hbest r hr
    omega
  case lowest =>
    rw [idxOf_le_idxOf_iff (claimCandidates_ascending i n) hs hr]
    have := hbest r hr
    omega

theorem claimable_eq_none {i : Ic} {n : Nat} (hfrozen : (i.tgt n).frozen = false)
    (hnone : ∀ s, s ∉ claimCandidates (assignment i) i n) : claimable (assignment i) i n = none := by
  rw [claimable_eq_argmax hfrozen, List.argmax_eq_none]
  exact List.eq_nil_iff_forall_not_mem.mpr hnone

theorem icClaim_copy {i : Ic} {n : Nat} (hfrozen : (i.tgt n).frozen = false) (hcopy : (i.tgt n).s1 ≠ 0) (asg : List (Nat × Nat)) :
    icClaim asg n i =
      (i.setTgt n { i.tgt n with s1 := 0, stack := 1 :: (i.tgt n).stack, claimx := (i.tgt n).s1 + 2 ^ 16 * 15 }, 1) := by
  simp [icClaim, hfrozen, hcopy]

theorem icClaim_source {i : Ic} {n s : Nat} {asg : List (Nat × Nat)} (hfrozen : (i.tgt n).frozen = false) (hcopy : (i.tgt n).s1 = 0)
    (hs : claimable asg i n = some s) :
    icClaim asg n i = ((i.setSrc s { i.src s with c := 0, start := none, pend := false, byTime := false }).setTgt n
      { i.tgt n with
        stack := s :: (i.tgt n).stack
        claimx := (i.src s).c + 2 ^ 16 * (i.src s).prio + 2 ^ 20 * b2n (isLevelSrc s) + 2 ^ 21 * b2n (i.src s).byTime }, s) := by
  simp [icClaim, hfrozen, hcopy, hs]

theorem icClaim_nothing {i : Ic} {n : Nat} {asg : List (Nat × Nat)} (hfrozen : (i.tgt n).frozen = false) (hcopy : (i.tgt n).s1 = 0)
    (hnone : claimable asg i n = none) : icClaim asg n i = (i.setTgt n { i.tgt n with claimx := 0 }, 0) := by
  simp [icClaim, hfrozen, hcopy, hnone]

/-- Settles O59: the claim's choice is the `argmax` of PRIO over the candidates, which stand in ascending order. -/
theorem claimsTakeTheHighestSource : Obligations.ClaimsTakeTheHighestSource := by
  unfold Obligations.ClaimsTakeTheHighestSource
  intro n i hfrozen mine
  have hmine (s : Nat) : s ∈ claimCandidates (assignment i) i n ↔ mine s := mem_claimCandidates
  refine ⟨fun hcopy => ⟨fun s hs hbest => ?takes, fun hnone => ?nothing⟩, fun hcopy _ => icClaim_copy hfrozen hcopy _⟩
  case takes =>
    exact icClaim_source hfrozen hcopy
      (claimable_eq_some hfrozen ((hmine s).mpr hs) fun r hr => hbest r ((hmine r).mp hr))
  case nothing =>
    exact icClaim_nothing hfrozen hcopy (claimable_eq_none hfrozen fun s => (hmine s).not.mpr (hnone s))

end Sys2Proof.Machine
end

section
/-!
The two register reads that act (23 R536): MER_NOW_LO, which latches for its path, and IC_CLAIM_n, which claims.
-/
namespace Sys2Proof.Machine

/-- IC_CLAIM_n stands 16 bytes after the claim register of the target before it. -/
theorem claimOf_claimOffset {n : Nat} (h : n < 8) : claimOf (0x1040 + 16 * n) = some n := by
  have hrange : 0x1040 ≤ 0x1040 + 16 * n ∧ 0x1040 + 16 * n < 0x10C0 ∧ (0x1040 + 16 * n) % 16 = 0 := by omega
  rw [claimOf, if_pos hrange, Nat.add_sub_cancel_left, Nat.mul_div_cancel_left n (by decide)]

theorem readReg_merNowLo (p : Path) (s : State) : readReg p 0x400 s = (latchNow p s, readWord p 0x400 s) := rfl

theorem readReg_claim {a n : Nat} (ha : a ≠ 0x400) (hclaim : claimOf a = some n) (p : Path) (s : State) :
    readReg p a s = claimRead n s := by
  simp only [readReg, ha, hclaim, if_false]

theorem readReg_other {a : Nat} (ha : a ≠ 0x400) (hclaim : claimOf a = none) (p : Path) (s : State) :
    readReg p a s = (s, readWord p a s) := by
  simp only [readReg, ha, hclaim, if_false]

/-- From READY on, MER_NOW_LO reads the lower half of the count (R535). -/
theorem readWord_merNowLo {s : State} (hready : s.hif.ready = true) (p : Path) : readWord p 0x400 s = s.now % 2 ^ 32 :=
  if_pos hready

/-- Settles O53: each offset is MER_NOW_LO's, a claim register's or another's, and `readReg` answers it by that. -/
theorem twoReadsChangeState : Obligations.TwoReadsChangeState := by
  unfold Obligations.TwoReadsChangeState
  refine ⟨?other, ?latches, ?claims⟩
  case other =>
    intro p a s ha hclaim
    rw [readReg_other ha hclaim]
  case latches =>
    intro p s hready
    rw [readReg_merNowLo]
    exact ⟨readWord_merNowLo hready p, by cases p <;> rfl⟩
  case claims => exact fun p n s hn => readReg_claim (by omega) (claimOf_claimOffset hn) p s

end Sys2Proof.Machine
end

section
/-!
What every operation of the model keeps (`Keeps`): the count never falls, the queue stands, the shape stands and, but for the decisions of
a frame, the safe-state line stays set. One rule per function of the model, in the order of the definitions, each assembled from the rules
of the functions that it calls; the last, `Keeps.exec`, is about a command.
-/
namespace Sys2Proof.Machine

variable {line : Bool} {s₀ s : State}

/-- An update of fields that the relation does not look at: one reflexivity for all that it looks at. -/
theorem Keeps.same {x : State} {p tm ck fm cp rp ex lk ss sl fd pw io cn pl sv st hf sp ho cs ic au nv sr up gz pr sf cy fr}
    (hk : Keeps line s₀ x)
    (h : (p, tm.acc, sp.buffer, up.slotA, up.slotB, sf.set) =
      (x.pending, x.time.acc, x.spi.buffer, x.upd.slotA, x.upd.slotB, x.safe.set))
    (hl : (lk.near.length, lk.far.length, cn.length, hf.rings.length, au.slots.length) =
      (x.links.near.length, x.links.far.length, x.can.length, x.hif.rings.length, x.auth.slots.length)) :
    Keeps line s₀ (State.mk p tm ck fm cp rp ex lk ss sl fd pw io cn pl sv st hf sp ho cs ic au nv sr up gz pr sf cy fr) := by
  obtain ⟨hp, ht, hb, hA, hB, hs⟩ : _ ∧ _ ∧ _ ∧ _ ∧ _ ∧ _ := by simpa only [Prod.mk.injEq] using h
  obtain ⟨hn, hf, hc, hr, hk'⟩ : _ ∧ _ ∧ _ ∧ _ ∧ _ := by simpa only [Prod.mk.injEq] using hl
  exact .upd hp hk ht hb hA hB hn hf hc hr hk' hs

/-! Ops -/

theorem accTo_le (t : Nat) (m : Meridian) : m.acc ≤ accTo t m := by
  unfold accTo
  dsimp only
  generalize (if m.asleep = true then _ else _) = step
  split
  exacts [le_rfl, Nat.le_add_right _ _]

theorem Keeps.advance {t : Nat} (hk : Keeps line s₀ s) : Keeps line s₀ (advance t s) := by
  refine .updTime rfl hk ?_ rfl rfl rfl rfl rfl rfl rfl rfl rfl
  show s.time.acc ≤ if s.pwr.ao then accTo t s.time else s.time.acc
  split
  exacts [accTo_le t s.time, le_rfl]

theorem Keeps.idle (hk : Keeps line s₀ s) : Keeps line s₀ (idle s) := by
  refine .updTime rfl hk ?_ rfl rfl rfl rfl rfl rfl rfl rfl rfl
  split
  exacts [Nat.le_add_right _ _, le_rfl]

theorem Keeps.hit {off b : Nat} (hk : Keeps line s₀ s) : Keeps line s₀ (hit off b s) := .same hk rfl rfl

theorem Keeps.hitIf {p : Bool} {off b : Nat} (hk : Keeps line s₀ s) :
    Keeps line s₀ (hitIf p off b s) := .ite (fun _ => hk.hit) fun _ => hk

theorem Keeps.onIc {f : Ic → Ic} (hk : Keeps line s₀ s) : Keeps line s₀ (onIc f s) := .same hk rfl rfl

theorem Keeps.used (hk : Keeps line s₀ s) : Keeps line s₀ (s.used) := .same hk rfl rfl

theorem Keeps.irq {src : Nat} (hk : Keeps line s₀ s) : Keeps line s₀ (irq src s) := by
  have noted := hk.onIc (f := icEvent s.now src)
  exact .ite (fun _ => .same hk rfl rfl) fun _ => .ite (fun _ => .same (.same noted rfl rfl) rfl rfl) fun _ => .same noted rfl rfl

theorem Keeps.post {addr : Nat} {b : Bytes} (hk : Keeps line s₀ s) : Keeps line s₀ (post addr b s) := .same hk rfl rfl

theorem Keeps.msixSend {v : Nat} (hk : Keeps line s₀ s) : Keeps line s₀ (msixSend v s) := by
  unfold Machine.msixSend
  split
  exacts [hk, .ite (fun _ => .same hk rfl rfl) fun _ => hk.post]

theorem Keeps.setRing {r : Nat} {x : Ring} (hk : Keeps line s₀ s) : Keeps line s₀ (s.setRing r x) := .same hk rfl (by simp)

theorem Keeps.writeShadow {r : Nat} (hk : Keeps line s₀ s) : Keeps line s₀ (writeShadow r s) := hk.post

theorem Keeps.ringNotify {r : Nat} (hk : Keeps line s₀ s) : Keeps line s₀ (ringNotify r s) :=
  .ite (fun _ => hk.setRing.msixSend) fun _ => hk

theorem Keeps.writeEntry {r : Nat} {b : Bytes} (hk : Keeps line s₀ s) : Keeps line s₀ (writeEntry r b s) := hk.post.setRing

theorem Keeps.writeBatch {r : Nat} {l : List Bytes} (hk : Keeps line s₀ s) : Keeps line s₀ (writeBatch r l s) :=
  .ite (fun _ => hk) fun _ => .ringNotify (.writeShadow (.foldl (fun _ _ => .writeEntry) hk))

theorem Keeps.setSpill {r : Nat} {x : Spill} (hk : Keeps line s₀ s) : Keeps line s₀ (s.setSpill r x) := .same hk rfl rfl

theorem Keeps.drain {r : Nat} (hk : Keeps line s₀ s) : Keeps line s₀ (drain r s) := .ite (fun _ => hk) fun _ => hk.setSpill.writeBatch

theorem Keeps.spillPut {r stamp seq : Nat} {b : List Bytes} (hk : Keeps line s₀ s) : Keeps line s₀ (spillPut r stamp seq b s) :=
  .ite (fun _ => hk.setSpill) fun _ => hk.setSpill

theorem Keeps.devPut {r stamp seq : Nat} {b : List Bytes} (hk : Keeps line s₀ s) : Keeps line s₀ (devPut r stamp seq b s) :=
  .ite (fun _ => hk) fun _ => .ite (fun _ => hk) fun _ => hk.spillPut.drain

theorem Keeps.raiseAt {stamp code : Nat} {params : Bytes} (hk : Keeps line s₀ s) : Keeps line s₀ (raiseAt stamp code params s) :=
  .devPut (.same hk rfl rfl)

theorem Keeps.raise {code : Nat} {params : Bytes} (hk : Keeps line s₀ s) : Keeps line s₀ (raise code params s) := hk.raiseAt

theorem Keeps.raises {l : List (Nat × Bytes)} (hk : Keeps line s₀ s) : Keeps line s₀ (raises l s) := .foldl (fun _ _ => .raise) hk

theorem Keeps.streamSample {x : Sample} (hk : Keeps line s₀ s) : Keeps line s₀ (streamSample x s) := hk.devPut

theorem Keeps.capOdd {b : Bytes} (hk : Keeps line s₀ s) : Keeps line s₀ (capOdd b s) := .ite (fun _ => .same hk rfl rfl) fun _ => hk

theorem Keeps.intakeAt {x : Sample} (hk : Keeps line s₀ s) : Keeps line s₀ (intakeAt x s) :=
  .ite (fun _ => hk) fun _ => .ite (fun _ => .streamSample (.capOdd (.same hk rfl rfl)))
    fun _ => .ite (fun _ => .streamSample (.capOdd (.same hk rfl rfl))) fun _ => .streamSample (.same hk rfl rfl)

theorem Keeps.intake {x : Sample} (hk : Keeps line s₀ s) : Keeps line s₀ (intake x s) := hk.intakeAt

theorem Keeps.frontEndAt {arrival took : Nat} {x : Sample} (hk : Keeps line s₀ s) : Keeps line s₀ (frontEndAt arrival took x s) :=
  .ite (fun _ => hk.intakeAt) fun _ => .ite (fun _ => .same hk rfl rfl) fun _ => .same hk rfl rfl

theorem Keeps.frontEnd {took : Nat} {x : Sample} (hk : Keeps line s₀ s) : Keeps line s₀ (frontEnd took x s) := hk.frontEndAt

theorem Keeps.publish {slot src : Nat} {v : Int} {stamp : Nat} (hk : Keeps line s₀ s) : Keeps line s₀ (publish slot src v stamp s) :=
  .same hk rfl rfl

theorem Keeps.cqPut {cq : Nat} {e : Bytes} (hk : Keeps line s₀ s) : Keeps line s₀ (cqPut cq e s) :=
  .ite (fun _ => hk) fun _ => .ite (fun _ => .same hk rfl rfl) fun _ => hk.writeBatch

theorem Keeps.setCan {c : CanCh} (hk : Keeps line s₀ s) : Keeps line s₀ (setCan c s) := .same hk rfl (by simp)

theorem Keeps.canRespond {ch : Nat} {e : Bytes} (hk : Keeps line s₀ s) : Keeps line s₀ (canRespond ch e s) := by
  unfold Machine.canRespond
  split
  exacts [hk.setCan, hk]

theorem Keeps.sendCompletion {src : Src} {tag status : Nat} {led : Bool} {prog result : Nat} (hk : Keeps line s₀ s) :
    Keeps line s₀ (sendCompletion src tag status led prog result s) := by
  unfold Machine.sendCompletion
  dsimp only
  split
  exacts [hk.cqPut, hk.canRespond, .same hk rfl rfl]

theorem Keeps.internalCmdAt {acc op : Nat} {params : Bytes} {eff : Nat} (hk : Keeps line s₀ s) :
    Keeps line s₀ (internalCmdAt acc op params eff s) :=
  .same hk rfl rfl

theorem Keeps.internalCmd {op : Nat} {params : Bytes} {eff : Nat} (hk : Keeps line s₀ s) : Keeps line s₀ (internalCmd op params eff s) :=
  hk.internalCmdAt

theorem Keeps.setLine {cause : Nat} (hk : Keeps line s₀ s) : Keeps line s₀ (setLine cause s) :=
  .ite (fun _ => .raise (.same hk rfl rfl)) fun _ => .internalCmd (.raise (.irq (.updSet rfl hk rfl rfl rfl rfl rfl rfl rfl rfl rfl rfl)))

/-! Nvs -/

theorem Keeps.addWrites {region n : Nat} (hk : Keeps line s₀ s) : Keeps line s₀ (addWrites region n s) := .same hk rfl rfl

theorem Keeps.verifyFail {region addr : Nat} (hk : Keeps line s₀ s) : Keeps line s₀ (verifyFail region addr s) :=
  .raise (.irq (.hit (.hitIf (.same hk rfl rfl))))

theorem Keeps.ueFound {region addr : Nat} (hk : Keeps line s₀ s) : Keeps line s₀ (ueFound region addr s) :=
  .raise (.irq (.hit (.hitIf (.same hk rfl rfl))))

theorem Keeps.freshen {a n : Nat} (hk : Keeps line s₀ s) : Keeps line s₀ (freshen a n s) := .same hk rfl rfl

theorem Keeps.writeRange {a n : Nat} (hk : Keeps line s₀ s) : Keeps line s₀ (writeRange a n s).1 := by
  unfold Machine.writeRange
  dsimp only
  split
  exacts [.fst hk.addWrites.verifyFail, .fst hk.addWrites.freshen]

theorem Keeps.storeTwo {α : Type} {pl : Place} {t : Two α} {x : α} (hk : Keeps line s₀ s) : Keeps line s₀ (storeTwo pl t x s).1 := by
  unfold Machine.storeTwo
  dsimp only
  split
  exacts [.fst hk.addWrites.verifyFail, .fst hk.addWrites.freshen.freshen]

theorem Keeps.setArea {k : Nat} {a : Area} (hk : Keeps line s₀ s) : Keeps line s₀ (s.setArea k a) := .same hk rfl rfl

theorem Keeps.storeLearn {k : Nat} {x : Learn} (hk : Keeps line s₀ s) : Keeps line s₀ (storeLearn k x s).1 := .fst hk.storeTwo.setArea

theorem Keeps.storeStore {k : Nat} {x : List StoreRec} (hk : Keeps line s₀ s) : Keeps line s₀ (storeStore k x s).1 :=
  .fst hk.storeTwo.setArea

theorem Keeps.storeFans {k : Nat} {x : List (Nat × List FanBin)} (hk : Keeps line s₀ s) : Keeps line s₀ (storeFans k x s).1 :=
  .fst hk.storeTwo.setArea

theorem Keeps.storeBase {k : Nat} {x : List (Nat × Nat)} (hk : Keeps line s₀ s) :
    Keeps line s₀ (storeBase k x s).1 := .fst hk.storeTwo.setArea

theorem Keeps.storePlan {k : Nat} {x : Plan} (hk : Keeps line s₀ s) : Keeps line s₀ (storePlan k x s).1 := .fst hk.storeTwo.setArea

theorem Keeps.storeArea {k : Nat} {x : Nat × Nat} (hk : Keeps line s₀ s) : Keeps line s₀ (storeArea k x s).1 := .fst hk.storeTwo.setArea

theorem Keeps.storeDatum {k : Nat} {img : Bytes} (hk : Keeps line s₀ s) : Keeps line s₀ (storeDatum k img s).1 := .fst hk.storeTwo.setArea

theorem Keeps.ledgerPut {n : Nat} {e : LedEntry} (hk : Keeps line s₀ s) : Keeps line s₀ (ledgerPut n e s) := .same hk.storeTwo rfl rfl

theorem Keeps.ledgerMap {n : Option Nat} {f : LedEntry → LedEntry} (hk : Keeps line s₀ s) : Keeps line s₀ (ledgerMap n f s) := by
  unfold Machine.ledgerMap
  split
  · exact hk
  · split
    exacts [hk.ledgerPut, hk]

/-! Auth -/

theorem Keeps.setSlot {n : Nat} {k : KeySlot} (hk : Keeps line s₀ s) : Keeps line s₀ (s.setSlot n k) := .same hk rfl (by simp)

theorem Keeps.storeCtr {n : Nat} {c : CtrRec} (hk : Keeps line s₀ s) : Keeps line s₀ (storeCtr n c s).1 := .fst hk.storeTwo.setSlot

theorem Keeps.storeKey {n : Nat} {k : KeyRec} (hk : Keeps line s₀ s) : Keeps line s₀ (storeKey n k s).1 :=
  .itePair (fun _ => .fst hk.storeTwo.setSlot) fun _ => .fst hk.storeTwo.setSlot

theorem Keeps.storeCosign {k : Cosign} (hk : Keeps line s₀ s) : Keeps line s₀ (storeCosign k s).1 := .fst (.same hk.storeTwo rfl rfl)

theorem Keeps.countFailure {n : Nat} (hk : Keeps line s₀ s) : Keeps line s₀ (countFailure n s) := hk.storeCtr

theorem Keeps.judgeCrit {op : Nat} {d : Desc} {data : Bytes} (hk : Keeps line s₀ s) : Keeps line s₀ (judgeCrit op d data s).1 := by
  unfold Machine.judgeCrit
  dsimp only
  split
  · exact .fst hk
  · split
    · exact .fst hk
    · split
      · exact .fst hk
      · exact .itePair (fun _ => .fst hk.countFailure) fun _ => .itePair (fun _ => .fst hk)
          fun _ => .itePair (fun _ => .fst hk) fun _ => .itePair (fun _ => .fst hk) fun _ => .fst hk.storeCtr

theorem Keeps.lockEnds {n : Nat} (hk : Keeps line s₀ s) : Keeps line s₀ (lockEnds n s) := .ite (fun _ => hk.storeCtr) fun _ => hk

theorem Keeps.relock (hk : Keeps line s₀ s) : Keeps line s₀ (relock s) :=
  .foldl (fun _ _ hk => .ite (fun _ => hk) fun _ => hk.storeCtr) hk

theorem Keeps.installKey {n mask : Nat} {key : Bytes} (hk : Keeps line s₀ s) :
    Keeps line s₀ (installKey n mask key s).1 := .fst hk.storeKey

/-! Cmd -/

theorem Keeps.takeOut {d : Desc} (hk : Keeps line s₀ s) : Keeps line s₀ (takeOut d s) := by
  unfold Machine.takeOut
  split
  exacts [hk.setRing.writeShadow, hk.setCan, hk]

theorem Keeps.openEntry {n : Option Nat} {k : Spec} {d : Desc} {a e : Nat} (hk : Keeps line s₀ s) :
    Keeps line s₀ (openEntry n k d a e s) := by
  unfold Machine.openEntry
  split
  exacts [hk, .ledgerPut (.same hk rfl rfl)]

theorem Keeps.ledRun {n : Option Nat} (hk : Keeps line s₀ s) : Keeps line s₀ (ledRun n s) := hk.ledgerMap

theorem Keeps.ledTarget {n : Option Nat} {target gen : Nat} (hk : Keeps line s₀ s) :
    Keeps line s₀ (ledTarget n target gen s) := hk.ledgerMap

theorem Keeps.ledStart {n : Option Nat} {target gen total : Nat} (hk : Keeps line s₀ s) : Keeps line s₀ (ledStart n target gen total s) :=
  hk.ledgerMap

theorem Keeps.ledEnd {n : Option Nat} {status prog : Nat} (hk : Keeps line s₀ s) : Keeps line s₀ (ledEnd n status prog s) := hk.ledgerMap

theorem Keeps.finish {c : Cmd} {status prog result : Nat} (hk : Keeps line s₀ s) : Keeps line s₀ (finish c status prog result s) :=
  .ite (fun _ => .same hk.ledEnd rfl rfl) fun _ => .sendCompletion (.same hk.ledEnd rfl rfl)

theorem Keeps.refuse {status : Nat} (hk : Keeps line s₀ s) : Keeps line s₀ (refuse status s).st := .done hk

theorem Keeps.okResult {r : Nat} (hk : Keeps line s₀ s) : Keeps line s₀ (okResult r s).st := .done hk

theorem Keeps.putData {d : Desc} {b : Bytes} (hk : Keeps line s₀ s) : Keeps line s₀ (putData d b s) := by
  unfold Machine.putData
  split
  · exact hk
  · split
    exacts [hk.post, hk, .updBuf rfl hk (fun h => memWrite_wf h ..) rfl rfl rfl rfl rfl rfl rfl rfl rfl]

theorem Keeps.answer {c : Cmd} {b : Bytes} {result : Nat} (hk : Keeps line s₀ s) : Keeps line s₀ (answer c b result s).st :=
  .iteNext (fun _ => .done hk.putData) fun _ => hk.refuse

theorem Keeps.accept {k : Spec} {go : Cmd → State → Next} {d : Desc} {led : Option Nat} (hk : Keeps line s₀ s)
    (hgo : ∀ c s, Keeps line s₀ s → Keeps line s₀ (go c s).st) :
    Keeps line s₀ (accept k go d led s) := by
  unfold Machine.accept
  dsimp only
  split
  · exact hk.openEntry.finish
  · split
    · exact .finish (.ofDone ‹_› (hgo _ _ (.ite (fun _ => hk.openEntry) fun _ => hk.openEntry.ledRun)))
    · exact .same (.ofWait ‹_› (hgo _ _ (.ite (fun _ => hk.openEntry) fun _ => hk.openEntry.ledRun))) rfl rfl

theorem Keeps.take {k : Spec} {go : Cmd → State → Next} {d0 : Desc} (hk : Keeps line s₀ s)
    (hgo : ∀ c s, Keeps line s₀ s → Keeps line s₀ (go c s).st) : Keeps line s₀ (take k go d0 s) := by
  unfold Machine.take
  dsimp only
  split
  · exact hk.sendCompletion
  · refine .ite (fun _ => hk.sendCompletion) fun _ => .ite (fun _ => ?_) fun _ => hk.accept hgo
    split
    exacts [.sendCompletion (.ofPair ‹_› hk.judgeCrit), .accept (.ofPair ‹_› hk.judgeCrit) hgo]

theorem Keeps.command {k : Spec} {go : Cmd → State → Next} {d : Desc} (hk : Keeps line s₀ s)
    (hgo : ∀ c s, Keeps line s₀ s → Keeps line s₀ (go c s).st) :
    Keeps line s₀ (command k go d s) :=
  .ite (fun _ => .take hk.takeOut hgo) fun _ => hk

theorem Keeps.answerStray {src : Src} {b : Bytes} (hk : Keeps line s₀ s) : Keeps line s₀ (answerStray src b s) := hk.sendCompletion

theorem Keeps.strayMailbox (hk : Keeps line s₀ s) : Keeps line s₀ (strayMailbox s) := by
  unfold Machine.strayMailbox
  split
  exacts [.ite (fun _ => hk.answerStray) fun _ => hk, hk]

theorem Keeps.strayRequests {ch : Nat} (hk : Keeps line s₀ s) : Keeps line s₀ (strayRequests ch s) :=
  .ite (fun _ => .foldl (fun _ _ => .answerStray) hk.setCan) fun _ => hk

theorem Keeps.waitFrame {c : Cmd} (hk : Keeps line s₀ s) : Keeps line s₀ (waitFrame c s).st := .wait hk

/-! Views -/

theorem Keeps.setNear {n : Nat} {x : NearLink} (hk : Keeps line s₀ s) : Keeps line s₀ (s.setNear n x) := .same hk rfl (by simp)

theorem Keeps.setFar {n : Nat} {x : FarLink} (hk : Keeps line s₀ s) : Keeps line s₀ (s.setFar n x) := .same hk rfl (by simp)

/-! Gazetteer -/

theorem Keeps.setGaz {g : Gaz} (hk : Keeps line s₀ s) : Keeps line s₀ (s.setGaz g) := .same hk rfl rfl

theorem Keeps.setLife {l : Life} (hk : Keeps line s₀ s) : Keeps line s₀ (s.setLife l) := .same hk rfl rfl

theorem Keeps.storeG0 {g : Group0} (hk : Keeps line s₀ s) : Keeps line s₀ (storeG0 g s).1 := .fst (.same hk.storeTwo rfl rfl)

theorem Keeps.lastWords {code region slot addr : Nat} (hk : Keeps line s₀ s) : Keeps line s₀ (lastWords code region slot addr s) :=
  .ite (fun _ => .same (.writeRange (.same hk rfl rfl)) rfl rfl) fun _ => .hit (.same (.writeRange (.same hk rfl rfl)) rfl rfl)

theorem Keeps.gazFail {code region slot addr : Nat} (hk : Keeps line s₀ s) : Keeps line s₀ (gazFail code region slot addr s) :=
  .raise (.hit (.same hk.lastWords rfl rfl))

theorem Keeps.putG0 {g : Group0} (hk : Keeps line s₀ s) : Keeps line s₀ (putG0 g s) :=
  .ite (fun _ => hk.storeG0) fun _ => hk.storeG0.gazFail

theorem Keeps.allocSeq (hk : Keeps line s₀ s) : Keeps line s₀ (allocSeq s).1 :=
  .itePair (fun _ => .fst (.same hk rfl rfl)) fun _ => .fst (.putG0 (.same hk rfl rfl))

theorem Keeps.listBad {b : Bool} {n : Nat} (hk : Keeps line s₀ s) : Keeps line s₀ (listBad b n s).1 :=
  .itePair (fun _ => .itePair (fun _ => .fst (.same hk rfl rfl)) fun _ => .fst hk.putG0)
    fun _ => .itePair (fun _ => .fst (.same hk rfl rfl)) fun _ => .fst hk.putG0

theorem Keeps.dropSlot {b : Bool} {n : Nat} (hk : Keeps line s₀ s) : Keeps line s₀ (dropSlot b n s) := .same hk rfl rfl

theorem Keeps.writeA {k seq ty cls inst flags : Nat} {body : Bytes} (hk : Keeps line s₀ s) :
    Keeps line s₀ (writeA k seq ty cls inst flags body s) := by
  induction k generalizing s with
  | zero => exact hk
  | succ k ih =>
    refine .ite (fun _ => hk) fun _ => ?_
    split
    case h_1 => exact hk
    case h_2 n _ =>
      have written : Keeps line s₀ (Machine.writeRange (aAddr n) 64 s).1 := hk.writeRange
      exact .ite (fun _ => .same written rfl rfl) fun _ => .gazFail (ih written.dropSlot.listBad)

theorem Keeps.writeB {k seq ty cls inst flags : Nat} {body : Bytes} (hk : Keeps line s₀ s) :
    Keeps line s₀ (writeB k seq ty cls inst flags body s) := by
  induction k generalizing s with
  | zero => exact hk
  | succ k ih =>
    rewrite [Machine.writeB]
    exact .ite (fun _ => hk) fun _ => .ite (fun _ => .ite (fun _ => .putG0 (.same hk.writeRange rfl rfl)) fun _ => .same hk.writeRange rfl rfl)
      fun _ => .gazFail (ih hk.writeRange.dropSlot.listBad)

theorem Keeps.fillA (hk : Keeps line s₀ s) : Keeps line s₀ (fillA s) := .ite (fun _ => .raise (.same hk.allocSeq.writeA rfl rfl)) fun _ => hk

theorem Keeps.putA {ty cls inst flags : Nat} {body : Bytes} (hk : Keeps line s₀ s) : Keeps line s₀ (putA ty cls inst flags body s) :=
  .ite (fun _ => hk) fun _ => .ite (fun _ => hk.fillA) fun _ => .fillA (.ite (fun _ => .same hk.allocSeq.writeA rfl rfl)
    fun _ => hk.allocSeq.writeA)

theorem Keeps.putB {ty cls inst flags : Nat} {body : Bytes} (hk : Keeps line s₀ s) : Keeps line s₀ (putB ty cls inst flags body s) :=
  .ite (fun _ => hk) fun _ => hk.allocSeq.writeB

theorem Keeps.benchB {reason : Nat} (hk : Keeps line s₀ s) :
    Keeps line s₀ (benchB reason s) := .ite (fun _ => hk) fun _ => .same hk.putB rfl rfl

theorem Keeps.benchA {reason : Nat} (hk : Keeps line s₀ s) : Keeps line s₀ (benchA reason s) := hk.putA

theorem Keeps.writeBatchOf {b : Bool} {p : GazPeriod} (hk : Keeps line s₀ s) : Keeps line s₀ (writeBatchOf b p s) :=
  .foldl (fun _ _ hk => .ite (fun _ => .putB (.ite (fun _ => hk.putB) fun _ => hk.putA))
    fun _ => .putA (.ite (fun _ => hk.putB) fun _ => hk.putA)) (.ite (fun _ => hk.benchB) fun _ => hk.benchA)

theorem Keeps.closePeriod {b cut : Bool} (hk : Keeps line s₀ s) : Keeps line s₀ (closePeriod b cut s) := .same hk.writeBatchOf rfl rfl

theorem Keeps.cutPeriods (hk : Keeps line s₀ s) : Keeps line s₀ (cutPeriods s) := hk.closePeriod.closePeriod

theorem Keeps.startPeriods (hk : Keeps line s₀ s) : Keeps line s₀ (startPeriods s) := .same hk rfl rfl

theorem Keeps.gazSecond (hk : Keeps line s₀ s) : Keeps line s₀ (gazSecond s) := .same hk rfl rfl

theorem Keeps.gazErrors (hk : Keeps line s₀ s) : Keeps line s₀ (gazErrors s) := .same hk rfl rfl

theorem Keeps.gazCrossing {csw : Nat} (hk : Keeps line s₀ s) : Keeps line s₀ (gazCrossing csw s) := .same hk rfl rfl

theorem Keeps.commitGroup {g : Nat} (hk : Keeps line s₀ s) : Keeps line s₀ (commitGroup g s) :=
  .ite (fun _ => .same hk.storeTwo rfl rfl) fun _ => .gazFail (.same hk.storeTwo rfl rfl)

theorem Keeps.lifeCommit (hk : Keeps line s₀ s) : Keeps line s₀ (lifeCommit s) := .same (.foldl (fun _ _ => .commitGroup) hk) rfl rfl

theorem Keeps.onValve {ch : Nat} {f : LifeValve → LifeValve} (hk : Keeps line s₀ s) : Keeps line s₀ (onValve ch f s) := hk.setLife

theorem Keeps.countPower {a b : PowerSt} (hk : Keeps line s₀ s) : Keeps line s₀ (countPower a b s) := hk.setLife

theorem Keeps.countIo {now : Nat} {safeA safeB : Bool} {a b : IoSt} (hk : Keeps line s₀ s) :
    Keeps line s₀ (countIo now safeA safeB a b s) :=
  hk.setLife

theorem Keeps.countRoutes {a b : List Route} (hk : Keeps line s₀ s) : Keeps line s₀ (countRoutes a b s) := hk.setLife

theorem Keeps.countTons {rows : List (Nat × Nat)} (hk : Keeps line s₀ s) : Keeps line s₀ (countTons rows s) := hk.setLife

theorem Keeps.legendTonnage {slot crop grade : Nat} (hk : Keeps line s₀ s) : Keeps line s₀ (legendTonnage slot crop grade s) :=
  .ite (fun _ => hk) fun _ => hk.putB.setLife

theorem Keeps.loadMaint {d : Datum} (hk : Keeps line s₀ s) : Keeps line s₀ (loadMaint d s) := hk.setLife

theorem Keeps.baseMaint (hk : Keeps line s₀ s) : Keeps line s₀ (baseMaint s) := .ite (fun _ => hk.setLife) fun _ => hk

theorem Keeps.maintFire {item : Nat} (hk : Keeps line s₀ s) : Keeps line s₀ (maintFire item s) := by
  unfold Machine.maintFire
  split
  exacts [hk, .ite (fun _ => hk) fun _ => hk.setLife.putB.raise]

/-! IcSettle -/

theorem Keeps.icNotify {n : Nat} (hk : Keeps line s₀ s) : Keeps line s₀ (icNotify s n) :=
  .ite (fun _ => .msixSend (.same hk rfl rfl)) fun _ => .same hk rfl rfl

theorem Keeps.timersUp (hk : Keeps line s₀ s) : Keeps line s₀ (timersUp s) := .ite (fun _ => hk.onIc) fun _ => hk

theorem Keeps.icSettle (hk : Keeps line s₀ s) : Keeps line s₀ (icSettle s) :=
  .ite (fun _ => .foldl (fun _ _ => .icNotify) (.same hk.timersUp rfl rfl)) fun _ => hk

/-! Hif -/

theorem Keeps.ringErrSet {r : Nat} (hk : Keeps line s₀ s) : Keeps line s₀ (ringErrSet r s) := .hit (.same hk rfl rfl)

theorem Keeps.stopRing {r : Nat} (hk : Keeps line s₀ s) : Keeps line s₀ (stopRing r s) :=
  .ite (fun _ => .same hk.setRing rfl rfl) fun _ => hk.setRing

theorem Keeps.writeRcfg {r v : Nat} (hk : Keeps line s₀ s) : Keeps line s₀ (writeRcfg r v s) :=
  .ite (fun _ => hk) fun _ => .ite (fun _ => .ite (fun _ => hk) fun _ => hk.stopRing)
    fun _ => .ite (fun _ => hk.setRing) fun _ => .ite (fun _ => hk.setRing.ringErrSet) fun _ => hk.setRing.setRing.writeShadow.setRing

theorem Keeps.writeRbase {r v : Nat} {hi : Bool} (hk : Keeps line s₀ s) : Keeps line s₀ (writeRbase r v hi s) :=
  .ite (fun _ => hk) fun _ => hk.setRing

theorem Keeps.doorbell {r v : Nat} (hk : Keeps line s₀ s) : Keeps line s₀ (doorbell r v s) :=
  .ite (fun _ => hk) fun _ => .ite (fun _ => hk.stopRing.ringErrSet.raise) fun _ => .ite (fun _ => hk.setRing)
    fun _ => .ite (fun _ => hk.setRing) fun _ => hk.setRing.ringNotify

theorem Keeps.silentFrom {e : Nat} (hk : Keeps line s₀ s) : Keeps line s₀ (silentFrom e s) := .internalCmdAt (.raiseAt (.same hk rfl rfl))

theorem Keeps.heartbeatLapse (hk : Keeps line s₀ s) : Keeps line s₀ (heartbeatLapse s) := by
  unfold Machine.heartbeatLapse
  split
  exacts [.ite (fun _ => hk.silentFrom) fun _ => hk, hk]

theorem Keeps.heartbeat {v : Nat} (hk : Keeps line s₀ s) : Keeps line s₀ (heartbeat v s) :=
  .ite (fun _ => .internalCmd (.raise (.same hk.heartbeatLapse rfl rfl))) fun _ => .same hk.heartbeatLapse rfl rfl

theorem Keeps.heartbeatLost (hk : Keeps line s₀ s) : Keeps line s₀ (heartbeatLost s) := by
  unfold Machine.heartbeatLost
  split
  exacts [.ite (fun _ => hk) fun _ => hk.silentFrom, hk]

theorem Keeps.writeHbcfg {v : Nat} (hk : Keeps line s₀ s) : Keeps line s₀ (writeHbcfg v s) := .same hk.heartbeatLapse rfl rfl

theorem Keeps.hostLimit {map : Nat} (hk : Keeps line s₀ s) : Keeps line s₀ (hostLimit map s) := by
  unfold Machine.hostLimit
  split
  exacts [.ite (fun _ => hk) fun _ => hk.internalCmd, hk]

theorem Keeps.heldWrite {cq : Nat} (hk : Keeps line s₀ s) : Keeps line s₀ (heldWrite cq s) := by
  unfold Machine.heldWrite
  split
  exacts [hk, .ite (fun _ => hk) fun _ => .writeBatch (.same hk rfl rfl)]

theorem Keeps.hifResetOf {flr : Bool} (hk : Keeps line s₀ s) : Keeps line s₀ (hifResetOf flr s) :=
  .hitIf (.parts hk le_rfl rfl id id id id id id (fun _ => rfl) id fun _ => id)

theorem Keeps.linkUp {speed width : Nat} {bme : Bool} (hk : Keeps line s₀ s) : Keeps line s₀ (linkUp speed width bme s) := .same hk rfl rfl

/-! Lanes -/

theorem Keeps.fillLane {k : Nat} (hk : Keeps line s₀ s) : Keeps line s₀ (fillLane s k) := .ite (fun _ => hk) fun _ => .same hk rfl rfl

theorem Keeps.fillLanes (hk : Keeps line s₀ s) : Keeps line s₀ (fillLanes s) := .foldl (fun _ _ => .fillLane) hk

theorem Keeps.runEnd {lane : Nat} (hk : Keeps line s₀ s) : Keeps line s₀ (runEnd lane s) :=
  .ite (fun _ => hk) fun _ => by split; exacts [hk, .fillLanes (.same hk rfl rfl)]

/-! TimeCmds -/

theorem Keeps.captureEnd {reason : Nat} (hk : Keeps line s₀ s) : Keeps line s₀ (captureEnd reason s) :=
  .ite (fun _ => .same hk rfl rfl) fun _ => hk

theorem Keeps.capPut {r : Bytes} (hk : Keeps line s₀ s) : Keeps line s₀ (capPut r s) :=
  .ite (fun _ => hk) fun _ => .ite (fun _ => hk.captureEnd) fun _ => .same hk rfl rfl

theorem Keeps.capPuts {l : List Bytes} (hk : Keeps line s₀ s) : Keeps line s₀ (capPuts l s) := .foldl (fun _ _ => .capPut) hk

theorem Keeps.captureBegin {e : Nat} (hk : Keeps line s₀ s) : Keeps line s₀ (captureBegin e s) := .capPuts (.same hk rfl rfl)

theorem Keeps.openEra {reason : Nat} {off : Int} (hk : Keeps line s₀ s) : Keeps line s₀ (openEra reason off s).1 :=
  .itePair (fun _ => .fst (.benchA (.benchB (.same hk.writeRange rfl rfl)))) fun _ => hk.writeRange

theorem Keeps.readTime {c : Cmd} (hk : Keeps line s₀ s) : Keeps line s₀ (readTime c s).st := hk.okResult

theorem Keeps.setSlew {c : Cmd} (hk : Keeps line s₀ s) : Keeps line s₀ (setSlew c s).st :=
  .iteNext (fun _ => .okResult (.same hk rfl rfl)) fun _ => hk.refuse

theorem Keeps.setClock {c : Cmd} (hk : Keeps line s₀ s) : Keeps line s₀ (setClock c s).st := by
  unfold Machine.setClock
  dsimp only
  split
  · exact hk.refuse
  · split
    · exact .okResult (.baseMaint (.same hk rfl rfl))
    · split
      · exact .okResult (.baseMaint (.same (.ofPair ‹_› hk.ledTarget.openEra) rfl rfl))
      · exact .refuse (.ofPair ‹_› hk.ledTarget.openEra)

theorem Keeps.readEra {c : Cmd} (hk : Keeps line s₀ s) : Keeps line s₀ (readEra c s).st := by
  unfold Machine.readEra
  split
  exacts [hk.answer, hk.refuse]

theorem Keeps.captureRead {c : Cmd} (hk : Keeps line s₀ s) : Keeps line s₀ (captureRead c s).st :=
  .iteNext (fun _ => hk.putData.okResult) fun _ => hk.refuse

theorem Keeps.readDigest {c : Cmd} (hk : Keeps line s₀ s) : Keeps line s₀ (readDigest c s).st := by
  unfold Machine.readDigest
  split
  exacts [hk.answer, hk.refuse]

theorem Keeps.enterReplay {c : Cmd} (hk : Keeps line s₀ s) : Keeps line s₀ (enterReplay c s).st := .done (.same hk.setLine rfl rfl)

theorem Keeps.leaveReplay {c : Cmd} (hk : Keeps line s₀ s) : Keeps line s₀ (leaveReplay c s).st :=
  .iteNext (fun _ => .done (.fillLanes (.same hk rfl rfl))) fun _ => hk.refuse

/-! MapCmds -/

theorem Keeps.tieIf {chk : Cmd → State → Option Nat} {c : Cmd} (hk : Keeps line s₀ s) : Keeps line s₀ (tieIf chk c s).st := by
  unfold Machine.tieIf
  split
  exacts [hk.refuse, hk.waitFrame]

theorem Keeps.effIf {chk : Cmd → State → Option Nat} {f : Effect} {n : Nat} {c : Cmd} (hk : Keeps line s₀ s)
    (hf : ∀ n x s, Keeps line s₀ s → Keeps line s₀ (f n x s).st) :
    Keeps line s₀ (effIf chk f n c s).st := by
  unfold Machine.effIf
  split
  exacts [hk.refuse, hf _ _ _ hk]

theorem Keeps.doneE {c : Cmd} (hk : Keeps line s₀ s) : Keeps line s₀ (doneE c s).st := hk.okResult

theorem Keeps.linRefresh (hk : Keeps line s₀ s) : Keeps line s₀ (linRefresh s) := .same hk rfl rfl

theorem Keeps.chainRestart (hk : Keeps line s₀ s) : Keeps line s₀ (chainRestart s) := .same hk.captureEnd rfl rfl

theorem Keeps.legendGovern {w : LegWait} (hk : Keeps line s₀ s) : Keeps line s₀ (legendGovern w s) :=
  .chainRestart (.ite (fun _ => .same (.same hk rfl rfl) rfl rfl) fun _ => .same hk rfl rfl)

theorem Keeps.setMap {m : GMap} (hk : Keeps line s₀ s) : Keeps line s₀ (s.setMap m) := .same hk rfl rfl

theorem Keeps.mapStatus {c : Cmd} (hk : Keeps line s₀ s) : Keeps line s₀ (mapStatus c s).st := by
  unfold Machine.mapStatus
  split
  exacts [hk.setMap.okResult, hk.refuse]

theorem Keeps.loadLegend {c : Cmd} (hk : Keeps line s₀ s) : Keeps line s₀ (loadLegend c s).st :=
  .iteNext (fun _ => hk.refuse) fun _ => .iteNext (fun _ => hk.refuse) fun _ => .iteNext (fun _ => hk.refuse) fun _ => .wait hk

theorem Keeps.clearArea {k : Nat} (hk : Keeps line s₀ s) : Keeps line s₀ (clearArea k s).1 :=
  .itePair (fun _ => .fst (.same hk.writeRange rfl rfl)) fun _ => hk.writeRange

theorem Keeps.commitLegend {c : Cmd} (hk : Keeps line s₀ s) : Keeps line s₀ (commitLegend c s).st := by
  unfold Machine.commitLegend
  dsimp only
  split
  · exact hk.refuse
  · exact hk.refuse
  · refine .iteNext (fun _ => .refuse ?_) fun _ => .done (.linRefresh (.legendTonnage ?_))
    · exact .itePair (fun _ => hk.ledStart.writeRange.writeRange) fun _ => hk.ledStart.writeRange
    · split
      · exact .clearArea (.same (.itePair (fun _ => hk.ledStart.writeRange.writeRange) fun _ => hk.ledStart.writeRange) rfl rfl)
      · exact .same (.itePair (fun _ => hk.ledStart.writeRange.writeRange) fun _ => hk.ledStart.writeRange) rfl rfl

theorem Keeps.readLegend {c : Cmd} (hk : Keeps line s₀ s) : Keeps line s₀ (readLegend c s).st :=
  .iteNext (fun _ => hk.refuse) fun _ => .iteNext (fun _ => hk.refuse) fun _ => hk.answer

theorem Keeps.eraseLegend {c : Cmd} (hk : Keeps line s₀ s) : Keeps line s₀ (eraseLegend c s).st := by
  unfold Machine.eraseLegend
  dsimp only
  split
  · exact hk.refuse
  · split
    · exact hk.refuse
    · split
      · exact hk.refuse
      · split
        · exact hk.refuse
        · exact .iteNext (fun _ => .okResult (.same hk.ledTarget.clearArea rfl rfl)) fun _ => hk.ledTarget.clearArea.refuse

theorem Keeps.mapPrimeEff {n : Nat} {c : Cmd} (hk : Keeps line s₀ s) : Keeps line s₀ (mapPrimeEff n c s).st := by
  unfold Machine.mapPrimeEff
  split
  exacts [hk.setMap.doneE, hk.refuse]

theorem Keeps.predRead {c : Cmd} (hk : Keeps line s₀ s) : Keeps line s₀ (predRead c s).st := by
  unfold Machine.predRead
  split
  · exact hk.refuse
  · split
    exacts [hk.refuse, hk.answer]

theorem Keeps.pairRead {c : Cmd} (hk : Keeps line s₀ s) : Keeps line s₀ (pairRead c s).st := by
  unfold Machine.pairRead
  split
  exacts [hk.refuse, hk.answer]

theorem Keeps.biasRead {c : Cmd} (hk : Keeps line s₀ s) : Keeps line s₀ (biasRead c s).st :=
  .iteNext (fun _ => hk.answer) fun _ => .iteNext (fun _ => hk.refuse) fun _ => .iteNext (fun _ => hk.refuse) fun _ => hk.answer

theorem Keeps.biasResetEff {n : Nat} {c : Cmd} (hk : Keeps line s₀ s) : Keeps line s₀ (biasResetEff n c s).st := .doneE (.same hk rfl rfl)

theorem Keeps.setInletEff {n : Nat} {c : Cmd} (hk : Keeps line s₀ s) : Keeps line s₀ (setInletEff n c s).st := by
  unfold Machine.setInletEff
  split
  exacts [hk.refuse, .doneE (.ite (fun _ => hk.setMap) fun _ => hk.setMap.linRefresh)]

theorem Keeps.sendImage {c : Cmd} {b : Bytes} (hk : Keeps line s₀ s) : Keeps line s₀ (sendImage c b s).st :=
  .iteNext (fun _ => .done hk.putData) fun _ => hk.refuse

theorem Keeps.mapExportEff {n : Nat} {c : Cmd} (hk : Keeps line s₀ s) : Keeps line s₀ (mapExportEff n c s).st := by
  unfold Machine.mapExportEff
  split
  exacts [hk.refuse, hk.sendImage]

theorem Keeps.mapSaveEff {n : Nat} {c : Cmd} (hk : Keeps line s₀ s) : Keeps line s₀ (mapSaveEff n c s).st := hk.sendImage

theorem Keeps.mapRestoreEff {n : Nat} {c : Cmd} (hk : Keeps line s₀ s) : Keeps line s₀ (mapRestoreEff n c s).st :=
  .iteNext (fun _ => hk.refuse) fun _ => .done (.chainRestart (.linRefresh (.same hk rfl rfl)))

/-! DryCmds -/

theorem Keeps.setPlant {p : Plant} (hk : Keeps line s₀ s) : Keeps line s₀ (s.setPlant p) := .same hk rfl rfl

theorem Keeps.putDryer {x : Dryer} (hk : Keeps line s₀ s) : Keeps line s₀ (s.putDryer x) := hk.setPlant

theorem Keeps.onDryer {f : Bytes → Dryer → Cmd → State → Next} {n : Nat} {c : Cmd} (hk : Keeps line s₀ s)
    (hf : ∀ n x y s, Keeps line s₀ s → Keeps line s₀ (f n x y s).st) :
    Keeps line s₀ (onDryer f n c s).st :=
  .effIf hk (fun _ _ _ hk => (by
    split
    exacts [hf _ _ _ _ hk, hk.refuse]))

theorem Keeps.dischargeStartEff {n : Nat} {c : Cmd} (hk : Keeps line s₀ s) : Keeps line s₀ (dischargeStartEff n c s).st :=
  .onDryer hk (fun _ _ _ _ hk => .iteNext (fun _ => hk.refuse) fun _ => .iteNext (fun _ => hk.refuse) fun _ => hk.setPlant.doneE)

theorem Keeps.dischargeStopEff {n : Nat} {c : Cmd} (hk : Keeps line s₀ s) : Keeps line s₀ (dischargeStopEff n c s).st :=
  .onDryer hk (fun _ _ _ _ hk => hk.putDryer.doneE)

theorem Keeps.setRateEff {n : Nat} {c : Cmd} (hk : Keeps line s₀ s) : Keeps line s₀ (setRateEff n c s).st :=
  .effIf hk (fun _ _ _ hk => .onDryer hk (fun _ _ _ _ hk => .iteNext (fun _ => hk.putDryer.doneE) fun _ => hk.refuse))

theorem Keeps.setTargetEff {n : Nat} {c : Cmd} (hk : Keeps line s₀ s) : Keeps line s₀ (setTargetEff n c s).st :=
  .onDryer hk (fun _ _ _ _ hk => (by
    split
    exacts [hk.refuse, hk.putDryer.doneE]))

theorem Keeps.onZone {f : Bytes → HeatZone → Cmd → State → Next} {n : Nat} {c : Cmd} (hk : Keeps line s₀ s)
    (hf : ∀ n x y s, Keeps line s₀ s → Keeps line s₀ (f n x y s).st) :
    Keeps line s₀ (onZone f n c s).st := by
  unfold Machine.onZone
  split
  exacts [hf _ _ _ _ hk, hk.refuse]

theorem Keeps.putZone {i : Nat} {z : HeatZone} (hk : Keeps line s₀ s) : Keeps line s₀ (s.putZone i z) := hk.setPlant

theorem Keeps.heatPermitEff {n : Nat} {c : Cmd} (hk : Keeps line s₀ s) : Keeps line s₀ (heatPermitEff n c s).st :=
  .onZone hk (fun _ _ _ _ hk => (by
    split
    · exact hk.putZone.doneE
    · split
      · exact hk.refuse
      · exact .iteNext (fun _ => hk.refuse) fun _ => .iteNext (fun _ => hk.refuse) fun _ => hk.putZone.putDryer.doneE))

theorem Keeps.heatOverrideEff {n : Nat} {c : Cmd} (hk : Keeps line s₀ s) : Keeps line s₀ (heatOverrideEff n c s).st :=
  .onZone hk (fun _ _ _ _ hk => hk.putZone.doneE)

theorem Keeps.setPlenumEff {n : Nat} {c : Cmd} (hk : Keeps line s₀ s) : Keeps line s₀ (setPlenumEff n c s).st :=
  .effIf hk (fun _ _ _ hk => .onZone hk (fun _ _ _ _ hk => hk.putZone.doneE))

theorem Keeps.routeStartEff {n : Nat} {c : Cmd} (hk : Keeps line s₀ s) : Keeps line s₀ (routeStartEff n c s).st := by
  unfold Machine.routeStartEff
  split
  · split
    exacts [hk.refuse, hk.setPlant.doneE]
  · exact hk.refuse

theorem Keeps.routeStopEff {n : Nat} {c : Cmd} (hk : Keeps line s₀ s) : Keeps line s₀ (routeStopEff n c s).st := by
  unfold Machine.routeStopEff
  split
  exacts [hk.setPlant.doneE, hk.refuse]

theorem Keeps.batchControlEff {n : Nat} {c : Cmd} (hk : Keeps line s₀ s) : Keeps line s₀ (batchControlEff n c s).st :=
  .onDryer hk (fun _ _ _ _ hk => .iteNext (fun _ => hk.refuse)
    fun _ => .iteNext (fun _ => .iteNext (fun _ => hk.refuse) fun _ => .iteNext (fun _ => hk.refuse)
      fun _ => hk.setPlant.doneE) fun _ => .iteNext (fun _ => .iteNext (fun _ => hk.refuse)
        fun _ => .iteNext (fun _ => hk.refuse) fun _ => hk.setPlant.doneE) fun _ => .iteNext (fun _ => hk.refuse)
          fun _ => .iteNext (fun _ => hk.putDryer.doneE)
            fun _ => .iteNext (fun _ => .iteNext (fun _ => hk.setPlant.doneE) fun _ => hk.setPlant.doneE) fun _ => hk.refuse)

theorem Keeps.dryRearmEff {n : Nat} {c : Cmd} (hk : Keeps line s₀ s) : Keeps line s₀ (dryRearmEff n c s).st :=
  .onDryer hk (fun _ _ _ _ hk => .iteNext (fun _ => hk.refuse) fun _ => .iteNext (fun _ => hk.refuse) fun _ => hk.putDryer.doneE)

theorem Keeps.dryStatus {c : Cmd} (hk : Keeps line s₀ s) : Keeps line s₀ (dryStatus c s).st := by
  unfold Machine.dryStatus
  split
  exacts [hk.okResult, hk.refuse]

theorem Keeps.decisionRead {c : Cmd} (hk : Keeps line s₀ s) : Keeps line s₀ (decisionRead c s).st := by
  unfold Machine.decisionRead
  split
  exacts [hk.answer, hk.refuse]

theorem Keeps.routeStatus {c : Cmd} (hk : Keeps line s₀ s) : Keeps line s₀ (routeStatus c s).st := by
  unfold Machine.routeStatus
  split
  exacts [hk.okResult, hk.refuse]

/-! StoCmds -/

theorem Keeps.putBin {x : BinSt} (hk : Keeps line s₀ s) : Keeps line s₀ (s.putBin x) := hk.setPlant

theorem Keeps.onBin {f : BinSt → Cmd → State → Next} {n : Nat} {c : Cmd} (hk : Keeps line s₀ s)
    (hf : ∀ n x s, Keeps line s₀ s → Keeps line s₀ (f n x s).st) :
    Keeps line s₀ (onBin f n c s).st := by
  unfold Machine.onBin
  split
  exacts [hf _ _ _ hk, hk.refuse]

theorem Keeps.stoStatus {c : Cmd} (hk : Keeps line s₀ s) : Keeps line s₀ (stoStatus c s).st := by
  unfold Machine.stoStatus
  split
  exacts [hk.okResult, hk.refuse]

theorem Keeps.sensorRead {c : Cmd} (hk : Keeps line s₀ s) : Keeps line s₀ (sensorRead c s).st := by
  unfold Machine.sensorRead
  split
  exacts [hk.answer, hk.refuse]

theorem Keeps.budgetRead {c : Cmd} (hk : Keeps line s₀ s) : Keeps line s₀ (budgetRead c s).st := by
  unfold Machine.budgetRead
  split
  exacts [hk.okResult, hk.refuse]

theorem Keeps.aerationModeEff {n : Nat} {c : Cmd} (hk : Keeps line s₀ s) : Keeps line s₀ (aerationModeEff n c s).st :=
  .onBin hk (fun _ _ _ hk => hk.putBin.doneE)

theorem Keeps.aerationForceEff {n : Nat} {c : Cmd} (hk : Keeps line s₀ s) : Keeps line s₀ (aerationForceEff n c s).st :=
  .onBin hk (fun _ _ _ hk => hk.putBin.doneE)

theorem Keeps.stoAckEff {n : Nat} {c : Cmd} (hk : Keeps line s₀ s) : Keeps line s₀ (stoAckEff n c s).st :=
  .effIf hk (fun _ _ _ hk => .onBin hk (fun _ _ _ hk => .iteNext (fun _ => hk.refuse) fun _ => hk.putBin.doneE))

theorem Keeps.canSend {ch : Nat} {f : CanFrame} (hk : Keeps line s₀ s) : Keeps line s₀ (canSend ch f s) := by
  unfold Machine.canSend
  split
  exacts [hk.setCan, hk]

theorem Keeps.cableRequest {cmd : Nat} (hk : Keeps line s₀ s) : Keeps line s₀ (cableRequest cmd s) := by
  unfold Machine.cableRequest
  split
  exacts [hk, .canSend (.same hk rfl rfl)]

theorem Keeps.putNode {i : Nat} {f : NodeSt → NodeSt} (hk : Keeps line s₀ s) : Keeps line s₀ (s.putNode i f) := .same hk rfl rfl

theorem Keeps.staleFrame (hk : Keeps line s₀ s) : Keeps line s₀ (staleFrame s) := .same hk rfl rfl

theorem Keeps.cableReceive {stamp : Nat} {f : CanFrame} (hk : Keeps line s₀ s) : Keeps line s₀ (cableReceive stamp f s) := by
  unfold Machine.cableReceive
  dsimp only
  split
  · exact hk.staleFrame
  · exact .ite (fun _ => hk.staleFrame) fun _ => .ite (fun _ => hk.putNode) fun _ => .ite (fun _ => hk.staleFrame)
      fun _ => .foldl (fun _ _ => .intake) hk.putNode

theorem Keeps.nodesJudge (hk : Keeps line s₀ s) : Keeps line s₀ (nodesJudge s) := .ite (fun _ => hk) fun _ => .raises (.same hk rfl rfl)

theorem Keeps.nodeScan {c : Cmd} (hk : Keeps line s₀ s) : Keeps line s₀ (nodeScan c s).st :=
  .iteNext (fun _ => hk.refuse) fun _ => .wait (.cableRequest (.same hk rfl rfl))

theorem Keeps.finishScan {c : Cmd} (hk : Keeps line s₀ s) : Keeps line s₀ (finishScan c s) :=
  .ite (fun _ => hk.putData.finish) fun _ => hk.finish

theorem Keeps.scanOver (hk : Keeps line s₀ s) : Keeps line s₀ (scanOver s) := by
  unfold Machine.scanOver
  split
  exacts [hk, .ite (fun _ => hk) fun _ => .foldl (fun _ _ => .finishScan) (.same hk rfl rfl)]

theorem Keeps.cableStart (hk : Keeps line s₀ s) : Keeps line s₀ (cableStart s) := by
  unfold Machine.cableStart
  split
  exacts [hk, .same (.cableRequest (.same hk rfl rfl)) rfl rfl]

/-! CanCmds -/

theorem Keeps.canRecords {ch : Nat} {b : List Bytes} (hk : Keeps line s₀ s) : Keeps line s₀ (canRecords ch b s) := hk.devPut

theorem Keeps.rxDrain {ch : Nat} (hk : Keeps line s₀ s) : Keeps line s₀ (rxDrain ch s) := .foldl (fun _ _ => .canRecords) hk.setCan

theorem Keeps.mirror {ch b : Nat} (hk : Keeps line s₀ s) : Keeps line s₀ (mirror ch b s) := by
  unfold Machine.mirror
  dsimp only
  split
  exacts [hk, .ite (fun _ => hk) fun _ => .foldl (fun _ _ => .post) hk]

theorem Keeps.canEffects {ch stamp : Nat} {e : CanEff} (hk : Keeps line s₀ s) : Keeps line s₀ (canEffects ch stamp e s) :=
  .raises (.rxDrain (.foldl (fun _ _ => .canRecords) (.foldl (fun _ _ => .mirror) (.foldl (fun _ _ => .intake) hk))))

theorem Keeps.canStep {ch stamp : Nat} {f : CanCh → CanCh × CanEff} (hk : Keeps line s₀ s) : Keeps line s₀ (canStep ch stamp f s) :=
  hk.setCan.canEffects

theorem Keeps.cancelsDone (hk : Keeps line s₀ s) : Keeps line s₀ (cancelsDone s) := by
  unfold Machine.cancelsDone
  refine .foldl (fun s y hk => ?_) hk
  split
  exacts [hk.finish, hk]

theorem Keeps.claimsLost {ch : Nat} (hk : Keeps line s₀ s) : Keeps line s₀ (claimsLost ch s) :=
  .ite (fun _ => hk) fun _ => .foldl (fun _ _ => .finish) hk

theorem Keeps.canStatus {c : Cmd} (hk : Keeps line s₀ s) : Keeps line s₀ (canStatus c s).st :=
  .iteNext (fun _ => hk.refuse) fun _ => hk.okResult

theorem Keeps.canStrangers {c : Cmd} (hk : Keeps line s₀ s) : Keeps line s₀ (canStrangers c s).st :=
  .iteNext (fun _ => hk.refuse) fun _ => .iteNext (fun _ => hk.refuse) fun _ => .answer (.ite (fun _ => hk.setCan) fun _ => hk)

theorem Keeps.canTxCancel {c : Cmd} (hk : Keeps line s₀ s) : Keeps line s₀ (canTxCancel c s).st := by
  unfold Machine.canTxCancel
  dsimp only
  split
  · exact hk.refuse
  · split
    · exact .iteNext (fun _ => .wait hk.setCan) fun _ => hk.canStep.okResult
    · split
      exacts [.done hk, hk.refuse]

theorem Keeps.canRecover {c : Cmd} (hk : Keeps line s₀ s) : Keeps line s₀ (canRecover c s).st := by
  unfold Machine.canRecover
  split
  exacts [hk.refuse, .iteNext (fun _ => hk.refuse) fun _ => hk.setCan.okResult]

theorem Keeps.canClaim {c : Cmd} (hk : Keeps line s₀ s) : Keeps line s₀ (canClaim c s).st := by
  unfold Machine.canClaim
  split
  exacts [hk.refuse, .iteNext (fun _ => hk.refuse) fun _ => .wait hk.setCan]

theorem Keeps.canRelease {c : Cmd} (hk : Keeps line s₀ s) : Keeps line s₀ (canRelease c s).st :=
  .iteNext (fun _ => hk.refuse) fun _ => hk.setCan.claimsLost.okResult

/-! Dies -/

theorem Keeps.pushRec {k t : Nat} {b : RecBody} (hk : Keeps line s₀ s) : Keeps line s₀ (pushRec k t b s) :=
  .ite (fun _ => hk.setFar) fun _ => hk.setFar

theorem Keeps.pushRecs {k t : Nat} {l : List RecBody} (hk : Keeps line s₀ s) : Keeps line s₀ (pushRecs k t l s) :=
  .foldl (fun _ _ => .pushRec) hk

theorem Keeps.putSense {q : SenseSt × List RecBody} (hk : Keeps line s₀ s) : Keeps line s₀ (putSense q s) := .pushRecs (.same hk rfl rfl)

theorem Keeps.onSense {f : SenseSt → SenseSt} (hk : Keeps line s₀ s) : Keeps line s₀ (onSense f s) := .same hk rfl rfl

theorem Keeps.senseRelease (hk : Keeps line s₀ s) : Keeps line s₀ (senseRelease s) := .pushRecs (.same hk rfl rfl)

theorem Keeps.releaseDue (hk : Keeps line s₀ s) : Keeps line s₀ (releaseDue s) := .foldl (fun _ _ => .senseRelease) hk

theorem Keeps.putPower {p : PowerSt} (hk : Keeps line s₀ s) : Keeps line s₀ (putPower p s) := .pushRecs (.same hk.countPower rfl rfl)

theorem Keeps.onPower {f : PowerSt → PowerSt} (hk : Keeps line s₀ s) : Keeps line s₀ (onPower f s) := hk.putPower

theorem Keeps.putIo {q : IoSt × List RecBody} (hk : Keeps line s₀ s) : Keeps line s₀ (putIo q s) := .pushRecs (.same hk.countIo rfl rfl)

theorem Keeps.onIo {f : IoSt → IoSt} (hk : Keeps line s₀ s) : Keeps line s₀ (onIo f s) := hk.putIo

/-- The clear of one channel keeps its state where `f` does. -/
theorem Keeps.clearOne {f : Bool → State → Option (State × Nat)} {x : Clearing} (hk : Keeps line s₀ x.s)
    (hf : ∀ o s q, f o s = some q → Keeps line s₀ s → Keeps line s₀ q.1) : Keeps line s₀ (clearOne f x).s := by
  unfold Machine.clearOne
  split
  exacts [hf _ _ _ ‹_› hk.used, hk.used]

theorem Keeps.clearOnes {f : Nat → Bool → State → Option (State × Nat)} {chs : List Nat} {x : Clearing} (hk : Keeps line s₀ x.s)
    (hf : ∀ ch o s q, f ch o s = some q → Keeps line s₀ s → Keeps line s₀ q.1) :
    Keeps line s₀ (chs.foldl (fun a ch => Machine.clearOne (f ch) a) x).s := by
  induction chs generalizing x with
  | nil => exact hk
  | cons ch chs ih => exact ih (hk.clearOne (hf ch))

theorem Keeps.clearMany {present : Nat} {chs : List Nat} {f : Nat → Bool → State → Option (State × Nat)} (hk : Keeps line s₀ s)
    (hf : ∀ ch o s q, f ch o s = some q → Keeps line s₀ s → Keeps line s₀ q.1) : Keeps line s₀ (clearMany present chs f s).st :=
  .iteNext (fun _ => .refuse (.clearOnes hk hf)) fun _ => .okResult (.clearOnes hk hf)

/-! FieldCmds -/

theorem Keeps.setSets {f : FieldSet} (hk : Keeps line s₀ s) : Keeps line s₀ (s.setSets f) := .same hk rfl rfl

theorem Keeps.vlvStatus {c : Cmd} (hk : Keeps line s₀ s) : Keeps line s₀ (vlvStatus c s).st := by
  unfold Machine.vlvStatus
  split
  exacts [hk.refuse, hk.okResult]

theorem Keeps.vlvForceEff {n : Nat} {c : Cmd} (hk : Keeps line s₀ s) : Keeps line s₀ (vlvForceEff n c s).st :=
  .effIf hk (fun _ _ _ hk => .iteNext (fun _ => hk.refuse) fun _ => hk.setSets.doneE)

theorem Keeps.vlvClearAt {ch : Nat} {holds : Bool} {q : State × Nat} (e : vlvClearAt ch holds s = some q) (hk : Keeps line s₀ s) :
    Keeps line s₀ q.1 := by
  obtain ⟨p, -, rfl⟩ := Option.map_eq_some_iff.mp e
  exact hk.putPower

theorem Keeps.vlvClear {c : Cmd} (hk : Keeps line s₀ s) : Keeps line s₀ (vlvClear c s).st :=
  .iteNext (fun _ => hk.refuse) fun _ => .iteNext (fun _ => hk.refuse) fun _ => hk.clearMany fun _ _ _ _ => .vlvClearAt

theorem Keeps.vlvTherm {c : Cmd} (hk : Keeps line s₀ s) : Keeps line s₀ (vlvTherm c s).st := by
  unfold Machine.vlvTherm
  split
  exacts [hk.refuse, .iteNext (fun _ => hk.refuse) fun _ => hk.answer]

theorem Keeps.fanStatus {c : Cmd} (hk : Keeps line s₀ s) : Keeps line s₀ (fanStatus c s).st := by
  unfold Machine.fanStatus
  split
  exacts [hk.refuse, hk.okResult]

theorem Keeps.onFan {f : FanCmd → FanCmd} {c : Cmd} (hk : Keeps line s₀ s) : Keeps line s₀ (onFan f c s).st :=
  .iteNext (fun _ => hk.refuse) fun _ => hk.setSets.doneE

theorem Keeps.fanSetEff {n : Nat} {c : Cmd} (hk : Keeps line s₀ s) : Keeps line s₀ (fanSetEff n c s).st :=
  .effIf hk fun _ _ _ => .onFan

theorem Keeps.fanForceEff {n : Nat} {c : Cmd} (hk : Keeps line s₀ s) : Keeps line s₀ (fanForceEff n c s).st :=
  .effIf hk fun _ _ _ => .onFan

theorem Keeps.fanJudged {c : Instr} (hk : Keeps line s₀ s) : Keeps line s₀ (fanJudged c s) := by
  unfold Machine.fanJudged
  split
  exacts [hk.onPower, hk.onPower, hk]

theorem Keeps.fanJudgedFirst {ch : Nat} (hk : Keeps line s₀ s) : Keeps line s₀ (fanJudgedFirst ch s) :=
  .foldl (fun _ _ => .fanJudged) hk

theorem Keeps.fanClearAt {ch : Nat} {holds : Bool} {q : State × Nat} (e : fanClearAt ch holds s = some q) (hk : Keeps line s₀ s) :
    Keeps line s₀ q.1 := by
  unfold Machine.fanClearAt at e
  dsimp only at e
  split at e
  · obtain rfl := Option.some.inj e
    exact hk.fanJudgedFirst
  · obtain ⟨p, -, rfl⟩ := Option.map_eq_some_iff.mp e
    exact hk.fanJudgedFirst.putPower

theorem Keeps.fanClearCmd {c : Cmd} (hk : Keeps line s₀ s) : Keeps line s₀ (fanClearCmd c s).st :=
  .iteNext (fun _ => hk.refuse) fun _ => .iteNext (fun _ => hk.refuse) fun _ => hk.clearMany fun _ _ _ _ => .fanClearAt

theorem Keeps.fanLoopSetEff {n : Nat} {c : Cmd} (hk : Keeps line s₀ s) : Keeps line s₀ (fanLoopSetEff n c s).st :=
  .effIf hk fun _ _ _ => .onFan

theorem Keeps.commitBins (hk : Keeps line s₀ s) : Keeps line s₀ (commitBins s).1 := by
  unfold Machine.commitBins
  split
  exacts [.itePair (fun _ => .fst hk) fun _ => hk.storeFans, .fst hk]

theorem Keeps.fanLearn {c : Cmd} (hk : Keeps line s₀ s) : Keeps line s₀ (fanLearn c s).st := by
  unfold Machine.fanLearn
  dsimp only
  split
  · exact hk.refuse
  · exact hk.refuse
  · exact .iteNext (fun _ => hk.refuse) fun _ => .iteNext (fun _ => hk.refuse)
      fun _ => .iteNext (fun _ => .answer (.commitBins (.ite (fun _ => hk.putPower) fun _ => hk)))
        fun _ => .refuse (.commitBins (.ite (fun _ => hk.putPower) fun _ => hk))

theorem Keeps.uioStatus {c : Cmd} (hk : Keeps line s₀ s) : Keeps line s₀ (uioStatus c s).st := by
  unfold Machine.uioStatus
  split
  exacts [hk.refuse, hk.okResult]

theorem Keeps.onUio {f : UioCmd → UioCmd} {c : Cmd} (hk : Keeps line s₀ s) : Keeps line s₀ (onUio f c s).st :=
  .iteNext (fun _ => hk.refuse) fun _ => hk.setSets.doneE

theorem Keeps.uioSetEff {n : Nat} {c : Cmd} (hk : Keeps line s₀ s) : Keeps line s₀ (uioSetEff n c s).st :=
  .effIf hk fun _ _ _ => .onUio

theorem Keeps.uioForceEff {n : Nat} {c : Cmd} (hk : Keeps line s₀ s) : Keeps line s₀ (uioForceEff n c s).st :=
  .effIf hk fun _ _ _ => .onUio

theorem Keeps.uioClearAt {ch : Nat} {holds : Bool} {q : State × Nat} (e : uioClearAt ch holds s = some q) (hk : Keeps line s₀ s) :
    Keeps line s₀ q.1 := by
  obtain ⟨p, -, rfl⟩ := Option.map_eq_some_iff.mp e
  exact hk.putIo

theorem Keeps.uioClearCmd {c : Cmd} (hk : Keeps line s₀ s) : Keeps line s₀ (uioClearCmd c s).st :=
  .iteNext (fun _ => hk.refuse) fun _ => .iteNext (fun _ => hk.refuse) fun _ => hk.clearMany fun _ _ _ _ => .uioClearAt

theorem Keeps.uioSupply {c : Cmd} (hk : Keeps line s₀ s) : Keeps line s₀ (uioSupply c s).st :=
  .iteNext (fun _ => hk.refuse) fun _ => hk.used.used.used.used.answer

/-! SenseCmds -/

theorem Keeps.senRead {c : Cmd} (hk : Keeps line s₀ s) : Keeps line s₀ (senRead c s).st := by
  unfold Machine.senRead
  split
  exacts [hk.answer, hk.refuse]

theorem Keeps.cswRead {c : Cmd} (hk : Keeps line s₀ s) : Keeps line s₀ (cswRead c s).st := hk.okResult

theorem Keeps.senCounts {c : Cmd} (hk : Keeps line s₀ s) : Keeps line s₀ (senCounts c s).st := hk.okResult

theorem Keeps.checkRead {c : Cmd} (hk : Keeps line s₀ s) : Keeps line s₀ (checkRead c s).st := hk.answer

theorem Keeps.seqRequest {c : Cmd} (hk : Keeps line s₀ s) : Keeps line s₀ (seqRequest c s).st := by
  unfold Machine.seqRequest
  dsimp only
  split
  · exact hk.refuse
  · exact .iteNext (fun _ => hk.refuse) fun _ => .iteNext (fun _ => hk.refuse)
      fun _ => .iteNext (fun _ => hk.refuse) fun _ => .iteNext (fun _ => hk.refuse) fun _ => .wait (.same hk rfl rfl)

theorem Keeps.cswClear {c : Cmd} (hk : Keeps line s₀ s) : Keeps line s₀ (cswClear c s).st :=
  .iteNext (fun _ => hk.refuse) fun _ => .iteNext (fun _ => hk.refuse) fun _ => .wait (.same hk rfl rfl)

theorem Keeps.moistSpectrum {c : Cmd} (hk : Keeps line s₀ s) : Keeps line s₀ (moistSpectrum c s).st := by
  unfold Machine.moistSpectrum
  split
  exacts [hk.refuse, .iteNext (fun _ => hk.refuse) fun _ => hk.answer]

theorem Keeps.moistEmpty {c : Cmd} (hk : Keeps line s₀ s) : Keeps line s₀ (moistEmpty c s).st := by
  unfold Machine.moistEmpty
  split
  · exact hk.refuse
  · exact .iteNext (fun _ => hk.refuse) fun _ => .iteNext (fun _ => hk.refuse)
      fun _ => .iteNext (fun _ => hk.refuse) fun _ => .wait hk.onSense

theorem Keeps.finishEmpty {c : Cmd} (hk : Keeps line s₀ s) : Keeps line s₀ (finishEmpty c s) := by
  unfold Machine.finishEmpty
  split
  exacts [hk.finish, .ite (fun _ => hk.onSense.putData.finish) fun _ => hk]

theorem Keeps.checkRun {c : Cmd} (hk : Keeps line s₀ s) : Keeps line s₀ (checkRun c s).st := by
  unfold Machine.checkRun
  dsimp only
  split
  exacts [hk.refuse, .iteNext (fun _ => hk.refuse) fun _ => .wait hk.onSense]

theorem Keeps.storeDropBase {pin : Nat} (hk : Keeps line s₀ s) : Keeps line s₀ (storeDropBase pin s) := by
  unfold Machine.storeDropBase
  split
  exacts [.ite (fun _ => hk) fun _ => hk.storeBase, hk]

theorem Keeps.checkBaseline {c : Cmd} (hk : Keeps line s₀ s) : Keeps line s₀ (checkBaseline c s).st :=
  .iteNext (fun _ => hk.refuse) fun _ => hk.onSense.storeDropBase.okResult

theorem Keeps.linTest {c : Cmd} (hk : Keeps line s₀ s) : Keeps line s₀ (linTest c s).st := by
  unfold Machine.linTest
  split
  exacts [hk.refuse, .iteNext (fun _ => hk.refuse) fun _ => .iteNext (fun _ => hk.refuse) fun _ => hk.okResult]

theorem Keeps.senseSweep (hk : Keeps line s₀ s) : Keeps line s₀ (senseSweep s) := .foldl (fun _ _ => .finish) hk

theorem Keeps.dropRequests (hk : Keeps line s₀ s) : Keeps line s₀ (dropRequests s) :=
  .ite (fun _ => .senseSweep (.same hk rfl rfl)) fun _ => hk.senseSweep

/-! Settings -/

theorem Keeps.commitLearn (hk : Keeps line s₀ s) : Keeps line s₀ (commitLearn s).1 := by
  unfold Machine.commitLearn
  split
  exacts [hk.storeLearn, .fst hk]

theorem Keeps.commitStore (hk : Keeps line s₀ s) : Keeps line s₀ (commitStore s).1 := by
  unfold Machine.commitStore
  split
  exacts [hk.storeStore, .fst hk]

theorem Keeps.commitFans {bins : List (Nat × List FanBin)} (hk : Keeps line s₀ s) : Keeps line s₀ (commitFans bins s).1 := by
  unfold Machine.commitFans
  split
  exacts [hk.storeFans, .fst hk]

theorem Keeps.commitItems (hk : Keeps line s₀ s) : Keeps line s₀ (commitItems s) := hk.commitLearn.commitStore.commitBins

theorem Keeps.periodicCommit (hk : Keeps line s₀ s) : Keeps line s₀ (periodicCommit s) :=
  .ite (fun _ => .commitBins (.ite (fun _ => .commitStore (.commitLearn (.same hk rfl rfl))) fun _ => .commitLearn (.same hk rfl rfl))) fun _ => hk

theorem Keeps.commitAll {bins : List (Nat × List FanBin)} (hk : Keeps line s₀ s) : Keeps line s₀ (commitAll bins s).1 := by
  unfold Machine.commitAll
  split
  · exact .fst (.ofPair ‹_› hk.commitLearn)
  · split
    · exact .fst (.ofPair ‹_› (.commitStore (.ofPair ‹_› hk.commitLearn)))
    · split
      exacts [.fst (.ofPair ‹_› (.commitFans (.ofPair ‹_› (.commitStore (.ofPair ‹_› hk.commitLearn)))))]

theorem Keeps.clearLearned (hk : Keeps line s₀ s) : Keeps line s₀ (clearLearned s) :=
  .ite (fun _ => .same hk rfl rfl) fun _ => .onPower (.same hk rfl rfl)

theorem Keeps.clearDies {k : Nat} (hk : Keeps line s₀ s) : Keeps line s₀ (clearDies k s) :=
  .ite (fun _ => .ite (fun _ => hk) fun _ => hk.storeBase) fun _ => .storeFans (.ite (fun _ => hk) fun _ => hk.storeBase)

theorem Keeps.datumGovern {d : Datum} (hk : Keeps line s₀ s) : Keeps line s₀ (datumGovern d s) := by
  unfold Machine.datumGovern
  refine .chainRestart ?_
  refine .linRefresh ?_
  refine .same ?_ rfl rfl
  refine .loadMaint ?_
  refine .same ?_ rfl (by simp)
  split
  exacts [hk.cutPeriods.clearDies, hk.cutPeriods]

theorem Keeps.configsGovern {n : Nat} (hk : Keeps line s₀ s) : Keeps line s₀ (configsGovern n s) := by
  unfold Machine.configsGovern
  refine .foldl (fun s y hk => ?_) (.same hk rfl rfl)
  split
  exacts [hk.datumGovern, hk.legendGovern]

/-! Update -/

theorem Keeps.slotWrite {k a : Nat} {b : Bytes} (hk : Keeps line s₀ s) : Keeps line s₀ (slotWrite k a b s).1 := by
  refine .updSlots rfl hk.writeRange (fun h => ?_) (fun h => ?_) rfl rfl rfl rfl rfl rfl rfl rfl <;> dsimp only <;> split
  exacts [memWrite_wf h .., h, h, memWrite_wf h ..]

theorem Keeps.storeBoot {b : BootRec} (hk : Keeps line s₀ s) : Keeps line s₀ (storeBoot b s).1 := .fst (.same hk.storeTwo rfl rfl)

theorem Keeps.storeFloor {v : Nat} (hk : Keeps line s₀ s) : Keeps line s₀ (storeFloor v s).1 := .fst (.same hk.storeTwo rfl rfl)

theorem Keeps.storeSession {x : Session} (hk : Keeps line s₀ s) : Keeps line s₀ (storeSession x s).1 := .fst (.same hk.storeTwo rfl rfl)

theorem Keeps.storeBitmap {v : Nat} (hk : Keeps line s₀ s) : Keeps line s₀ (storeBitmap v s).1 :=
  .fst (.ite (fun _ => .same hk.writeRange rfl rfl) fun _ => hk.writeRange)

theorem Keeps.storeBit {k : Nat} (hk : Keeps line s₀ s) : Keeps line s₀ (storeBit k s).1 :=
  .fst (.ite (fun _ => .same hk.writeRange rfl rfl) fun _ => hk.writeRange)

theorem Keeps.openSession {h : Bytes} {path : Nat} (hk : Keeps line s₀ s) : Keeps line s₀ (openSession h path s).1 := by
  unfold Machine.openSession
  dsimp only
  split
  · exact .fst (.ofPair ‹_› hk.storeSession)
  · split
    · exact .fst (.ofPair ‹_› (.storeBitmap (.ofPair ‹_› hk.storeSession)))
    · split
      · exact .fst (.ofPair ‹_› (.slotWrite (.ofPair ‹_› (.storeBitmap (.ofPair ‹_› hk.storeSession)))))
      · exact .storeSession (.ofPair ‹_› (.slotWrite (.ofPair ‹_› (.storeBitmap (.ofPair ‹_› hk.storeSession)))))

theorem Keeps.beginSession {path : Nat} {c : Cmd} (hk : Keeps line s₀ s) : Keeps line s₀ (beginSession path c s).st :=
  .iteNext (fun _ => hk.okResult) fun _ => .iteNext (fun _ => hk.openSession.okResult) fun _ => hk.openSession.refuse

theorem Keeps.updBegin {c : Cmd} (hk : Keeps line s₀ s) : Keeps line s₀ (updBegin c s).st :=
  .iteNext (fun _ => hk.refuse) fun _ => by split; exacts [hk.refuse, hk.beginSession]

theorem Keeps.putBlock {k : Nat} {b : Bytes} (hk : Keeps line s₀ s) : Keeps line s₀ (putBlock k b s).1 := by
  unfold Machine.putBlock
  split
  exacts [.fst (.ofPair ‹_› hk.slotWrite), .storeBit (.ofPair ‹_› hk.slotWrite)]

theorem Keeps.updBlock {c : Cmd} (hk : Keeps line s₀ s) : Keeps line s₀ (updBlock c s).st :=
  .iteNext (fun _ => hk.refuse) fun _ => .iteNext (fun _ => hk.refuse) fun _ => .iteNext (fun _ => hk.refuse)
    fun _ => .iteNext (fun _ => hk.okResult) fun _ => .iteNext (fun _ => hk.putBlock.okResult) fun _ => hk.putBlock.refuse

theorem Keeps.updStatus {c : Cmd} (hk : Keeps line s₀ s) : Keeps line s₀ (updStatus c s).st := hk.okResult

theorem Keeps.updBitmap {c : Cmd} (hk : Keeps line s₀ s) : Keeps line s₀ (updBitmap c s).st := hk.answer

theorem Keeps.updApply {c : Cmd} (hk : Keeps line s₀ s) : Keeps line s₀ (updApply c s).st :=
  .iteNext (fun _ => hk.refuse) fun _ => .iteNext (fun _ => hk.refuse) fun _ => .wait (.ledgerMap (.same hk rfl rfl))

theorem Keeps.readSlot {k a n : Nat} (hk : Keeps line s₀ s) : Keeps line s₀ (readSlot k a n s).1 := by
  unfold Machine.readSlot
  split
  exacts [.fst hk.ueFound, .fst hk]

theorem Keeps.buildImage {h : Bytes} (hk : Keeps line s₀ s) : Keeps line s₀ (buildImage h s).1 := by
  unfold Machine.buildImage
  dsimp only
  split
  · split
    exacts [.fst (.ofPair ‹_› hk.slotWrite), .fst (.ofPair ‹_› hk.slotWrite)]
  · exact .fst hk

theorem Keeps.applyWork {c : Cmd} (hk : Keeps line s₀ s) : Keeps line s₀ (applyWork c s).st := by
  unfold Machine.applyWork
  extract_lets _ free session header body
  have hbody : Keeps line s₀ body.1 := .readSlot (.same hk rfl rfl)
  split
  · exact hbody.storeBitmap.refuse
  · have hbuilt := hbody.buildImage (h := header)
    split
    · exact .refuse (.ofPair ‹_› hbuilt)
    · have himage : Keeps line s₀ _ := .ofPair ‹_› hbuilt
      extract_lets image
      have hread : Keeps line s₀ image.1 := himage.readSlot
      split
      · exact hread.refuse
      · exact .iteNext (fun _ => hread.ledTarget.storeSession.done) fun _ => hread.ledTarget.storeSession.refuse

theorem Keeps.orderReset {at' : Nat} (hk : Keeps line s₀ s) : Keeps line s₀ (orderReset at' s) := .same hk rfl rfl

theorem Keeps.updActivate {c : Cmd} (hk : Keeps line s₀ s) : Keeps line s₀ (updActivate c s).st := by
  unfold Machine.updActivate
  dsimp only
  split
  · exact hk.refuse
  · split
    · exact hk.refuse
    · split
      · exact .refuse (.ofPair ‹_› hk.ledTarget.storeBoot)
      · exact .okResult (.ite (fun _ => .orderReset (.storeSession (.ofPair ‹_› hk.ledTarget.storeBoot)))
          fun _ => .storeSession (.ofPair ‹_› hk.ledTarget.storeBoot))

theorem Keeps.confirm (hk : Keeps line s₀ s) : Keeps line s₀ (confirm s).1 := by
  unfold Machine.confirm
  dsimp only
  split
  exacts [.fst (.ofPair ‹_› hk.storeBoot), .fst (.raise (.storeFloor (.same (.ofPair ‹_› hk.storeBoot) rfl rfl)))]

theorem Keeps.updConfirm {c : Cmd} (hk : Keeps line s₀ s) : Keeps line s₀ (updConfirm c s).st :=
  .iteNext (fun _ => hk.refuse) fun _ => .iteNext (fun _ => hk.refuse)
    fun _ => by split; exacts [.okResult (.ofPair ‹_› hk.ledTarget.confirm), .refuse (.ofPair ‹_› hk.ledTarget.confirm)]

theorem Keeps.fallBack {cause : Nat} {b : BootRec} (hk : Keeps line s₀ s) : Keeps line s₀ (fallBack cause b s) :=
  .orderReset (.raise (.same hk.storeBoot rfl rfl))

theorem Keeps.updFallback {c : Cmd} (hk : Keeps line s₀ s) : Keeps line s₀ (updFallback c s).st :=
  .iteNext (fun _ => hk.refuse) fun _ => .iteNext (fun _ => hk.refuse) fun _ => hk.fallBack.okResult

theorem Keeps.updCancel {c : Cmd} (hk : Keeps line s₀ s) : Keeps line s₀ (updCancel c s).st :=
  .iteNext (fun _ => hk.refuse) fun _ => .iteNext (fun _ => hk.refuse)
    fun _ => by split; exacts [.okResult (.ofPair ‹_› hk.storeSession), .refuse (.ofPair ‹_› hk.storeSession)]

theorem Keeps.trialEnd (hk : Keeps line s₀ s) : Keeps line s₀ (trialEnd s) := .ite (fun _ => hk.fallBack) fun _ => hk

theorem Keeps.confirmCommand {d : Desc} (hk : Keeps line s₀ s) : Keeps line s₀ (confirmCommand d s) :=
  .ite (fun _ => hk.trialEnd) fun _ => .command hk fun _ _ => .updConfirm

theorem Keeps.stageRefuse {st code : Nat} (hk : Keeps line s₀ s) : Keeps line s₀ (stageRefuse st code s).st := .done hk

theorem Keeps.stageBegin {c : Cmd} (hk : Keeps line s₀ s) : Keeps line s₀ (stageBegin c s).st :=
  .iteNext (fun _ => hk.stageRefuse) fun _ => by split; exacts [hk.stageRefuse, hk.beginSession]

theorem Keeps.stageWrite {c : Cmd} (hk : Keeps line s₀ s) : Keeps line s₀ (stageWrite c s).st :=
  .iteNext (fun _ => hk.stageRefuse) fun _ => .iteNext (fun _ => hk.stageRefuse)
    fun _ => .iteNext (fun _ => hk.stageRefuse) fun _ => .iteNext (fun _ => hk.okResult)
      fun _ => .iteNext (fun _ => hk.putBlock.okResult) fun _ => hk.putBlock.refuse

theorem Keeps.stageCommit {c : Cmd} (hk : Keeps line s₀ s) : Keeps line s₀ (stageCommit c s).st := by
  unfold Machine.stageCommit
  split
  · exact hk.stageRefuse
  · split
    · exact hk.stageRefuse
    · split
      · exact hk.stageRefuse
      · split
        · exact hk.stageRefuse
        · split
          · exact .refuse (.ofPair ‹_› hk.ledTarget.storeBoot)
          · exact .okResult (.orderReset (.ofPair ‹_› hk.ledTarget.storeBoot))

theorem Keeps.stageStatus {c : Cmd} (hk : Keeps line s₀ s) : Keeps line s₀ (stageStatus c s).st := hk.okResult

theorem Keeps.closeSession (hk : Keeps line s₀ s) : Keeps line s₀ (closeSession s) := .ite (fun _ => hk.storeSession) fun _ => hk

theorem Keeps.runBy {b : BootRec} (hk : Keeps line s₀ s) : Keeps line s₀ (runBy b s) := .closeSession (.same hk rfl rfl)

theorem Keeps.bootStart (hk : Keeps line s₀ s) : Keeps line s₀ (bootStart s) := by
  unfold Machine.bootStart
  extract_lets _ free
  have hfree : Keeps line s₀ free := .same hk rfl rfl
  exact .ite
    (fun _ => .ite (fun _ => hfree.fallBack) fun _ => .ite (fun _ => hfree.storeBoot.runBy)
      fun _ => .ite (fun _ => hfree.storeBoot.raise.fallBack) fun _ => hfree.storeBoot.fallBack)
    fun _ => .ite (fun _ => hfree.runBy) fun _ => .ite (fun _ => hfree.raise.fallBack)
      fun _ => .ite (fun _ => .runBy (.raise (.same hfree.storeBoot rfl rfl))) fun _ => .same hfree rfl rfl

theorem Keeps.raiseFloor (hk : Keeps line s₀ s) : Keeps line s₀ (raiseFloor s) := .ite (fun _ => hk.storeFloor) fun _ => hk

theorem Keeps.migrateItem {α : Type} {get : Area → Two α} {clear : Area → Area} {put : Nat → α → State → State × Bool} {o n : Nat}
    {q : State × Bool} (hk : Keeps line s₀ q.1) (hput : ∀ n x s, Keeps line s₀ s → Keeps line s₀ (put n x s).1) :
    Keeps line s₀ (migrateItem get clear put o n q).1 := by
  unfold Machine.migrateItem
  split
  · split
    exacts [hput _ _ _ hk, hk.setArea]
  · exact hk

theorem Keeps.thenArea {n fmt slot : Nat} {q : State × Bool} (hk : Keeps line s₀ q.1) :
    Keeps line s₀ (if q.2 then Machine.storeArea n (fmt, slot) q.1 else q).1 := .itePair (fun _ => hk.storeArea) fun _ => hk

theorem Keeps.migrateInto {o n : Nat} (hk : Keeps line s₀ s) : Keeps line s₀ (migrateInto o n s).1 :=
  .thenArea ((((((Keeps.migrateItem hk.fst fun _ _ _ => .storeDatum).migrateItem fun _ _ _ => .storeLearn).migrateItem
    fun _ _ _ => .storeStore).migrateItem fun _ _ _ => .storeFans).migrateItem fun _ _ _ => .storeBase).migrateItem fun _ _ _ => .storePlan)

theorem Keeps.settleArea (hk : Keeps line s₀ s) : Keeps line s₀ (settleArea s).1 :=
  .itePair (fun _ => .fst hk)
    fun _ => .itePair (fun _ => by split; exacts [.fst hk, .itePair (fun _ => hk.migrateInto) fun _ => .fst hk])
      fun _ => .itePair (fun _ => hk.storeArea) fun _ => .fst hk

theorem Keeps.healthCheck (hk : Keeps line s₀ s) : Keeps line s₀ (healthCheck s) :=
  .ite (fun _ => .ite (fun _ => .confirm (.same hk rfl rfl)) fun _ => .same hk rfl rfl) fun _ => hk

/-! SafeCmds -/

theorem Keeps.releaseLine {n : Nat} (hk : Keeps false s₀ s) : Keeps false s₀ (releaseLine n s) :=
  .raise (.parts hk le_rfl rfl id id id id id id id id nofun)

theorem Keeps.safeRelease {c : Cmd} (hk : Keeps line s₀ s) : Keeps line s₀ (safeRelease c s).st := by
  unfold Machine.safeRelease
  split
  exacts [hk.refuse, hk.waitFrame]

theorem Keeps.safeReleaseEffect {n : Nat} {c : Cmd} (hk : Keeps false s₀ s) : Keeps false s₀ (safeReleaseEffect n c s).st :=
  .iteNext (fun _ => hk.refuse) fun _ => hk.releaseLine.okResult

theorem Keeps.safeSet {c : Cmd} (hk : Keeps line s₀ s) : Keeps line s₀ (safeSet c s).st := hk.setLine.okResult

theorem Keeps.safeStatus {c : Cmd} (hk : Keeps line s₀ s) : Keeps line s₀ (safeStatus c s).st := hk.okResult

theorem Keeps.planSet {c : Cmd} (hk : Keeps line s₀ s) : Keeps line s₀ (planSet c s).st :=
  .iteNext (fun _ => hk.refuse)
    fun _ => by split; exacts [hk.refuse, .iteNext (fun _ => hk.ledTarget.storePlan.okResult) fun _ => hk.ledTarget.storePlan.refuse]

theorem Keeps.planRead {c : Cmd} (hk : Keeps line s₀ s) : Keeps line s₀ (planRead c s).st := hk.answer

theorem Keeps.planAtReady (hk : Keeps line s₀ s) : Keeps line s₀ (planAtReady s) := by
  unfold Machine.planAtReady
  split
  · exact hk
  · split
    exacts [hk.raise, .internalCmd (.same hk rfl rfl)]

theorem Keeps.planArmEffect {n : Nat} {c : Cmd} (hk : Keeps false s₀ s) : Keeps false s₀ (planArmEffect n c s).st :=
  .iteNext (fun _ => .okResult (.same hk rfl rfl)) fun _ => .okResult (.releaseLine (.same hk rfl rfl))

theorem Keeps.pwrState {c : Cmd} (hk : Keeps line s₀ s) : Keeps line s₀ (pwrState c s).st :=
  .iteNext (fun _ => hk.refuse) fun _ => .iteNext (fun _ => hk.waitFrame) fun _ => .iteNext (fun _ => hk.refuse)
    fun _ => .iteNext (fun _ => hk.refuse) fun _ => .waitFrame (.same hk rfl rfl)

theorem Keeps.pwrStateEffect {n : Nat} {c : Cmd} (hk : Keeps line s₀ s) : Keeps line s₀ (pwrStateEffect n c s).st :=
  .okResult (.ite (fun _ => .same hk rfl rfl) fun _ => .ite (fun _ => .same hk rfl rfl) fun _ => hk)

theorem Keeps.resetOrder {c : Cmd} (hk : Keeps line s₀ s) : Keeps line s₀ (resetOrder c s).st :=
  .iteNext (fun _ => hk.refuse) fun _ => hk.orderReset.okResult

/-! Start -/

theorem Keeps.resetL {cause : Nat} (hk : Keeps line s₀ s) : Keeps line s₀ (resetL cause s) :=
  .parts hk le_rfl rfl (fun _ => rfl) id id (List.length_map _).trans (List.length_map _).trans (fun _ => rfl) (fun _ => rfl) id fun _ _ => rfl

theorem Keeps.reconcileOne {n : Nat} (hk : Keeps line s₀ s) : Keeps line s₀ (reconcileOne n s) := by
  unfold Machine.reconcileOne
  split
  exacts [hk, .ite (fun _ => .ite (fun _ => hk.ledgerPut) fun _ => hk.ledgerPut) fun _ => hk]

theorem Keeps.reconcile (hk : Keeps line s₀ s) : Keeps line s₀ (reconcile s) := .foldl (fun _ _ => .reconcileOne) hk

theorem Keeps.startDatum {d : Datum} (hk : Keeps line s₀ s) : Keeps line s₀ (startDatum d s) := .linRefresh (.loadMaint (.same hk rfl (by simp)))

theorem Keeps.settleLegends (hk : Keeps line s₀ s) : Keeps line s₀ (settleLegends s) := by
  unfold Machine.settleLegends
  refine .foldl (fun s y hk => ?_) hk
  split
  exacts [hk, .ite (fun _ => hk.clearArea) fun _ => hk]

theorem Keeps.loadStored (hk : Keeps line s₀ s) : Keeps line s₀ (loadStored s) := by
  have settled := hk.settleLegends
  unfold Machine.loadStored
  generalize Machine.settleLegends s = s1 at settled ⊢
  dsimp only
  split
  · exact .same settled rfl rfl
  · split
    exacts [.raise (.same settled rfl rfl), .startDatum (.same settled rfl rfl)]

theorem Keeps.aoLost (hk : Keeps line s₀ s) : Keeps line s₀ (aoLost s) := .openEra (.updTime rfl hk (le_max_left _ _) rfl rfl rfl rfl rfl rfl rfl rfl rfl)

theorem Keeps.coreStart (hk : Keeps line s₀ s) : Keeps line s₀ (coreStart s) := by
  have settled := hk.reconcile.raiseFloor.settleArea
  unfold Machine.coreStart
  dsimp only
  split
  exacts [.same settled.loadStored rfl rfl, settled.raise.fallBack]

theorem Keeps.thenCore {p : Prop} [Decidable p] (hk : Keeps line s₀ s) : Keeps line s₀ (if p then s else Machine.coreStart s) :=
  .ite (fun _ => hk) fun _ => hk.coreStart

theorem Keeps.startUp (hk : Keeps line s₀ s) : Keeps line s₀ (startUp s) := by
  unfold Machine.startUp
  extract_lets _ _ _ powered live _ started
  have hpowered : Keeps line s₀ powered := .hitIf (.updSet rfl hk rfl rfl rfl rfl rfl rfl rfl rfl rfl rfl)
  have hlive : Keeps line s₀ live := .ite (fun _ => hpowered) fun _ => hpowered.aoLost
  have hstarted : Keeps line s₀ started := .same hlive rfl rfl
  exact .thenCore (.bootStart (.raise (.irq hstarted)))

theorem Keeps.readyUp {selfTest : Bool} (hk : Keeps line s₀ s) : Keeps line s₀ (readyUp selfTest s) :=
  .healthCheck (.planAtReady (.ite (fun _ => .raise (.ite (fun _ => .raise (.benchB (.raise (.startPeriods (.same (.ite (fun _ =>
    hk.relock) fun _ => hk) rfl rfl))))) fun _ => .benchB (.raise (.startPeriods (.same (.ite (fun _ => hk.relock)
      fun _ => hk) rfl rfl)))))
        fun _ => .ite (fun _ => .raise (.benchB (.raise (.startPeriods (.same (.ite (fun _ => hk.relock)
          fun _ => hk) rfl rfl))))) fun _ => .benchB (.raise (.startPeriods (.same (.ite (fun _ => hk.relock) fun _ => hk) rfl rfl)))))

theorem Keeps.warmReset {cause : Nat} (hk : Keeps line s₀ s) : Keeps line s₀ (warmReset cause s) :=
  .ite (fun _ => hk.resetL) fun _ => hk.resetL.startUp

theorem Keeps.losePower (hk : Keeps line s₀ s) : Keeps line s₀ (losePower s) := .same (.resetL (.same hk rfl rfl)) rfl rfl

theorem Keeps.pornLow (hk : Keeps line s₀ s) : Keeps line s₀ (pornLow s) :=
  .ite (fun _ => hk) fun _ => .ite (fun _ => .same hk rfl rfl) fun _ => .same (.resetL (.same hk rfl rfl)) rfl rfl

theorem Keeps.beforeReset (hk : Keeps line s₀ s) : Keeps line s₀ (beforeReset s) :=
  .lifeCommit (.ite (fun _ => hk.commitItems) fun _ => hk)

theorem Keeps.orderedReset (hk : Keeps line s₀ s) : Keeps line s₀ (orderedReset s) := by
  unfold Machine.orderedReset
  split
  exacts [.ite (fun _ => .warmReset (.same hk.beforeReset rfl rfl)) fun _ => hk, hk]

/-! Link -/

theorem Keeps.enterSafe {k cause : Nat} (hk : Keeps line s₀ s) : Keeps line s₀ (enterSafe k cause s) :=
  .ite (fun _ => hk) fun _ => .ite (fun _ => hk.setFar) fun _ => .ite (fun _ => hk.setFar.onPower) fun _ => hk.setFar.onIo

theorem Keeps.applyCmd {k : Nat} {c : FieldCmd} {released : Bool} (hk : Keeps line s₀ s) : Keeps line s₀ (applyCmd k c released s) :=
  .ite (fun _ => hk.onPower) fun _ => hk.onIo

theorem Keeps.applyRequests {c : FieldCmd} (hk : Keeps line s₀ s) : Keeps line s₀ (applyRequests c s) := by
  unfold Machine.applyRequests
  split
  · exact hk
  · refine .foldl (fun s y hk => ?_) (.foldl (fun _ _ hk => .onSense (.same hk rfl rfl)) hk)
    dsimp only
    split
    exacts [.finish (.putSense (.same hk rfl rfl)), .putSense (.same hk rfl rfl)]

theorem Keeps.senseDown (hk : Keeps line s₀ s) : Keeps line s₀ (senseDown s) := .dropRequests (.same hk.setFar rfl rfl)

theorem Keeps.farGood {k : Nat} {f : OutFrame} (hk : Keeps line s₀ s) : Keeps line s₀ (farGood k f s) :=
  .ite (fun _ => .ite (fun _ => .senseDown (.ite (fun _ => hk.releaseDue.setFar.onSense)
    fun _ => hk.releaseDue.setFar)) fun _ => .applyRequests (.ite (fun _ => hk.releaseDue.setFar.onSense)
      fun _ => hk.releaseDue.setFar)) fun _ => .applyCmd (.ite (fun _ => hk.setFar.enterSafe) fun _ => hk.setFar)

theorem Keeps.silenceExpires {k : Nat} (hk : Keeps line s₀ s) : Keeps line s₀ (silenceExpires k s) :=
  .ite (fun _ => hk.setFar.enterSafe.dropRequests) fun _ => hk.setFar.enterSafe

theorem Keeps.leaseExpires {k : Nat} (hk : Keeps line s₀ s) : Keeps line s₀ (leaseExpires k s) := hk.setFar.enterSafe

theorem Keeps.farLapse {k : Nat} (hk : Keeps line s₀ s) : Keeps line s₀ (farLapse k s) :=
  .ite (fun _ => hk.silenceExpires) fun _ => by split; exacts [.ite (fun _ => hk.leaseExpires) fun _ => hk, hk]

theorem Keeps.farSilence {k : Nat} (hk : Keeps line s₀ s) :
    Keeps line s₀ (farSilence k s) := .ite (fun _ => hk) fun _ => hk.silenceExpires

theorem Keeps.leaseExpiry {k : Nat} (hk : Keeps line s₀ s) : Keeps line s₀ (leaseExpiry k s) := by
  unfold Machine.leaseExpiry
  split
  exacts [.ite (fun _ => hk) fun _ => hk.leaseExpires, hk]

theorem Keeps.ioJudged {c : Instr} (hk : Keeps line s₀ s) : Keeps line s₀ (ioJudged c s) := by
  unfold Machine.ioJudged
  dsimp only
  split
  exacts [hk.onIo, hk.onIo, hk.onIo, hk]

theorem Keeps.judgedFirst {k : Nat} (hk : Keeps line s₀ s) : Keeps line s₀ (judgedFirst k s) :=
  .ite (fun _ => hk) fun _ => .foldl (fun _ _ => .ioJudged) hk

theorem Keeps.farFrame {k : Nat} {dmg : Damage} (hk : Keeps line s₀ s) : Keeps line s₀ (farFrame k dmg s) := by
  unfold Machine.farFrame
  split
  · exact hk
  · exact .ite (fun _ => hk.setNear) fun _ => by split; exacts [hk.setNear.farLapse.farGood, hk.setNear.setFar]

theorem Keeps.farSend {k : Nat} (hk : Keeps line s₀ s) : Keeps line s₀ (farSend k s) := .ite (fun _ => hk) fun _ => hk.farLapse.setFar

theorem Keeps.sendFrame {k lease : Nat} {down : Bool} (hk : Keeps line s₀ s) : Keeps line s₀ (sendFrame k lease down s) :=
  .ite (fun _ => hk.setNear.used) fun _ => hk.setNear

theorem Keeps.takeResult {entry status : Nat} {v : Int} {stamp took : Nat} (hk : Keeps line s₀ s) :
    Keeps line s₀ (takeResult entry status v stamp took s) := by
  unfold Machine.takeResult
  dsimp only
  split
  · exact .same hk rfl rfl
  · exact .ite (fun _ => .frontEnd (.ite (fun _ => .publish (.same hk rfl rfl)) fun _ => .same hk rfl rfl))
      fun _ => .ite (fun _ => .publish (.same hk rfl rfl)) fun _ => .same hk rfl rfl

theorem Keeps.takeCrossing {n : Nat} {active : Bool} {stamp took : Nat} (hk : Keeps line s₀ s) :
    Keeps line s₀ (takeCrossing n active stamp took s) := by
  unfold Machine.takeCrossing
  split
  exacts [hk, .ite (fun _ => hk.gazCrossing.frontEnd.irq) fun _ => hk.gazCrossing.frontEnd]

theorem Keeps.takeCheck {pin outcome rl ri origin prev : Nat} {base : Option Nat} {stamp : Nat} (hk : Keeps line s₀ s) :
    Keeps line s₀ (takeCheck pin outcome rl ri origin prev base stamp s) := by
  unfold Machine.takeCheck
  dsimp only
  split
  · refine .foldl (fun _ _ => .finish) ?_
    split
    · refine .raiseAt ?_
      split
      exacts [hk.storeBase, hk]
    · split
      exacts [hk.storeBase, hk]
  · split
    · refine .raiseAt ?_
      split
      exacts [hk.storeBase, hk]
    · split
      exacts [hk.storeBase, hk]

theorem Keeps.takeRec {link : Nat} {r : QRec} (hk : Keeps line s₀ s) : Keeps line s₀ (takeRec link r s) := by
  unfold Machine.takeRec
  dsimp only
  split
  · exact hk.setNear.takeResult
  · exact hk.setNear.takeCrossing
  · exact hk.setNear.takeCheck
  · exact hk.setNear.frontEnd
  · exact hk.setNear.raiseAt

theorem Keeps.takeRecs {link : Nat} {l : List QRec} (hk : Keeps line s₀ s) : Keeps line s₀ (takeRecs link l s) :=
  .foldl (fun _ _ hk => .ite (fun _ => hk.takeRec) fun _ => hk) hk

theorem Keeps.takeView {link : Nat} {f : InFrame} (hk : Keeps line s₀ s) : Keeps line s₀ (takeView link f s) := by
  unfold Machine.takeView
  split
  exacts [.same hk rfl rfl, .same hk rfl rfl, .hitIf (.same hk rfl rfl)]

theorem Keeps.linkEvents {link : Nat} {old : NearLink} {f : InFrame} (hk : Keeps line s₀ s) : Keeps line s₀ (linkEvents link old f s) :=
  .hitIf (.ite (fun _ => .raise (.ite (fun _ => .raise (.hit (.same (.ite (fun _ => hk.raise) fun _ => hk) rfl rfl)))
    fun _ => .ite (fun _ => hk.raise) fun _ => hk))
      fun _ => .ite (fun _ => .raise (.hit (.same (.ite (fun _ => hk.raise) fun _ => hk) rfl rfl)))
        fun _ => .ite (fun _ => hk.raise) fun _ => hk)

theorem Keeps.senseAnswers (hk : Keeps line s₀ s) : Keeps line s₀ (senseAnswers s) := by
  unfold Machine.senseAnswers
  refine .foldl (fun _ _ => .finishEmpty) ?_
  refine .foldl (fun s y hk => ?_) hk
  split
  exacts [hk.finish.onSense, hk.onSense]

theorem Keeps.nearExpires {link : Nat} (hk : Keeps line s₀ s) : Keeps line s₀ (nearExpires link s) :=
  .ite (fun _ => hk.setNear.hit.raise.dropRequests) fun _ => hk.setNear.hit.raise

theorem Keeps.nearLapse {link : Nat} (hk : Keeps line s₀ s) :
    Keeps line s₀ (nearLapse link s) := .ite (fun _ => hk.nearExpires) fun _ => hk

theorem Keeps.nearGood {link : Nat} {f : InFrame} (hk : Keeps line s₀ s) : Keeps line s₀ (nearGood link f s) :=
  .ite (fun _ => .senseAnswers (.ite (fun _ => hk.nearLapse.setNear.takeView.linkEvents.takeRecs)
    fun _ => hk.nearLapse.setNear.takeView.linkEvents))
      fun _ => .ite (fun _ => hk.nearLapse.setNear.takeView.linkEvents.takeRecs) fun _ => hk.nearLapse.setNear.takeView.linkEvents

theorem Keeps.nearFrame {link : Nat} {dmg : Damage} (hk : Keeps line s₀ s) : Keeps line s₀ (nearFrame link dmg s) := by
  unfold Machine.nearFrame
  split
  · exact hk
  · exact .ite (fun _ => hk.setFar) fun _ => by split; exacts [hk.setFar.nearGood, hk.setFar.setNear]

theorem Keeps.nearSilence {link : Nat} (hk : Keeps line s₀ s) : Keeps line s₀ (nearSilence link s) :=
  .ite (fun _ => hk) fun _ => hk.nearExpires

theorem Keeps.synthLost {link : Nat} (hk : Keeps line s₀ s) : Keeps line s₀ (synthLost link s) :=
  .ite (fun _ => .foldl (fun _ _ => .frontEndAt) hk) fun _ => hk

/-! DieLoad -/

theorem Keeps.cfgInvalid {k : Nat} (hk : Keeps line s₀ s) : Keeps line s₀ (cfgInvalid k s) :=
  .ite (fun _ => hk.onSense) fun _ => .ite (fun _ => hk.onPower) fun _ => hk.onIo

theorem Keeps.seqLoad {k : Nat} {ok : Bool} (hk : Keeps line s₀ s) : Keeps line s₀ (seqLoad k ok s) :=
  .ite (fun _ => .healthCheck (.cfgInvalid (.same hk rfl rfl))) fun _ => .raise (.same hk rfl rfl)

theorem Keeps.loadPower {d : Datum} {bins : List (Nat × List FanBin)} (hk : Keeps line s₀ s) : Keeps line s₀ (loadPower d bins s) := by
  unfold Machine.loadPower
  exact hk.onPower

theorem Keeps.loadDie {k : Nat} {w : Window} (hk : Keeps line s₀ s) : Keeps line s₀ (loadDie k w s) :=
  .ite (fun _ => hk.onSense.senseSweep) fun _ => .ite (fun _ => hk.loadPower) fun _ => hk.onIo

theorem Keeps.configLoad {k : Nat} (hk : Keeps line s₀ s) : Keeps line s₀ (configLoad k s) := by
  unfold Machine.configLoad
  split
  exacts [.ite (fun _ => hk.loadDie.healthCheck) fun _ => hk, hk]

theorem Keeps.sensePowerUp (hk : Keeps line s₀ s) : Keeps line s₀ (sensePowerUp s) :=
  .ite (fun _ => hk) fun _ => .same hk.setFar.setNear rfl rfl

/-! Power -/

theorem Keeps.schedule (hk : Keeps line s₀ s) : Keeps line s₀ (schedule s) := .same hk rfl rfl

theorem Keeps.stopLinks (hk : Keeps line s₀ s) : Keeps line s₀ (stopLinks s) := .foldl (fun _ _ => .setNear) hk

theorem Keeps.senseGate {on : Bool} (hk : Keeps line s₀ s) : Keeps line s₀ (senseGate on s) := .same hk rfl rfl

theorem Keeps.senseOrder (hk : Keeps line s₀ s) : Keeps line s₀ (senseOrder s) := .senseGate (.ite (fun _ => hk.sendFrame) fun _ => hk)

theorem Keeps.leaseOut (hk : Keeps line s₀ s) : Keeps line s₀ (leaseOut s) := hk.sendFrame.sendFrame.senseOrder.schedule.stopLinks

theorem Keeps.safeOut (hk : Keeps line s₀ s) : Keeps line s₀ (safeOut s) := hk.setLine.sendFrame.sendFrame.senseOrder.stopLinks

theorem Keeps.quietHost (hk : Keeps line s₀ s) : Keeps line s₀ (quietHost s) :=
  .same (x := Machine.hifResetOf false s) hk.hifResetOf rfl (by rw [List.length_map]; rfl)

/-- The count's fraction goes (02 R42); the count stays. -/
theorem Keeps.slowClock (hk : Keeps line s₀ s) : Keeps line s₀ (slowClock s) :=
  hk.trans ⟨(Nat.mul_div_cancel (s.time.acc / 2 ^ 32) (by decide : 0 < 2 ^ 32)).ge, rfl, id, fun _ => id⟩

theorem Keeps.enterWatch (hk : Keeps line s₀ s) : Keeps line s₀ (enterWatch s) :=
  .slowClock (.quietHost (.same (.ite (fun _ => hk.commitStore.lifeCommit) fun _ => hk.commitItems.lifeCommit.captureEnd) rfl rfl))

theorem Keeps.enterHalt (hk : Keeps line s₀ s) : Keeps line s₀ (enterHalt s) :=
  .resetL (.slowClock (.same hk.commitItems.lifeCommit.cutPeriods.captureEnd rfl rfl))

theorem Keeps.sleepEntry (hk : Keeps line s₀ s) : Keeps line s₀ (sleepEntry s) :=
  .ite (fun _ => hk) fun _ => by split; exacts [hk.enterWatch, hk.enterHalt, hk.enterWatch, hk]

theorem Keeps.countWake (hk : Keeps line s₀ s) : Keeps line s₀ (countWake s) := hk.setLife

theorem Keeps.restore (hk : Keeps line s₀ s) : Keeps line s₀ (restore s) := .hit (.same hk rfl rfl)

theorem Keeps.restart {k : Nat} (hk : Keeps line s₀ s) : Keeps line s₀ (restart k s) := .ite (fun _ => hk.setNear) fun _ => hk

theorem Keeps.resumeAt {n : Nat} (hk : Keeps line s₀ s) : Keeps line s₀ (resumeAt n s) := .same hk rfl rfl

theorem Keeps.backToRun {src stamp : Nat} (hk : Keeps line s₀ s) : Keeps line s₀ (backToRun src stamp s) := by
  unfold Machine.backToRun
  extract_lets woken
  have awake : Keeps line s₀ woken := .senseGate (.foldl (fun _ _ => .restart) hk)
  exact .strayMailbox (.raise (.resumeAt (.same awake rfl (by simp))))

theorem Keeps.haltWake {src stamp : Nat} (hk : Keeps line s₀ s) : Keeps line s₀ (haltWake src stamp s) := .same hk rfl rfl

theorem Keeps.wakeSource {src : Nat} (hk : Keeps line s₀ s) : Keeps line s₀ (wakeSource src s) := by
  unfold Machine.wakeSource
  split
  · exact hk
  · exact .ite (fun _ => hk.haltWake) fun _ => .ite (fun _ => hk.restore.countWake.lifeCommit.backToRun) fun _ => hk

theorem Keeps.haltTimer (hk : Keeps line s₀ s) : Keeps line s₀ (haltTimer s) := by
  unfold Machine.haltTimer
  split
  exacts [.ite (fun _ => hk.haltWake) fun _ => hk, hk]

theorem Keeps.cablesUp (hk : Keeps line s₀ s) : Keeps line s₀ (cablesUp s) := .same (.ite (fun _ => hk.restart.senseGate) fun _ => hk) rfl (by simp)

theorem Keeps.watchCycle (hk : Keeps line s₀ s) : Keeps line s₀ (watchCycle s) := by
  unfold Machine.watchCycle
  split
  · exact hk
  · exact .ite (fun _ => hk) fun _ => .strayMailbox (.resumeAt (.same hk.restore.countWake.lifeCommit.restart.restart.cablesUp rfl rfl))

theorem Keeps.renew (hk : Keeps line s₀ s) : Keeps line s₀ (renew s) := by
  unfold Machine.renew
  split
  exacts [hk, .ite (fun _ => hk) fun _ => hk.sendFrame.sendFrame.countWake.schedule]

theorem Keeps.floorWrite (hk : Keeps line s₀ s) : Keeps line s₀ (floorWrite s) := .ite (fun _ => hk) fun _ => .same hk.storeTwo rfl rfl

theorem Keeps.fsafeLow (hk : Keeps line s₀ s) : Keeps line s₀ (fsafeLow s) :=
  .ite (fun _ => .same hk rfl rfl) fun _ => .setLine (.irq (.same hk rfl rfl))

/-! ClockEvents -/

theorem Keeps.refClockLost (hk : Keeps line s₀ s) : Keeps line s₀ (refClockLost s) :=
  .ite (fun _ => .raise (.hit (.same hk rfl rfl))) fun _ => hk

theorem Keeps.refClockRestored (hk : Keeps line s₀ s) : Keeps line s₀ (refClockRestored s) := .same hk rfl rfl

theorem Keeps.lfClockLost (hk : Keeps line s₀ s) : Keeps line s₀ (lfClockLost s) :=
  .ite (fun _ => .raise (.hit (.same hk rfl rfl))) fun _ => .hit (.same hk rfl rfl)

theorem Keeps.lfClockProven (hk : Keeps line s₀ s) : Keeps line s₀ (lfClockProven s) := .same hk rfl rfl

theorem Keeps.pllUnlock {pll : Nat} (hk : Keeps line s₀ s) : Keeps line s₀ (pllUnlock pll s) :=
  .ite (fun _ => .raise (.hit (.same hk rfl rfl))) fun _ => hk

theorem Keeps.pllRelock {pll : Nat} (hk : Keeps line s₀ s) : Keeps line s₀ (pllRelock pll s) :=
  .ite (fun _ => hk) fun _ => .ite (fun _ => .foldl (fun _ _ => .intakeAt) (.same (.same hk rfl rfl) rfl rfl)) fun _ => .same hk rfl rfl

theorem Keeps.setSite {n : Nat} {x : Site} (hk : Keeps line s₀ s) : Keeps line s₀ (s.setSite n x) := .same hk rfl rfl

theorem Keeps.logicSite {n : Nat} {v : Option Int} (hk : Keeps line s₀ s) : Keeps line s₀ (logicSite n v s) :=
  .ite (fun _ => .setLine (.raise (.irq (.same (.ite (fun _ => .raise (.irq (.same hk.setSite.publish rfl rfl)))
    fun _ => .same hk.setSite.publish rfl rfl) rfl rfl)))) fun _ => .ite (fun _ => .raise (.irq (.same hk.setSite.publish rfl rfl)))
      fun _ => .same hk.setSite.publish rfl rfl

theorem Keeps.farSite {n : Nat} (hk : Keeps line s₀ s) : Keeps line s₀ (farSite n s) := by
  unfold Machine.farSite
  dsimp only
  split
  exacts [hk.setSite.publish, hk.setSite]

theorem Keeps.farTempCheck {k : Nat} {v : Option Int} (hk : Keeps line s₀ s) : Keeps line s₀ (farTempCheck k v s) :=
  .ite (fun _ => hk) fun _ => .ite (fun _ => .enterSafe (.ite (fun _ => hk.setSite.pushRec) fun _ => hk.setSite))
    fun _ => .ite (fun _ => hk.setSite.pushRec) fun _ => hk.setSite

theorem Keeps.shutdownEnd {n : Nat} (hk : Keeps line s₀ s) : Keeps line s₀ (shutdownEnd n s) := by
  unfold Machine.shutdownEnd
  dsimp only
  split
  exacts [.ite (fun _ => .same hk.setSite rfl rfl) fun _ => hk, hk]

theorem Keeps.railRead {r v : Nat} (hk : Keeps line s₀ s) : Keeps line s₀ (railRead r v s) :=
  .ite (fun _ => .raise (.publish (.same hk rfl rfl))) fun _ => .publish (.same hk rfl rfl)

theorem Keeps.housekeeping {temps : List (Option Int)} {rails : List Nat} {parity : Bool} (hk : Keeps line s₀ s) :
    Keeps line s₀ (housekeeping temps rails parity s) :=
  .ite (fun _ => hk)
    fun _ => .ite (fun _ => .setLine (.gazErrors (.foldl (fun _ _ => .railRead) (.same (.foldl (fun _ _ =>
      .farSite) (.foldl (fun _ _ => .logicSite) hk)) rfl rfl))))
        fun _ => .gazErrors (.foldl (fun _ _ => .railRead) (.same (.foldl (fun _ _ => .farSite) (.foldl (fun _ _ => .logicSite) hk)) rfl rfl))

theorem Keeps.loseWord {a : Nat} (hk : Keeps line s₀ s) : Keeps line s₀ (loseWord a s) := .same hk rfl (by simp)

theorem Keeps.gazUe {a : Nat} (hk : Keeps line s₀ s) : Keeps line s₀ (gazUe a s) :=
  .ite (fun _ => hk.dropSlot.listBad.gazFail) fun _ => .ite (fun _ => hk.dropSlot.listBad.gazFail)
    fun _ => .ite (fun _ => .hit (.same hk.used rfl rfl)) fun _ => by split; exacts [hk.gazFail, hk.gazFail, hk]

theorem Keeps.scrub {addr : Nat} {x : Scrub} (hk : Keeps line s₀ s) : Keeps line s₀ (scrub addr x s) := by
  unfold Machine.scrub
  split
  · exact hk
  · dsimp only
    split
    · exact .same hk rfl rfl
    · exact .addWrites (.same (.same hk rfl rfl) rfl rfl)
    · exact .gazUe (.ueFound (.loseWord (.same hk rfl rfl)))
    · exact .verifyFail (.same (.addWrites (.same (.same hk rfl rfl) rfl rfl)) rfl rfl)
    · exact .same (.same hk rfl rfl) rfl rfl

/-! CanEvents -/

theorem Keeps.frameIn {ch sof : Nat} {f : CanFrame} (hk : Keeps line s₀ s) : Keeps line s₀ (frameIn ch sof f s) := by
  unfold Machine.frameIn
  split
  · exact hk
  · exact .ite (fun _ => .cableReceive (.canStep (.ite (fun _ => hk.used) fun _ => hk)))
      fun _ => .ite (fun _ => .canStep (.ite (fun _ => hk.used) fun _ => hk))
        fun _ => .strayRequests (.claimsLost (.canStep (.ite (fun _ => hk.used) fun _ => hk)))

theorem Keeps.ringTake {ch : Nat} {recs : List Bytes} (hk : Keeps line s₀ s) : Keeps line s₀ (ringTake ch recs s) :=
  .ite (fun _ => hk) fun _ => .writeShadow (.setRing (.setCan (.same hk rfl (by simp))))

theorem Keeps.txDone {ch sof : Nat} (hk : Keeps line s₀ s) : Keeps line s₀ (txDone ch sof s) :=
  .ite (fun _ => hk.canStep.cancelsDone) fun _ => hk

theorem Keeps.txFailed {ch sof : Nat} {lost : Bool} (hk : Keeps line s₀ s) : Keeps line s₀ (txFailed ch sof lost s) :=
  .ite (fun _ => hk.canStep.cancelsDone) fun _ => hk

theorem Keeps.rxFailed {ch : Nat} {kind : RxError} (hk : Keeps line s₀ s) : Keeps line s₀ (rxFailed ch kind s) :=
  .ite (fun _ => hk) fun _ => by split; exacts [hk.canStep, hk.canStep, hk.setCan]

theorem Keeps.failover {ch : Nat} (hk : Keeps line s₀ s) : Keeps line s₀ (failover ch s) :=
  .ite (fun _ => hk) fun _ => .foldl (fun _ _ hk => .foldl (fun _ _ => .canRecords) hk.setCan) hk.setCan.setCan

theorem Keeps.busGone {ch : Nat} {both : Bool} (hk : Keeps line s₀ s) : Keeps line s₀ (busGone ch both s) := by
  unfold Machine.busGone
  split
  · exact hk
  · exact .ite (fun _ => hk) fun _ => .cancelsDone (.ite (fun _ => hk.canStep) fun _ => hk.canStep.failover)

theorem Keeps.recovered {ch : Nat} (hk : Keeps line s₀ s) : Keeps line s₀ (recovered ch s) := .ite (fun _ => hk) fun _ => hk.setCan.raise

theorem Keeps.claimTimeout {ch : Nat} (hk : Keeps line s₀ s) : Keeps line s₀ (claimTimeout ch s) := by
  unfold Machine.claimTimeout
  dsimp only
  split
  exacts [hk, .ite (fun _ => hk) fun _ => .foldl (fun _ _ => .finish) hk.setCan]

theorem Keeps.wakePattern {ch : Nat} (hk : Keeps line s₀ s) : Keeps line s₀ (wakePattern ch s) :=
  .ite (fun _ => hk.setCan.hit.irq) fun _ => hk

theorem Keeps.sleepDiscard {ch : Nat} (hk : Keeps line s₀ s) : Keeps line s₀ (sleepDiscard ch s) :=
  .ite (fun _ => hk) fun _ => .cancelsDone (.foldl (fun _ _ hk => .foldl (fun _ _ => .canRecords) hk) hk.setCan)

/-! Registers -/

theorem Keeps.latchNow {path : Path} (hk : Keeps line s₀ s) : Keeps line s₀ (latchNow path s) := by
  cases path <;> exact .same hk rfl rfl

theorem Keeps.claimRead {n : Nat} (hk : Keeps line s₀ s) : Keeps line s₀ (claimRead n s).1 := .fst (.same hk rfl rfl)

theorem Keeps.readReg {path : Path} {a : Nat} (hk : Keeps line s₀ s) : Keeps line s₀ (readReg path a s).1 :=
  .itePair (fun _ => .fst hk.latchNow) fun _ => by split; exacts [hk.claimRead, .fst hk]

theorem Keeps.writeIlcfg {n v : Nat} (hk : Keeps line s₀ s) : Keeps line s₀ (writeIlcfg n v s) := .ite (fun _ => hk) fun _ => hk.setNear

theorem Keeps.writeLedgerSel {v : Nat} (hk : Keeps line s₀ s) : Keeps line s₀ (writeLedgerSel v s) := .same hk rfl rfl

theorem Keeps.writeGazCfg {v : Nat} (hk : Keeps line s₀ s) : Keeps line s₀ (writeGazCfg v s) :=
  .ite (fun _ => hk) fun _ => .closePeriod (.same hk rfl rfl)

theorem Keeps.postAll {l : List (Nat × Bytes)} (hk : Keeps line s₀ s) : Keeps line s₀ (postAll l s) := .foldl (fun _ _ => .post) hk

theorem Keeps.writeMbbase {ch : Nat} {hi : Bool} {v : Nat} (hk : Keeps line s₀ s) : Keeps line s₀ (writeMbbase ch hi v s) :=
  .ite (fun _ => hk.setCan) fun _ => hk.setCan.postAll

theorem Keeps.doneWrite {n v : Nat} (hk : Keeps line s₀ s) : Keeps line s₀ (doneWrite n v s) := .ite (fun _ => hk) fun _ => hk.onIc

theorem Keeps.swset {v : Nat} (hk : Keeps line s₀ s) : Keeps line s₀ (swset v s) :=
  .foldl (fun _ _ hk => .ite (fun _ => hk.irq) fun _ => hk) hk

theorem Keeps.pendClear {w v : Nat} (hk : Keeps line s₀ s) : Keeps line s₀ (pendClear w v s) := .same hk rfl rfl

theorem Keeps.writeMsix {o v : Nat} (hk : Keeps line s₀ s) : Keeps line s₀ (writeMsix o v s) :=
  .ite (fun _ => .msixSend (.same (.same hk rfl rfl) rfl rfl)) fun _ => .same hk rfl rfl

theorem Keeps.writeLow {a v : Nat} (hk : Keeps line s₀ s) : Keeps line s₀ (writeLow a v s) :=
  .ite (fun _ => hk.writeIlcfg) fun _ => .ite (fun _ => hk.setNear) fun _ => .ite (fun _ => .same hk rfl rfl) fun _ =>
  .ite (fun _ => hk.writeLedgerSel) fun _ => .ite (fun _ => .same hk rfl rfl) fun _ => .ite (fun _ => .same hk rfl rfl) fun _ =>
  .ite (fun _ => .same hk rfl rfl) fun _ => .ite (fun _ => hk.writeHbcfg) fun _ => .ite (fun _ => hk.heartbeat) fun _ =>
  .ite (fun _ => .same hk rfl rfl) fun _ => .ite (fun _ => .same hk rfl rfl) fun _ =>
  .ite (fun _ => by split; exacts [hk.writeRbase, hk.writeRbase, hk.writeRcfg, hk]) fun _ => .ite (fun _ => .same hk rfl rfl) fun _ =>
  .ite (fun _ => .same hk rfl rfl) fun _ => .ite (fun _ => hk.onIc) fun _ => .ite (fun _ => hk.swset) fun _ => .ite (fun _ => .same hk rfl rfl) fun _ =>
  .ite (fun _ => hk.doneWrite) fun _ => .ite (fun _ => hk.onIc) fun _ => .ite (fun _ => hk.pendClear) fun _ => hk

theorem Keeps.writeHigh {a v : Nat} (hk : Keeps line s₀ s) : Keeps line s₀ (writeHigh a v s) :=
  .ite (fun _ => .same hk rfl rfl) fun _ => .ite (fun _ => .same hk rfl rfl) fun _ => .ite (fun _ => hk.writeGazCfg)
    fun _ => .ite (fun _ => .ite (fun _ => hk) fun _ => .same hk rfl rfl)
      fun _ => .ite (fun _ => .ite (fun _ => .same hk rfl rfl) fun _ => hk)
        fun _ => .ite (fun _ => .ite (fun _ => hk.setCan) fun _ => .ite (fun _ => hk.writeMbbase)
          fun _ => .ite (fun _ => hk.writeMbbase) fun _ => hk) fun _ => .ite (fun _ => .same hk rfl rfl)
            fun _ => .ite (fun _ => .same hk rfl rfl) fun _ => .ite (fun _ => hk.writeMsix) fun _ => hk

theorem Keeps.writeReg {a v : Nat} (hk : Keeps line s₀ s) : Keeps line s₀ (writeReg a v s) :=
  .ite (fun _ => hk.writeLow) fun _ => hk.writeHigh

theorem Keeps.barWrite {addr size v : Nat} (hk : Keeps line s₀ s) : Keeps line s₀ (barWrite addr size v s) :=
  .ite (fun _ => hk.writeReg) fun _ => hk

theorem Keeps.sourceEvent {src : Nat} {level : Bool} (hk : Keeps line s₀ s) : Keeps line s₀ (sourceEvent src level s) :=
  .ite (fun _ => hk) fun _ => .ite (fun _ => .ite (fun _ => .same (.same hk rfl rfl) rfl rfl) fun _ => .same hk rfl rfl) fun _ => hk.irq

/-! Spi -/

theorem Keeps.spiDiscard (hk : Keeps line s₀ s) : Keeps line s₀ (spiDiscard s) := .same hk rfl rfl

theorem Keeps.spiAnswer {b : Bytes} (hk : Keeps line s₀ s) : Keeps line s₀ (spiAnswer b s) := .same hk rfl rfl

theorem Keeps.spiRegWrite {x : SpiTx} (hk : Keeps line s₀ s) : Keeps line s₀ (spiRegWrite x s) :=
  .ite (fun _ => hk) fun _ => .ite (fun _ => hk.spiDiscard) fun _ => .ite (fun _ => hk) fun _ => hk.writeReg

theorem Keeps.spiRegRead {x : SpiTx} (hk : Keeps line s₀ s) : Keeps line s₀ (spiRegRead x s) :=
  .ite (fun _ => hk) fun _ => .ite (fun _ => hk.spiDiscard) fun _ => .ite (fun _ => hk.spiAnswer) fun _ => hk.readReg.spiAnswer

theorem Keeps.spiBufWrite {x : SpiTx} (hk : Keeps line s₀ s) : Keeps line s₀ (spiBufWrite x s) :=
  .ite (fun _ => hk) fun _ => .ite (fun _ => hk.spiDiscard) fun _ => .updBuf rfl hk (fun h => memWrite_wf h ..) rfl rfl rfl rfl rfl rfl rfl rfl rfl

theorem Keeps.spiBufRead {x : SpiTx} (hk : Keeps line s₀ s) : Keeps line s₀ (spiBufRead x s) :=
  .ite (fun _ => hk) fun _ => .ite (fun _ => hk.spiDiscard) fun _ => .spiAnswer (.same hk rfl rfl)

theorem Keeps.spiPost {x : SpiTx} (hk : Keeps line s₀ s) : Keeps line s₀ (spiPost x s) :=
  .ite (fun _ => hk) fun _ => .ite (fun _ => hk.spiDiscard) fun _ => .strayMailbox (.same hk rfl rfl)

theorem Keeps.spiMbRead {x : SpiTx} (hk : Keeps line s₀ s) : Keeps line s₀ (spiMbRead x s) :=
  .ite (fun _ => hk) fun _ => .ite (fun _ => hk.spiDiscard) fun _ => .spiAnswer (.same hk rfl rfl)

/-! Collide -/

theorem Keeps.opened {ok : Bool} {go : State → State} (hk : Keeps line s₀ s) (hgo : ∀ s, Keeps line s₀ s → Keeps line s₀ (go s)) :
    Keeps line s₀ (opened ok go s) :=
  .ite (fun _ => hgo _ hk) fun _ => hk

theorem Keeps.applyEarly {c : Instr} {go : State → State} (hk : Keeps line s₀ s) (hgo : ∀ s, Keeps line s₀ s → Keeps line s₀ (go s)) :
    Keeps line s₀ (applyEarly c go s) :=
  .same (hgo _ hk) rfl rfl

theorem Keeps.inTurn {c : Instr} {go : State → State} (hk : Keeps line s₀ s) (hgo : ∀ s, Keeps line s₀ s → Keeps line s₀ (go s)) :
    Keeps line s₀ (inTurn c go s) :=
  .ite (fun _ => .same hk rfl rfl) fun _ => hgo _ hk

/-- The effect of a register write over PCIe. -/
theorem Keeps.hostWrite {c : Instr} {w : HostWrite} (e : hostWrite c = some w) (hk : Keeps line s₀ s) : Keeps line s₀ (w.go s) := by
  unfold Machine.hostWrite at e
  split at e <;> cases e
  case h_1 => exact hk.barWrite
  case h_2 => exact hk.opened fun _ => .writeIlcfg
  case h_3 => exact .ite (fun _ => hk) fun _ => hk.writeLedgerSel
  case h_4 => exact hk.opened fun _ => .writeGazCfg
  case h_5 => exact hk.opened fun _ => .writeMbbase
  case h_6 => exact hk.opened fun _ => .heartbeat
  case h_7 => exact hk.opened fun _ => .writeHbcfg
  case h_8 => exact hk.opened fun _ => .writeRcfg
  case h_9 => exact hk.opened fun _ => .writeRcfg
  case h_10 => exact hk.opened fun _ => .doneWrite
  case h_11 => exact hk.opened fun _ hk => .onIc hk
  case h_12 => exact hk.opened fun _ => .swset
  case h_13 => exact hk.opened fun _ => .pendClear
  case h_14 => exact hk.opened fun _ => .onIc
  case h_15 => exact hk.opened fun _ hk => .same hk rfl rfl

theorem Keeps.hostFirst {p : Nat → Bool} (hk : Keeps line s₀ s) : Keeps line s₀ (hostFirst p s) := by
  refine .foldl (fun s y hk => ?_) hk
  split
  exacts [.ite (fun _ => hk.applyEarly fun _ => .hostWrite ‹_›) fun _ => hk, hk]

theorem Keeps.spiWrite {c : Instr} {w : Nat × (State → State)} (e : spiWrite c = some w) (hk : Keeps line s₀ s) : Keeps line s₀ (w.2 s) := by
  unfold Machine.spiWrite at e
  split at e <;> cases e
  exact hk.spiRegWrite

theorem Keeps.writesFirst (hk : Keeps line s₀ s) : Keeps line s₀ (writesFirst s) := by
  refine .foldl (fun s y hk => ?_) hk.hostFirst
  split
  exacts [.ite (fun _ => hk.applyEarly fun _ => .spiWrite ‹_›) fun _ => hk, hk]

theorem Keeps.runWrite {c : Instr} (hk : Keeps line s₀ s) : Keeps line s₀ (runWrite c s) := by
  unfold Machine.runWrite
  split
  exacts [hk.inTurn fun _ => .hostWrite ‹_›, hk]

theorem Keeps.spiWriteTurn {t : Nat} {x : SpiTx} (hk : Keeps line s₀ s) : Keeps line s₀ (spiWriteTurn t x s) :=
  .inTurn hk (fun _ hk => hk.hostFirst.spiRegWrite)

theorem Keeps.readTurn {a : Nat} (hk : Keeps line s₀ s) : Keeps line s₀ (readTurn a s) :=
  .ite (fun _ => hk) fun _ => .timersUp (.ite (fun _ => hk.writesFirst) fun _ => hk)

theorem Keeps.spiReadTurn {x : SpiTx} (hk : Keeps line s₀ s) : Keeps line s₀ (spiReadTurn x s) := hk.readTurn.spiRegRead

theorem Keeps.hostClaim {n : Nat} (hk : Keeps line s₀ s) : Keeps line s₀ (hostClaim n s) :=
  .ite (fun _ => .same hk.writesFirst.timersUp.claimRead rfl rfl) fun _ => hk

/-! FieldEvents -/

theorem Keeps.atPower {f : State → PowerSt → PowerSt} (hk : Keeps line s₀ s) : Keeps line s₀ (atPower f s) :=
  .ite (fun _ => hk) fun _ => hk.onPower

theorem Keeps.atIo {f : State → IoSt → IoSt × List RecBody} (hk : Keeps line s₀ s) : Keeps line s₀ (atIo f s) :=
  .ite (fun _ => hk) fun _ => hk.putIo

theorem Keeps.atIoOnly {f : State → IoSt → IoSt} (hk : Keeps line s₀ s) : Keeps line s₀ (atIoOnly f s) := hk.atIo

theorem Keeps.atFan {ch : Nat} {f : State → FanEnv → PowerSt → FanSt → FanSt} (hk : Keeps line s₀ s) : Keeps line s₀ (atFan ch f s) :=
  hk.atPower

theorem Keeps.pushShort {k short : Nat} {b : RecBody} (hk : Keeps line s₀ s) : Keeps line s₀ (pushShort k short b s) :=
  .ite (fun _ => hk.setFar) fun _ => hk.setFar

theorem Keeps.valveRow {c : Instr} (hk : Keeps line s₀ s) : Keeps line s₀ (valveRow c s) := by
  unfold Machine.valveRow
  split
  exacts [hk.atPower, hk.atPower, hk.atPower, hk.atPower, hk.atPower, hk.atPower, hk.atPower, hk.farFrame, hk]

theorem Keeps.valveRows (hk : Keeps line s₀ s) : Keeps line s₀ (valveRows s) := .foldl (fun _ _ => .valveRow) hk

theorem Keeps.deferTimeout {ch : Nat} (hk : Keeps line s₀ s) : Keeps line s₀ (deferTimeout ch s) := .ite (fun _ => hk) fun _ => hk.atPower

theorem Keeps.peakTimeout {ch : Nat} (hk : Keeps line s₀ s) : Keeps line s₀ (peakTimeout ch s) := .ite (fun _ => hk) fun _ => hk.atPower

theorem Keeps.valveMovement {ch : Nat} {bins : List Int} (hk : Keeps line s₀ s) : Keeps line s₀ (valveMovement ch bins s) := by
  unfold Machine.valveMovement
  split
  · exact hk
  · split
    · exact hk.putPower
    · dsimp only
      split
      exacts [hk.putPower.pushRec.onValve, hk.putPower.pushRec]

theorem Keeps.fanFirst {ch : Nat} (hk : Keeps line s₀ s) : Keeps line s₀ (fanFirst ch s) := by
  unfold Machine.fanFirst
  refine .foldl (fun s y hk => ?_) hk
  split
  exacts [hk.atFan, hk.farFrame, hk]

theorem Keeps.windowEnd {ch i : Nat} (hk : Keeps line s₀ s) : Keeps line s₀ (windowEnd ch i s) := by
  unfold Machine.windowEnd
  dsimp only
  split
  exacts [.ite (fun _ => hk.atFan) fun _ => hk, hk]

theorem Keeps.judgeRun {ch i : Nat} (hk : Keeps line s₀ s) : Keeps line s₀ (judgeRun ch i s) := by
  unfold Machine.judgeRun
  dsimp only
  split
  exacts [hk.atFan, hk]

theorem Keeps.fanReport {ch i : Nat} (hk : Keeps line s₀ s) : Keeps line s₀ (fanReport ch i s) :=
  .ite (fun _ => hk) fun _ => by split; exacts [hk, .foldl (fun _ _ => .pushShort) hk.onPower]

theorem Keeps.inputSample {ch back : Nat} {x : Nat × Nat × Nat} (hk : Keeps line s₀ s) : Keeps line s₀ (inputSample ch back x s) := by
  unfold Machine.inputSample
  split
  exacts [hk, .foldl (fun _ _ => .pushRec) hk.putIo]

theorem Keeps.inputSamples {ch : Nat} {l : List (Nat × Nat × Nat)} (hk : Keeps line s₀ s) : Keeps line s₀ (inputSamples ch l s) :=
  .ite (fun _ => hk) fun _ => .foldl (fun _ _ => .inputSample) hk

theorem Keeps.uioFrame {ch current : Nat} {l : List (Nat × Nat × Nat)} (hk : Keeps line s₀ s) :
    Keeps line s₀ (uioFrame ch current l s) := by
  unfold Machine.uioFrame
  dsimp only
  split
  · exact hk.inputSamples
  · split
    · exact hk.inputSamples
    · exact .ite (fun _ => .foldl (fun _ _ => .pushShort) hk.inputSamples.putIo)
        fun _ => .used (.foldl (fun _ _ => .pushShort) hk.inputSamples.putIo)

theorem Keeps.powerSupplyOff (hk : Keeps line s₀ s) : Keeps line s₀ (powerSupplyOff s) := hk.atPower

theorem Keeps.powerSupplyBack (hk : Keeps line s₀ s) : Keeps line s₀ (powerSupplyBack s) := hk.atPower

theorem Keeps.supplyOff {x : Supply} {mv : Nat} (hk : Keeps line s₀ s) : Keeps line s₀ (supplyOff x mv s) :=
  .ite (fun _ => hk) fun _ => by split; exacts [hk.powerSupplyOff, hk.atIoOnly, hk.atIoOnly]

theorem Keeps.supplyBack {x : Supply} {mv : Nat} (hk : Keeps line s₀ s) : Keeps line s₀ (supplyBack x mv s) :=
  .ite (fun _ => hk) fun _ => by split; exacts [.ite (fun _ => hk.powerSupplyBack) fun _ => hk, hk.atIoOnly, hk.atIoOnly]

theorem Keeps.uvWarning {vfld : Nat} (hk : Keeps line s₀ s) : Keeps line s₀ (uvWarning vfld s) := hk.atIo

theorem Keeps.uvWarnOver {vfld : Nat} (hk : Keeps line s₀ s) : Keeps line s₀ (uvWarnOver vfld s) := hk.atIoOnly

theorem Keeps.dieReset {k mv : Nat} (hk : Keeps line s₀ s) : Keeps line s₀ (dieReset k mv s) :=
  .ite (fun _ => hk) fun _ => .ite (fun _ => .same (.same hk.setFar rfl rfl) rfl rfl) fun _ => .same (.same hk.setFar rfl rfl) rfl rfl

theorem Keeps.dieRestart {k mv : Nat} (hk : Keeps line s₀ s) : Keeps line s₀ (dieRestart k mv s) := .ite (fun _ => hk.setFar) fun _ => hk

/-! Engine -/

theorem Keeps.chainFrame {n : Nat} {d : Bytes} (hk : Keeps line s₀ s) : Keeps line s₀ (chainFrame n d s) := .same hk rfl rfl

/-! SysCmds -/

theorem Keeps.sysInfo {c : Cmd} (hk : Keeps line s₀ s) : Keeps line s₀ (sysInfo c s).st := hk.answer

theorem Keeps.loadDatum {c : Cmd} (hk : Keeps line s₀ s) : Keeps line s₀ (loadDatum c s).st :=
  .iteNext (fun _ => hk.refuse) fun _ => by split; exacts [.done hk, .wait hk]

theorem Keeps.commitDatum {c : Cmd} (hk : Keeps line s₀ s) : Keeps line s₀ (commitDatum c s).st := by
  unfold Machine.commitDatum
  split
  · exact hk.refuse
  · split
    · exact hk.refuse
    · exact hk.refuse
    · exact .iteNext (fun _ => hk.ledStart.storeDatum.refuse) fun _ => .done (.same hk.ledStart.storeDatum.clearDies rfl rfl)

theorem Keeps.readDatum {c : Cmd} (hk : Keeps line s₀ s) : Keeps line s₀ (readDatum c s).st := hk.answer

theorem Keeps.stopWork {c : Cmd} (hk : Keeps line s₀ s) : Keeps line s₀ (stopWork c s) :=
  .ite (fun _ => .same hk rfl rfl) fun _ => .ite (fun _ => .same hk rfl rfl) fun _ => .ite (fun _ => hk.onSense)
    fun _ => .ite (fun _ => hk.onSense) fun _ => .ite (fun _ => hk.setCan) fun _ => .ite (fun _ => .same hk rfl (by simp))
      fun _ => .ite (fun _ => .same hk rfl rfl) fun _ => .ite (fun _ => .same hk rfl rfl) fun _ => hk

theorem Keeps.abort {c : Cmd} (hk : Keeps line s₀ s) : Keeps line s₀ (abort c s).st := by
  unfold Machine.abort
  split
  exacts [hk.refuse, hk.stopWork.used.finish.okResult]

theorem Keeps.exchangeRead {c : Cmd} (hk : Keeps line s₀ s) : Keeps line s₀ (exchangeRead c s).st :=
  .iteNext (fun _ => hk.refuse) fun _ => hk.answer

theorem Keeps.feedFuture {x : Sample} (hk : Keeps line s₀ s) : Keeps line s₀ (feedFuture x s) := .capOdd (.same hk rfl rfl)

theorem Keeps.feedOne {f : Feed} {r : Bytes} (hk : Keeps line s₀ f.s) : Keeps line s₀ (feedOne f r).s := by
  unfold Machine.feedOne
  dsimp only
  split
  · exact hk
  · split
    exacts [hk.feedFuture, hk.intake]

theorem Keeps.feedAll {l : List Bytes} {f : Feed} (hk : Keeps line s₀ f.s) : Keeps line s₀ (l.foldl Machine.feedOne f).s := by
  induction l generalizing f with
  | nil => exact hk
  | cons r l ih => exact ih hk.feedOne

theorem Keeps.sampleFeed {c : Cmd} (hk : Keeps line s₀ s) : Keeps line s₀ (sampleFeed c s).st :=
  .iteNext (fun _ => hk.refuse) fun _ => .okResult (Keeps.feedAll (f := ⟨s, 0, 0⟩) hk)

/-! Frame -/

theorem Keeps.captureStartEff {n : Nat} {c : Cmd} (hk : Keeps line s₀ s) : Keeps line s₀ (captureStartEff n c s).st :=
  .iteNext (fun _ => hk.refuse) fun _ => hk.captureBegin.doneE

theorem Keeps.captureStopEff {n : Nat} {c : Cmd} (hk : Keeps line s₀ s) : Keeps line s₀ (captureStopEff n c s).st :=
  .iteNext (fun _ => hk.captureEnd.okResult) fun _ => hk.refuse

theorem Keeps.hostSilentEff {n : Nat} {c : Cmd} (hk : Keeps line s₀ s) : Keeps line s₀ (hostSilentEff n c s).st := hk.setPlant.doneE

theorem Keeps.hostReturnEff {n : Nat} {c : Cmd} (hk : Keeps line s₀ s) : Keeps line s₀ (hostReturnEff n c s).st := hk.setPlant.doneE

theorem Keeps.safeSeenEff {n : Nat} {c : Cmd} (hk : Keeps line s₀ s) : Keeps line s₀ (safeSeenEff n c s).st := hk.setPlant.doneE

theorem Keeps.hostLimitEff {n : Nat} {c : Cmd} (hk : Keeps line s₀ s) : Keeps line s₀ (hostLimitEff n c s).st := hk.setPlant.doneE

/-- The effects of the frame-tied commands on the plant. -/
theorem Keeps.plantEffect {op n : Nat} {c : Cmd} {f : Effect} (e : plantEffect op = some f) (hk : Keeps line s₀ s) :
    Keeps line s₀ (f n c s).st := by
  unfold Machine.plantEffect at e
  split at e <;> cases e
  case h_1 => exact hk.effIf fun _ _ _ => .mapPrimeEff
  case h_2 => exact hk.effIf fun _ _ _ => .biasResetEff
  case h_3 => exact hk.effIf fun _ _ _ => .setInletEff
  case h_4 => exact hk.mapRestoreEff
  case h_5 => exact hk.effIf fun _ _ _ => .dischargeStartEff
  case h_6 => exact hk.dischargeStopEff
  case h_7 => exact hk.setRateEff
  case h_8 => exact hk.setTargetEff
  case h_9 => exact hk.effIf fun _ _ _ => .heatPermitEff
  case h_10 => exact hk.effIf fun _ _ _ => .heatOverrideEff
  case h_11 => exact hk.setPlenumEff
  case h_12 => exact hk.effIf fun _ _ _ => .routeStartEff
  case h_13 => exact hk.effIf fun _ _ _ => .routeStopEff
  case h_14 => exact hk.batchControlEff
  case h_15 => exact hk.dryRearmEff
  case h_16 => exact hk.hostSilentEff
  case h_17 => exact hk.hostReturnEff
  case h_18 => exact hk.safeSeenEff
  case h_19 => exact hk.hostLimitEff
  case h_20 => exact hk.effIf fun _ _ _ => .aerationModeEff
  case h_21 => exact hk.effIf fun _ _ _ => .aerationForceEff
  case h_22 => exact hk.stoAckEff

/-- The effects of all frame-tied commands; SAFE_RELEASE and PLAN_ARM clear the safe-state line. -/
theorem Keeps.frameEffect {op n : Nat} {c : Cmd} {f : Effect} (e : frameEffect op = some f) (hk : Keeps false s₀ s) :
    Keeps false s₀ (f n c s).st := by
  unfold Machine.frameEffect at e
  split at e
  case h_14 => exact hk.plantEffect e
  all_goals cases e
  case h_1 => exact hk.pwrStateEffect
  case h_2 => exact hk.safeReleaseEffect
  case h_3 => exact hk.planArmEffect
  case h_4 => exact hk.captureStartEff
  case h_5 => exact hk.captureStopEff
  case h_6 => exact hk.effIf fun _ _ _ => .mapExportEff
  case h_7 => exact hk.mapSaveEff
  case h_8 => exact hk.vlvForceEff
  case h_9 => exact hk.fanSetEff
  case h_10 => exact hk.fanForceEff
  case h_11 => exact hk.fanLoopSetEff
  case h_12 => exact hk.uioSetEff
  case h_13 => exact hk.uioForceEff

theorem Keeps.settleNext {c : Cmd} {r : Next} (hk : Keeps line s₀ r.st) : Keeps line s₀ (settleNext c r s) := by
  cases r with
  | done s1 st prog res => exact Keeps.finish hk
  | wait s1 c1 => exact .same (x := s1) hk rfl rfl

theorem Keeps.takeEffect {n : Nat} {c : Cmd} (hk : Keeps false s₀ s) : Keeps false s₀ (takeEffect n s c) := by
  unfold Machine.takeEffect
  split
  exacts [hk, .countRoutes (.settleNext (.frameEffect ‹_› hk.ledRun))]

theorem Keeps.takeEffects {n : Nat} {l : List Cmd} (hk : Keeps false s₀ s) : Keeps false s₀ (l.foldl (Machine.takeEffect n) s) :=
  .foldl (fun _ _ => .takeEffect) hk

theorem Keeps.capGroup {n : Nat} {ovr : Bool} {d : Bytes} {cmds : List Cmd} {xs : List Sample} (hk : Keeps line s₀ s) :
    Keeps line s₀ (capGroup n ovr d cmds xs s) :=
  .ite (fun _ => .ite (fun _ => .same hk.capPuts rfl rfl) fun _ => hk.capPuts) fun _ => hk

theorem Keeps.countEngine {ce : Nat} {q : MapPass} (hk : Keeps line s₀ s) : Keeps line s₀ (countEngine ce q s) :=
  .hitIf (.hitIf (.hitIf (.same hk rfl rfl)))

theorem Keeps.noteGaz {n : Nat} (hk : Keeps line s₀ s) : Keeps line s₀ (noteGaz n s) := .same hk rfl rfl

theorem Keeps.liveWork {n : Nat} {xs : List Sample} {tile ext : List (Nat × List Nat)} {ce : Nat} (hk : Keeps line s₀ s) :
    Keeps line s₀ (liveWork n xs tile ext ce s).1 :=
  .fst (.fillLanes (.noteGaz (.countEngine (.raises (.ite (fun _ =>
    .hit (.same (.countTons (.countRoutes (.same (.ite (fun _ => hk.nodesJudge) fun _ => hk) rfl rfl))) rfl rfl))
      fun _ => .countTons (.countRoutes (.same (.ite (fun _ => hk.nodesJudge) fun _ => hk) rfl rfl)))))))

theorem Keeps.closeFrame {n : Nat} {late ovr : Bool} {cmds : List Cmd} {xs : List Sample} (hk : Keeps line s₀ s) :
    Keeps line s₀ (closeFrame n late ovr cmds xs s) := by
  have h := (hk.chainFrame (n := n) (d := frameDigest n ovr (if ovr then heldOuts s.datum s.frm.inForce else s.plant.outs))).capGroup
    (n := n) (ovr := ovr) (d := frameDigest n ovr (if ovr then heldOuts s.datum s.frm.inForce else s.plant.outs)) (cmds := cmds) (xs := xs)
  refine .same h ?_ rfl
  cases ovr <;> rfl

theorem Keeps.sendDecisions (hk : Keeps line s₀ s) : Keeps line s₀ (sendDecisions s) := by
  unfold Machine.sendDecisions
  refine .foldl (fun s y hk => ?_) hk
  split
  exacts [hk, .ite (fun _ => hk) fun _ => hk.setCan]

theorem Keeps.moveOut {n : Nat} (hk : Keeps line s₀ s) : Keeps line s₀ (moveOut n s) :=
  .ite (fun _ => .same hk.leaseOut rfl rfl)
    fun _ => by split; exacts [.ite (fun _ => .same (.ite (fun _ => hk.safeOut) fun _ => hk.leaseOut) rfl rfl) fun _ => hk, hk]

theorem Keeps.applyFrame {n : Nat} {ovr : Bool} {outs : List Out} (hk : Keeps line s₀ s) : Keeps line s₀ (applyFrame n ovr outs s) :=
  .moveOut (.sendDecisions (.same (.same (.ite (fun _ => hk) fun _ => .same hk rfl rfl) rfl rfl) rfl rfl))

theorem Keeps.missFrame {n : Nat} (hk : Keeps line s₀ s) : Keeps line s₀ (missFrame n s) := .sendDecisions (.same hk rfl rfl)

theorem Keeps.lapseFrame (hk : Keeps line s₀ s) : Keeps line s₀ (lapseFrame s) := by
  unfold Machine.lapseFrame
  split
  exacts [.ite (fun _ => hk) fun _ => hk.missFrame, hk]

theorem Keeps.applyNow (hk : Keeps line s₀ s) : Keeps line s₀ (applyNow s) := by
  unfold Machine.applyNow
  split
  exacts [.ite (fun _ => hk) fun _ => hk.applyFrame, hk.lapseFrame]

theorem Keeps.cycleEnd {late : Bool} {n : Nat} (hk : Keeps line s₀ s) : Keeps line s₀ (cycleEnd late n s) := by
  unfold Machine.cycleEnd
  extract_lets _ ended ic
  have hended : Keeps line s₀ ended := .same hk rfl rfl
  split
  · extract_lets back
    have hwoken : Keeps line s₀ { ended with ic := { ic with latched := [] } } := .same hended rfl rfl
    have hback : Keeps line s₀ back := hwoken.commitStore.lifeCommit.backToRun
    exact .same hback rfl rfl
  · exact .ite (fun _ => hended.moveOut) fun _ => hended

/-- What follows the close of a frame: the end of a WATCH cycle, or a late frame's move. -/
theorem Keeps.afterClose {p q : Prop} [Decidable p] [Decidable q] {late : Bool} {n : Nat} (hk : Keeps line s₀ s) :
    Keeps line s₀ (if p then Machine.cycleEnd late n s else if q then Machine.moveOut n s else s) :=
  .ite (fun _ => hk.cycleEnd) fun _ => .ite (fun _ => hk.moveOut) fun _ => hk

theorem Keeps.decideFrame {n : Nat} {tile ext : List (Nat × List Nat)} {ce : Nat} (hk : Keeps false s₀ s) :
    Keeps false s₀ (decideFrame n tile ext ce s) :=
  .afterClose (.closeFrame (.takeEffects (.liveWork (.takeEffects (.setPlant (.takeEffects hk.configsGovern))))))

theorem Keeps.decisionsDue {tile ext : List (Nat × List Nat)} {ce : Nat} (hk : Keeps false s₀ s) :
    Keeps false s₀ (decisionsDue tile ext ce s) := by
  unfold Machine.decisionsDue
  dsimp only
  split
  exacts [.ite (fun _ => hk.lapseFrame.decideFrame) fun _ => hk.lapseFrame, hk.lapseFrame]

theorem Keeps.longWork {op : Nat} {c : Cmd} {f : Cmd → State → Next} (e : longWork op = some f) (hk : Keeps line s₀ s) :
    Keeps line s₀ (f c s).st := by
  unfold Machine.longWork at e
  split at e <;> cases e
  exacts [hk.commitDatum, hk.commitLegend, hk.applyWork]

theorem Keeps.completion {src : Src} {tag : Nat} (hk : Keeps line s₀ s) : Keeps line s₀ (completion src tag s) := by
  unfold Machine.completion
  split
  · exact hk
  · split
    exacts [.settleNext (hk.longWork ‹_›), hk]

/-! GazCmds -/

theorem Keeps.gazStatus {c : Cmd} (hk : Keeps line s₀ s) : Keeps line s₀ (gazStatus c s).st := hk.okResult

theorem Keeps.gazRead {c : Cmd} (hk : Keeps line s₀ s) : Keeps line s₀ (gazRead c s).st :=
  .iteNext (fun _ => hk.refuse) fun _ => .iteNext (fun _ => hk.refuse) fun _ => hk.answer

theorem Keeps.gazWipe {a lw : Bool} (hk : Keeps line s₀ s) : Keeps line s₀ (gazWipe a lw s) :=
  .ite (fun _ => .ite (fun _ => .writeRange (.same hk rfl rfl)) fun _ => .hit (.same (.writeRange (.same hk rfl rfl)) rfl rfl)) fun _ => .same hk rfl rfl

theorem Keeps.gazClear {c : Cmd} (hk : Keeps line s₀ s) : Keeps line s₀ (gazClear c s).st :=
  .iteNext (fun _ => hk.refuse) fun _ => .iteNext (fun _ => hk.ledTarget.storeG0.gazWipe.raise.okResult)
    fun _ => hk.ledTarget.storeG0.gazFail.refuse

theorem Keeps.lifeRead {c : Cmd} (hk : Keeps line s₀ s) : Keeps line s₀ (lifeRead c s).st :=
  .iteNext (fun _ => hk.refuse) fun _ => hk.answer

theorem Keeps.lifeReplace {c : Cmd} (hk : Keeps line s₀ s) : Keeps line s₀ (lifeReplace c s).st :=
  .iteNext (fun _ => hk.refuse) fun _ => hk.onValve.okResult

theorem Keeps.maintAck {c : Cmd} (hk : Keeps line s₀ s) : Keeps line s₀ (maintAck c s).st := by
  unfold Machine.maintAck
  split
  exacts [hk.refuse, .iteNext (fun _ => hk.setLife.okResult) fun _ => hk.refuse]

theorem Keeps.lastWordsRead {c : Cmd} (hk : Keeps line s₀ s) : Keeps line s₀ (lastWordsRead c s).st := hk.answer

theorem Keeps.gazSecondDue (hk : Keeps line s₀ s) : Keeps line s₀ (gazSecondDue s) := .ite (fun _ => hk.gazSecond) fun _ => hk

theorem Keeps.gazPeriodDue {level : Nat} (hk : Keeps line s₀ s) : Keeps line s₀ (gazPeriodDue level s) :=
  .ite (fun _ => hk) fun _ => .ite (fun _ => .ite (fun _ => hk.closePeriod) fun _ => hk)
    fun _ => .ite (fun _ => .closePeriod (.ite (fun _ => hk.closePeriod) fun _ => hk)) fun _ => hk

theorem Keeps.hourlyDue (hk : Keeps line s₀ s) : Keeps line s₀ (hourlyDue s) :=
  .ite (fun _ => .ite (fun _ => .same hk rfl rfl) fun _ => .benchB (.same hk rfl rfl)) fun _ => hk

theorem Keeps.lifeCommitDue (hk : Keeps line s₀ s) : Keeps line s₀ (lifeCommitDue s) := .ite (fun _ => hk.lifeCommit) fun _ => hk

/-! KeyCmds -/

theorem Keeps.keyStatus {c : Cmd} (hk : Keeps line s₀ s) : Keeps line s₀ (keyStatus c s).st :=
  .iteNext (fun _ => hk.refuse) fun _ => hk.okResult

theorem Keeps.keyChange {c : Cmd} (hk : Keeps line s₀ s) : Keeps line s₀ (keyChange c s).st :=
  .iteNext (fun _ => hk.refuse) fun _ => by split; exacts [hk.refuse, .done hk.ledTarget.installKey]

theorem Keeps.keyErase {c : Cmd} (hk : Keeps line s₀ s) : Keeps line s₀ (keyErase c s).st :=
  .iteNext (fun _ => hk.refuse) fun _ => .done hk.ledTarget.storeKey

theorem Keeps.cosignSet {c : Cmd} (hk : Keeps line s₀ s) : Keeps line s₀ (cosignSet c s).st :=
  .iteNext (fun _ => .done hk.ledTarget.storeCosign) fun _ => hk.refuse

theorem Keeps.cosignRead {c : Cmd} (hk : Keeps line s₀ s) : Keeps line s₀ (cosignRead c s).st := hk.answer

theorem Keeps.queryLedger {c : Cmd} (hk : Keeps line s₀ s) : Keeps line s₀ (queryLedger c s).st :=
  .iteNext (fun _ => hk.refuse) fun _ => hk.answer

theorem Keeps.settingsCommit {c : Cmd} (hk : Keeps line s₀ s) : Keeps line s₀ (settingsCommit c s).st :=
  .done (.commitAll (.ite (fun _ => hk.clearLearned) fun _ => hk))

theorem Keeps.nvsStatus {c : Cmd} (hk : Keeps line s₀ s) : Keeps line s₀ (nvsStatus c s).st := hk.okResult

/-! Replay -/

theorem Keeps.setRpl {r : Replay} (hk : Keeps line s₀ s) : Keeps line s₀ (s.setRpl r) := .same hk rfl rfl

theorem Keeps.replayEnd {st at' : Nat} (hk : Keeps line s₀ s) : Keeps line s₀ (replayEnd st at' s) := hk.setRpl

theorem Keeps.replayEffect {n : Nat} {q : Bytes × Bytes} (hk : Keeps line s₀ s) : Keeps line s₀ (replayEffect n s q) := by
  unfold Machine.replayEffect
  dsimp only
  split
  · exact hk.setPlant
  · split
    · exact hk
    · split
      exacts [hk.setPlant, hk.setPlant]

theorem Keeps.replayFrame {rec' : Bytes} (hk : Keeps line s₀ s) : Keeps line s₀ (replayFrame rec' s) :=
  .ite (fun _ => .raise (.setRpl (.chainFrame (.countEngine (.setPlant (.foldl (fun _ _ => .replayEffect) hk.setPlant)))))) fun _ =>
    .setRpl (.chainFrame (.countEngine (.setPlant (.foldl (fun _ _ => .replayEffect) hk.setPlant))))

theorem Keeps.replayHeader {at' : Nat} {rec' : Bytes} (hk : Keeps line s₀ s) : Keeps line s₀ (replayHeader at' rec' s) :=
  .ite (fun _ => hk.replayEnd) fun _ => .ite (fun _ => hk.setRpl) fun _ => .ite (fun _ => hk.setRpl.replayEnd)
    fun _ => .ite (fun _ => hk.setRpl.replayEnd) fun _ => hk.setRpl

theorem Keeps.replayGroup {at' : Nat} {rec' : Bytes} (hk : Keeps line s₀ s) : Keeps line s₀ (replayGroup at' rec' s) :=
  .ite (fun _ => .ite (fun _ => hk.setRpl) fun _ => hk.replayEnd) fun _ => .ite (fun _ => .ite (fun _ => hk)
    fun _ => .ite (fun _ => hk.setRpl) fun _ => hk.replayEnd) fun _ => .ite (fun _ => hk.setRpl)
      fun _ => .ite (fun _ => hk.setRpl) fun _ => .ite (fun _ => by split; exacts [hk.replayEnd, hk.replayFrame])
        fun _ => .ite (fun _ => hk) fun _ => hk.replayEnd

theorem Keeps.replayTake {rec' : Bytes} (hk : Keeps line s₀ s) : Keeps line s₀ (replayTake rec' s) :=
  .ite (fun _ => hk) fun _ => .ite (fun _ => hk.setRing.writeShadow)
    fun _ => .ite (fun _ => hk.setRing.writeShadow.replayHeader) fun _ => hk.setRing.writeShadow.replayGroup

/-! SenseEvents -/

theorem Keeps.conversionEnds {l : Nat} {nv : Int} {sref : Nat} {overload : Bool} (hk : Keeps line s₀ s) :
    Keeps line s₀ (conversionEnds l nv sref overload s) :=
  .ite (fun _ => hk.onSense.used) fun _ => hk.onSense

/-! Step -/

theorem Keeps.ofRun {s' : State} {t : Nat} {f : State → State} (e : run t f s = .next s') (hk : Keeps line s (f (Machine.advance t s))) :
    Keeps line s s' := by
  cases e
  exact hk.icSettle

theorem Keeps.ofCommand {s' : State} {t : Nat} {k : Spec} {go : Cmd → State → Next} {d : Desc}
    (e : run t (Machine.command k go d) s = .next s') (hgo : ∀ c x, Keeps line s x → Keeps line s (go c x).st) : Keeps line s s' :=
  .ofRun e (Keeps.rfl'.advance.command hgo)

/-- The rows whose effect may clear the safe-state line. -/
def decides : Instr → Bool
  | .frameDecisions .. => true
  | _ => false

theorem Keeps.execMerNowLoRead {t : Nat} {path : Path} {s' : State} (e : execMerNowLoRead t path s = .next s') : Keeps line s s' := by
  have hk := (Keeps.rfl' (b := line) (s := s)).advance (t := t)
  refine .ofRun e ?_
  cases path
  exacts [.ite (fun _ => .same hk.latchNow rfl rfl) fun _ => hk, .ite (fun _ => hk) fun _ => .same hk.latchNow rfl rfl]

theorem Keeps.execFarFrameReceive {t link : Nat} {dmg : Damage} {s' : State} (e : execFarFrameReceive t link dmg s = .next s') :
    Keeps line s s' := by
  have hk := (Keeps.rfl' (b := line) (s := s)).advance (t := t)
  exact .ofRun e (.ite (fun _ => hk.judgedFirst.farFrame) fun _ => hk)

theorem Keeps.execFarFrameSend {t link : Nat} {s' : State} (e : execFarFrameSend t link s = .next s') : Keeps line s s' := by
  have hk := (Keeps.rfl' (b := line) (s := s)).advance (t := t)
  exact .ofRun e (.ite (fun _ => hk.farSend) fun _ => hk)

theorem Keeps.execFarSilenceTimeout {t link : Nat} {s' : State} (e : execFarSilenceTimeout t link s = .next s') : Keeps line s s' := by
  have hk := (Keeps.rfl' (b := line) (s := s)).advance (t := t)
  exact .ofRun e (.ite (fun _ => hk.farSilence) fun _ => hk)

theorem Keeps.execNearSilenceTimeout {t link : Nat} {s' : State} (e : execNearSilenceTimeout t link s = .next s') : Keeps line s s' := by
  have hk := (Keeps.rfl' (b := line) (s := s)).advance (t := t)
  exact .ofRun e (.ite (fun _ => hk.nearSilence) fun _ => hk)

theorem Keeps.execModulationStart {t list : Nat} {s' : State} (e : execModulationStart t list s = .next s') : Keeps line s s' :=
  .ofRun e Keeps.rfl'.advance.onSense

theorem Keeps.execToneConversionEnd {t : Nat} {samples : List (List Int)} {s' : State}
    (e : execToneConversionEnd t samples s = .next s') : Keeps line s s' :=
  .ofRun e Keeps.rfl'.advance.onSense

theorem Keeps.execCheckRound {t : Nat} {s' : State} (e : execCheckRound t s = .next s') : Keeps line s s' :=
  .ofRun e Keeps.rfl'.advance.onSense

theorem Keeps.execSeqPeriodicDue {t seq : Nat} {s' : State} (e : execSeqPeriodicDue t seq s = .next s') : Keeps line s s' :=
  .ofRun e Keeps.rfl'.advance.onSense

theorem Keeps.execOpenWireRun {t list : Nat} {runs : WireRuns} {s' : State} (e : execOpenWireRun t list runs s = .next s') : Keeps line s s' :=
  .ofRun e Keeps.rfl'.advance.onSense

theorem Keeps.execSysrstNLow {t : Nat} {s' : State} (e : execSysrstNLow t s = .next s') : Keeps line s s' := by
  have hk := (Keeps.rfl' (b := line) (s := s)).advance (t := t)
  exact .ofRun e (.ite (fun _ => hk) fun _ => .warmReset (.same hk rfl rfl))

theorem Keeps.execFsafeNHigh {t : Nat} {s' : State} (e : execFsafeNHigh t s = .next s') : Keeps line s s' :=
  .ofRun e (.same (Keeps.rfl'.advance (t := t)) rfl rfl)

/-- What every command of the block keeps: row by row, what its own work keeps. -/
theorem Keeps.exec {c : Instr} {s' : State} (e : exec c s = .next s') : Keeps (!decides c) s s' := by
  have hk {line : Bool} {t : Nat} : Keeps line s (Machine.advance t s) := Keeps.rfl'.advance
  cases c with
  | readTime => exact .ofCommand e fun _ _ => .readTime
  | setSlew => exact .ofCommand e fun _ _ => .setSlew
  | setClock => exact .ofCommand e fun _ _ => .setClock
  | readEra => exact .ofCommand e fun _ _ => .readEra
  | captureStart => exact .ofCommand e fun _ _ => .waitFrame
  | captureStop => exact .ofCommand e fun _ _ => .waitFrame
  | captureRead => exact .ofCommand e fun _ _ => .captureRead
  | enterReplay => exact .ofCommand e fun _ _ => .enterReplay
  | leaveReplay => exact .ofCommand e fun _ _ => .leaveReplay
  | readDigest => exact .ofCommand e fun _ _ => .readDigest
  | replayRecord => exact .ofRun e hk.replayTake
  | mapStatus => exact .ofCommand e fun _ _ => .mapStatus
  | loadLegend => exact .ofCommand e fun _ _ => .loadLegend
  | readLegend => exact .ofCommand e fun _ _ => .readLegend
  | eraseLegend => exact .ofCommand e fun _ _ => .eraseLegend
  | mapPrime => exact .ofCommand e fun _ _ => .tieIf
  | predRead => exact .ofCommand e fun _ _ => .predRead
  | biasRead => exact .ofCommand e fun _ _ => .biasRead
  | biasReset => exact .ofCommand e fun _ _ => .tieIf
  | setInlet => exact .ofCommand e fun _ _ => .tieIf
  | pairRead => exact .ofCommand e fun _ _ => .pairRead
  | mapExport => exact .ofCommand e fun _ _ => .tieIf
  | mapSave => exact .ofCommand e fun _ _ => .waitFrame
  | mapRestore => exact .ofCommand e fun _ _ => .tieIf
  | dryStatus => exact .ofCommand e fun _ _ => .dryStatus
  | dischargeStart => exact .ofCommand e fun _ _ => .tieIf
  | dischargeStop => exact .ofCommand e fun _ _ => .tieIf
  | setRate => exact .ofCommand e fun _ _ => .tieIf
  | setTarget => exact .ofCommand e fun _ _ => .tieIf
  | heatPermit => exact .ofCommand e fun _ _ => .tieIf
  | heatOverride => exact .ofCommand e fun _ _ => .tieIf
  | setPlenum => exact .ofCommand e fun _ _ => .tieIf
  | routeStart => exact .ofCommand e fun _ _ => .tieIf
  | routeStop => exact .ofCommand e fun _ _ => .tieIf
  | batchControl => exact .ofCommand e fun _ _ => .tieIf
  | dryRearm => exact .ofCommand e fun _ _ => .tieIf
  | decisionRead => exact .ofCommand e fun _ _ => .decisionRead
  | routeStatus => exact .ofCommand e fun _ _ => .routeStatus
  | hostLimitTimeout => exact .ofRun e (.ite (fun _ => hk.hostLimit) fun _ => hk)
  | stoStatus => exact .ofCommand e fun _ _ => .stoStatus
  | aerationMode => exact .ofCommand e fun _ _ => .tieIf
  | aerationForce => exact .ofCommand e fun _ _ => .tieIf
  | stoAck => exact .ofCommand e fun _ _ => .tieIf
  | sensorRead => exact .ofCommand e fun _ _ => .sensorRead
  | budgetRead => exact .ofCommand e fun _ _ => .budgetRead
  | nodeScan => exact .ofCommand e fun _ _ => .nodeScan
  | senRead => exact .ofCommand e fun _ _ => .senRead
  | seqRequest => exact .ofCommand e fun _ _ => .seqRequest
  | cswClear => exact .ofCommand e fun _ _ => .cswClear
  | cswRead => exact .ofCommand e fun _ _ => .cswRead
  | senCounts => exact .ofCommand e fun _ _ => .senCounts
  | moistSpectrum => exact .ofCommand e fun _ _ => .moistSpectrum
  | moistEmpty => exact .ofCommand e fun _ _ => .moistEmpty
  | checkRun => exact .ofCommand e fun _ _ => .checkRun
  | checkRead => exact .ofCommand e fun _ _ => .checkRead
  | checkBaseline => exact .ofCommand e fun _ _ => .checkBaseline
  | linTest => exact .ofCommand e fun _ _ => .linTest
  | vlvStatus => exact .ofCommand e fun _ _ => .vlvStatus
  | vlvForce => exact .ofCommand e fun _ _ => .tieIf
  | vlvClear => exact .ofCommand e fun _ _ => .vlvClear
  | vlvTherm => exact .ofCommand e fun _ _ => .vlvTherm
  | fanStatus => exact .ofCommand e fun _ _ => .fanStatus
  | fanSet => exact .ofCommand e fun _ _ => .tieIf
  | fanForce => exact .ofCommand e fun _ _ => .tieIf
  | fanClear => exact .ofCommand e fun _ _ => .fanClearCmd
  | fanLoopSet => exact .ofCommand e fun _ _ => .tieIf
  | fanLearn => exact .ofCommand e fun _ _ => .fanLearn
  | uioStatus => exact .ofCommand e fun _ _ => .uioStatus
  | uioSet => exact .ofCommand e fun _ _ => .tieIf
  | uioForce => exact .ofCommand e fun _ _ => .tieIf
  | uioClear => exact .ofCommand e fun _ _ => .uioClearCmd
  | uioSupply => exact .ofCommand e fun _ _ => .uioSupply
  | canStatus => exact .ofCommand e fun _ _ => .canStatus
  | canTxCancel => exact .ofCommand e fun _ _ => .canTxCancel
  | canRecover => exact .ofCommand e fun _ _ => .canRecover
  | canClaim => exact .ofCommand e fun _ _ => .canClaim
  | canRelease => exact .ofCommand e fun _ _ => .canRelease
  | canStrangers => exact .ofCommand e fun _ _ => .canStrangers
  | sysInfo => exact .ofCommand e fun _ _ => .sysInfo
  | loadDatum => exact .ofCommand e fun _ _ => .loadDatum
  | abort => exact .ofCommand e fun _ _ => .abort
  | exchangeRead => exact .ofCommand e fun _ _ => .exchangeRead
  | sampleFeed => exact .ofCommand e fun _ _ => .sampleFeed
  | readDatum => exact .ofCommand e fun _ _ => .readDatum
  | pwrState => exact .ofCommand e fun _ _ => .pwrState
  | pwrReset => exact .ofCommand e fun _ _ => .resetOrder
  | planSet => exact .ofCommand e fun _ _ => .planSet
  | planRead => exact .ofCommand e fun _ _ => .planRead
  | safeRelease => exact .ofCommand e fun _ _ => .safeRelease
  | safeSet => exact .ofCommand e fun _ _ => .safeSet
  | safeStatus => exact .ofCommand e fun _ _ => .safeStatus
  | keyStatus => exact .ofCommand e fun _ _ => .keyStatus
  | keyChange => exact .ofCommand e fun _ _ => .keyChange
  | keyErase => exact .ofCommand e fun _ _ => .keyErase
  | cosignSet => exact .ofCommand e fun _ _ => .cosignSet
  | cosignRead => exact .ofCommand e fun _ _ => .cosignRead
  | queryLedger => exact .ofCommand e fun _ _ => .queryLedger
  | settingsCommit => exact .ofCommand e fun _ _ => .settingsCommit
  | nvsStatus => exact .ofCommand e fun _ _ => .nvsStatus
  | updStatus => exact .ofCommand e fun _ _ => .updStatus
  | updBegin => exact .ofCommand e fun _ _ => .updBegin
  | updBlock => exact .ofCommand e fun _ _ => .updBlock
  | updBitmap => exact .ofCommand e fun _ _ => .updBitmap
  | updApply => exact .ofCommand e fun _ _ => .updApply
  | updActivate => exact .ofCommand e fun _ _ => .updActivate
  | updConfirm => exact .ofRun e hk.confirmCommand
  | updFallback => exact .ofCommand e fun _ _ => .updFallback
  | updCancel => exact .ofCommand e fun _ _ => .updCancel
  | stageBegin => exact .ofCommand e fun _ _ => .stageBegin
  | stageWrite => exact .ofCommand e fun _ _ => .stageWrite
  | stageCommit => exact .ofCommand e fun _ _ => .stageCommit
  | stageStatus => exact .ofCommand e fun _ _ => .stageStatus
  | gazStatus => exact .ofCommand e fun _ _ => .gazStatus
  | gazRead => exact .ofCommand e fun _ _ => .gazRead
  | gazClear => exact .ofCommand e fun _ _ => .gazClear
  | lifeRead => exact .ofCommand e fun _ _ => .lifeRead
  | lifeReplace => exact .ofCommand e fun _ _ => .lifeReplace
  | maintAck => exact .ofCommand e fun _ _ => .maintAck
  | lastWordsRead => exact .ofCommand e fun _ _ => .lastWordsRead
  | doorbellWrite => exact .ofRun e (.ite (fun _ => hk.doorbell) fun _ => hk)
  | heartbeatDoorbell => exact .ofRun e (.ite (fun _ => hk.heartbeat) fun _ => hk)
  | hifHbkick => exact .ofRun e hk.runWrite
  | hifHbcfgWrite => exact .ofRun e hk.runWrite
  | heartbeatTimeout => exact .ofRun e hk.heartbeatLost
  | ringEnable => exact .ofRun e hk.runWrite
  | ringDisable => exact .ofRun e hk.runWrite
  | heldCompletionWrite => exact .ofRun e (.ite (fun _ => hk.heldWrite) fun _ => hk)
  | spillDrain => exact .ofRun e (.ite (fun _ => hk.drain) fun _ => hk)
  | functionLevelReset => exact .ofRun e (.ite (fun _ => hk.hifResetOf) fun _ => hk)
  | pcieLinkReset => exact .ofRun e (.ite (fun _ => hk.hifResetOf) fun _ => hk)
  | registerWrite => exact .ofRun e hk.runWrite
  | merNowLoRead => exact .execMerNowLoRead e
  | sysIlcfgWrite => exact .ofRun e hk.runWrite
  | sysLedgerSelWrite => exact .ofRun e hk.runWrite
  | gazCfgWrite => exact .ofRun e hk.runWrite
  | canMbbaseWrite => exact .ofRun e hk.runWrite
  | icClaim => exact .ofRun e hk.hostClaim
  | icDone => exact .ofRun e hk.runWrite
  | icTreset => exact .ofRun e hk.runWrite
  | icSwset => exact .ofRun e hk.runWrite
  | icPendClear => exact .ofRun e hk.runWrite
  | icSrccfgWrite => exact .ofRun e hk.runWrite
  | icTsleepWrite => exact .ofRun e hk.runWrite
  | icSourceEvent => exact .ofRun e hk.sourceEvent
  | icCoalesceTimeout => exact .ofRun e (.ite (fun _ => hk.onIc) fun _ => hk)
  | spiRegisterWrite => exact .ofRun e hk.spiWriteTurn
  | spiRegisterRead => exact .ofRun e hk.spiReadTurn
  | spiBufferWrite => exact .ofRun e hk.spiBufWrite
  | spiBufferRead => exact .ofRun e hk.spiBufRead
  | spiMailboxPost => exact .ofRun e hk.spiPost
  | spiMailboxRead => exact .ofRun e hk.spiMbRead
  | logicFrameSend => exact .ofRun e (.ite (fun _ => hk.sendFrame) fun _ => hk)
  | farFrameReceive => exact .execFarFrameReceive e
  | farFrameSend => exact .execFarFrameSend e
  | logicFrameReceive => exact .ofRun e (.ite (fun _ => hk.nearFrame) fun _ => hk)
  | farSilenceTimeout => exact .execFarSilenceTimeout e
  | nearSilenceTimeout => exact .execNearSilenceTimeout e
  | leaseExpiry => exact .ofRun e (.ite (fun _ => hk.leaseExpiry) fun _ => hk)
  | linkLostSynth => exact .ofRun e (.ite (fun _ => hk.synthLost) fun _ => hk)
  | dieConfigLoad => exact .ofRun e (.ite (fun _ => hk.configLoad) fun _ => hk)
  | sequencerLoad => exact .ofRun e (.ite (fun _ => hk.seqLoad) fun _ => hk)
  | seqLoadRetry => exact .ofRun e (.ite (fun _ => hk.seqLoad) fun _ => hk)
  | frameDecisions => exact .ofRun e hk.decisionsDue
  | applyInstant => exact .ofRun e hk.applyNow
  | predictionRunEnd => exact .ofRun e (.ite (fun _ => hk.lapseFrame.runEnd) fun _ => hk)
  | seqPeriodicDue => exact .execSeqPeriodicDue e
  | modulationStart => exact .execModulationStart e
  | conversionEnd => exact .ofRun e hk.conversionEnds
  | toneConversionEnd => exact .execToneConversionEnd e
  | resultRelease => exact .ofRun e hk.senseRelease
  | openWireRun => exact .execOpenWireRun e
  | impCheckStart => exact .ofRun e hk.onSense
  | impCheckEnd => exact .ofRun e hk.putSense
  | checkRound => exact .execCheckRound e
  | pinRecheckDue => exact .ofRun e hk.onSense
  | vlvPeakReached => exact .ofRun e hk.atPower
  | vlvDwellEnd => exact .ofRun e hk.atPower
  | vlvHoldReached => exact .ofRun e hk.atPower
  | vlvDecayEnd => exact .ofRun e hk.atPower
  | vlvPeakTimeout => exact .ofRun e hk.peakTimeout
  | vlvDeferTimeout => exact .ofRun e hk.deferTimeout
  | vlvThermalTick => exact .ofRun e hk.atPower
  | vlvResistanceMeasure => exact .ofRun e hk.atPower
  | vlvOffStateTest => exact .ofRun e hk.atPower
  | vlvOnStateFault => exact .ofRun e hk.atPower
  | vlvOpenTest => exact .ofRun e hk.atPower
  | bankShort => exact .ofRun e hk.atPower
  | bankStuckOn => exact .ofRun e hk.atPower
  | vlvMovement => exact .ofRun e hk.valveMovement
  | clampLow => exact .ofRun e hk.atPower
  | fanTachEdge => exact .ofRun e hk.atFan
  | fanStartWindowEnd => exact .ofRun e hk.windowEnd
  | fanRunJudge => exact .ofRun e hk.judgeRun
  | fanOutputFault => exact .ofRun e hk.atFan
  | fanRetryTimeout => exact .ofRun e hk.atFan
  | fanRun60s => exact .ofRun e hk.atFan
  | fanLoopTick => exact .ofRun e hk.atFan
  | fanTableTick => exact .ofRun e hk.atFan
  | fanTsnsRead => exact .ofRun e hk.atFan
  | fanBinLearn => exact .ofRun e hk.atFan
  | fanFrameReport => exact .ofRun e hk.fanReport
  | uioFilterChange => exact .ofRun e hk.inputSamples
  | uioWireBreak => exact .ofRun e hk.inputSamples
  | uioFrameReport => exact .ofRun e hk.uioFrame
  | uioPwmPeriod => exact .ofRun e hk.atIoOnly
  | uioOverload => exact .ofRun e hk.atIoOnly
  | uioBudgetOverload => exact .ofRun e hk.atIoOnly
  | uioOpenLoad => exact .ofRun e hk.atIoOnly
  | uioOffStateTest => exact .ofRun e hk.atIoOnly
  | uioCrossfeedPulse => exact .ofRun e hk.atIoOnly
  | fieldSupplyOff => exact .ofRun e hk.supplyOff
  | uvWarn => exact .ofRun e hk.uvWarning
  | uvWarnEnd => exact .ofRun e hk.uvWarnOver
  | supplyRecovery => exact .ofRun e hk.supplyBack
  | fieldDieReset => exact .ofRun e hk.dieReset
  | fieldDieRestart => exact .ofRun e hk.dieRestart
  | canFrameReceive => exact .ofRun e (.ite (fun _ => hk.frameIn) fun _ => hk)
  | canTxRingTake => exact .ofRun e hk.ringTake
  | canTxComplete => exact .ofRun e hk.txDone
  | canTxError => exact .ofRun e hk.txFailed
  | canBusOff => exact .ofRun e hk.busGone
  | canRecoveryDone => exact .ofRun e hk.recovered
  | canClaimTimeout => exact .ofRun e hk.claimTimeout
  | canWakePattern => exact .ofRun e hk.wakePattern
  | canSleepDiscard => exact .ofRun e hk.sleepDiscard
  | canDominantTimeout => exact .ofRun e hk.txFailed
  | cableReadStart => exact .ofRun e (.ite (fun _ => hk.cableStart) fun _ => hk)
  | fsafeNLow => exact .ofRun e hk.fsafeLow
  | powerLoss => exact .ofRun e hk.losePower
  | pornLow => exact .ofRun e hk.pornLow
  | sysrstNLow => exact .execSysrstNLow e
  | watchdogTimeout => exact .ofRun e (.ite (fun _ => .warmReset (.same hk rfl rfl)) fun _ => hk)
  | orderedReset => exact .ofRun e (.ite (fun _ => hk.orderedReset) fun _ => hk)
  | pornRelease => exact .ofRun e (.ite (fun _ => hk.startUp) fun _ => hk)
  | startupReady => exact .ofRun e (.ite (fun _ => hk.readyUp) fun _ => hk)
  | trialWindowEnd => exact .ofRun e (.ite (fun _ => hk.trialEnd) fun _ => hk)
  | sleepEntry => exact .ofRun e hk.sleepEntry
  | watchCycle => exact .ofRun e hk.watchCycle
  | leaseRenewalWake => exact .ofRun e hk.renew
  | wakeSource => exact .ofRun e hk.wakeSource
  | haltTimer => exact .ofRun e hk.haltTimer
  | meridianFloorWrite => exact .ofRun e hk.floorWrite
  | refClockLost => exact .ofRun e hk.refClockLost
  | refClockRestored => exact .ofRun e hk.refClockRestored
  | lfClockLost => exact .ofRun e hk.lfClockLost
  | lfClockProven => exact .ofRun e hk.lfClockProven
  | housekeepingRound => exact .ofRun e hk.housekeeping
  | farTempCheck => exact .ofRun e hk.farTempCheck
  | thermalShutdownEnd => exact .ofRun e hk.shutdownEnd
  | authLockEnd => exact .ofRun e (.ite (fun _ => hk.lockEnds) fun _ => hk)
  | settingsPeriodicCommit => exact .ofRun e hk.periodicCommit
  | lifetimeCommit => exact .ofRun e hk.lifeCommitDue
  | mramScrub => exact .ofRun e hk.scrub
  | gazSecondSample => exact .ofRun e hk.gazSecondDue
  | gazPeriodClose => exact .ofRun e hk.gazPeriodDue
  | hourlyBenchmark => exact .ofRun e hk.hourlyDue
  | maintItemFire => exact .ofRun e (.ite (fun _ => hk.maintFire) fun _ => hk)
  | completionPoint => exact .ofRun e (.ite (fun _ => hk.completion) fun _ => hk)
  | fsafeNHigh => exact .execFsafeNHigh e
  | pllUnlock => exact .ofRun e hk.pllUnlock
  | pllRelock => exact .ofRun e hk.pllRelock
  | canRxError => exact .ofRun e hk.rxFailed
  | pcieLinkUp => exact .ofRun e (.ite (fun _ => hk.linkUp) fun _ => hk)
  | shortToSupplyOff => exact .ofRun e hk.atIoOnly
  | senseDiePowerUp => exact .ofRun e hk.sensePowerUp
  | nodeScanEnd => exact .ofRun e (.ite (fun _ => hk.scanOver) fun _ => hk)
  | fanReferenceSlew => exact .ofRun e hk.atFan

end Sys2Proof.Machine
end

section
/-!
The statements on the machine as a whole: they are read off `Keeps` of a step.
-/
namespace Sys2Proof.Machine

theorem step_of_pending_nil {s : State} (h : s.pending = []) : step s = .next (idle s) := by
  rw [step, h]

theorem step_of_pending_cons {s : State} {c : Instr} {rest : List Instr} (h : s.pending = c :: rest) : step s = exec c (s.popped rest) := by
  rw [step, h]

/-- A step is an idle cycle or the front command on the queue's rest. -/
theorem step_cases {s s' : State} (h : step s = .next s') :
    (s.pending = [] ∧ s' = idle s) ∨ ∃ c rest, s.pending = c :: rest ∧ exec c (s.popped rest) = .next s' := by
  cases hp : s.pending with
  | nil => exact .inl ⟨rfl, (Host.Outcome.next.inj ((step_of_pending_nil hp).symm.trans h)).symm⟩
  | cons c rest => exact .inr ⟨c, rest, rfl, (step_of_pending_cons hp).symm.trans h⟩

/-- Settles O45: the equation of a step on a queue with a front. -/
theorem stepRunsFrontCommand : Obligations.StepRunsFrontCommand := fun _ _ _ => step_of_pending_cons

/-- The always-on domain has lost its power, and no command waits. -/
def unpowered : State := { State.reset with pwr := { pwrReset with ao := false }, time := { meridianReset with asleep := true } }

/-- Refutes O46: without the always-on domain's power the count stands in an idle step (R45), and the statement adds 512 ticks. -/
theorem not_idleStepAndTableWords : ¬ Obligations.IdleStepAndTableWords := by
  unfold Obligations.IdleStepAndTableWords
  rintro ⟨hidle, -⟩
  have hstep := (step_of_pending_nil (s := unpowered) rfl).symm.trans (hidle unpowered rfl)
  have hacc : (idle unpowered).time.acc = 512 * 2 ^ 32 := congrArg (fun s => s.time.acc) (Host.Outcome.next.inj hstep)
  exact absurd hacc (by decide)

/-- Settles O48: a step keeps the shape, as each of its parts does. -/
theorem shapeIsKept : Obligations.ShapeIsKept := by
  intro s s' hs h
  rcases step_cases h with ⟨-, rfl⟩ | ⟨c, rest, -, he⟩
  · exact (Keeps.rfl' (b := true)).idle.shape hs
  · exact (Keeps.exec he).shape hs

/-- Settles O49: neither a cycle of the clock nor any row lowers the count. -/
theorem meridianNeverGoesBack : Obligations.MeridianNeverGoesBack := by
  intro s s' h
  rcases step_cases h with ⟨-, rfl⟩ | ⟨c, rest, -, he⟩
  · exact (Keeps.rfl' (b := true)).idle.now
  · exact (Keeps.exec he).now

/-- Settles O50: no row's work touches the queue. -/
theorem commandsLeaveTheQueue : Obligations.CommandsLeaveTheQueue := fun _ _ _ he => (Keeps.exec he).queue

theorem decides_eq_false {c : Instr} (h : ∀ t tu eu ce, c ≠ .frameDecisions t tu eu ce) : decides c = false := by
  cases c
  case frameDecisions => exact absurd rfl (h _ _ _ _)
  all_goals rfl

/-- Settles O51: every row but FRAME_DECISIONS leaves a set line set. -/
theorem onlyFrameDecisionsReleaseTheLine : Obligations.OnlyFrameDecisionsReleaseTheLine := by
  intro s s' hset hfront h
  rcases step_cases h with ⟨-, rfl⟩ | ⟨c, rest, hc, he⟩
  · exact (Keeps.rfl' (b := true)).idle.line rfl hset
  · have hno : decides c = false := decides_eq_false fun t tu eu ce heq => hfront t tu eu ce rest (heq ▸ hc)
    exact (Keeps.exec he).line (by rw [hno]; rfl) hset

/-- Settles O47: each field of the reset state. -/
theorem resetStateHolds : Obligations.ResetStateHolds := by
  unfold Obligations.ResetStateHolds
  exact ⟨rfl, rfl, rfl, rfl, rfl, rfl, rfl, rfl, by decide, rfl, rfl, rfl, rfl, rfl, rfl, rfl, by decide⟩

end Sys2Proof.Machine
end

section
/-!
What the handling of a host command leaves alone (13 R373 to R377): writes to rings and events stay in front of `State.behind`; the
ledger, the key counters and a completion stay outside `State.body`.
-/
namespace Sys2Proof.Machine

/-! Rings and events change nothing behind the host interface. -/

theorem irq_behind (src : Nat) (s : State) : (irq src s).behind = s.behind := by
  simp only [irq]
  split
  · rfl
  · split <;> rfl

theorem ringNotify_behind (r : Nat) (s : State) : (ringNotify r s).behind = s.behind := by
  simp only [ringNotify]
  split
  · exact msixSend_behind _ _
  · rfl

theorem writeBatch_behind (r : Nat) (l : List Bytes) (s : State) : (writeBatch r l s).behind = s.behind := by
  simp only [writeBatch]
  split
  · rfl
  · exact (ringNotify_behind r _).trans (foldl_behind (f := fun a b => writeEntry r b a) (fun _ _ => rfl) l s)

theorem drain_behind (r : Nat) (s : State) : (drain r s).behind = s.behind := by
  simp only [drain]
  split
  · rfl
  · exact writeBatch_behind r _ _

theorem spillPut_behind (r stamp seq : Nat) (l : List Bytes) (s : State) : (spillPut r stamp seq l s).behind = s.behind := by
  simp only [spillPut]
  split <;> rfl

theorem devPut_behind (r stamp seq : Nat) (l : List Bytes) (s : State) : (devPut r stamp seq l s).behind = s.behind := by
  simp only [devPut]
  split
  · rfl
  · split
    · rfl
    · exact (drain_behind r _).trans (spillPut_behind r stamp seq l s)

theorem raise_behind (code : Nat) (params : Bytes) (s : State) : (raise code params s).behind = s.behind := devPut_behind ..

theorem cqPut_behind (cq : Nat) (e : Bytes) (s : State) : (cqPut cq e s).behind = s.behind := by
  simp only [cqPut]
  split
  · rfl
  · split
    · rfl
    · exact writeBatch_behind _ _ _

/-! Stores and completions stay outside the body. -/

theorem body_eq_of_behind_eq {s u : State} (h : s.behind = u.behind) : s.body = u.body :=
  congrArg (fun x : State => { x with can := [], spi := spiReset, cmds := [], nvs := nvsReset, auth := authReset, gaz := gazReset, free := 0 }) h

theorem hitIf_body (p : Bool) (off b : Nat) (s : State) : (hitIf p off b s).body = s.body := by cases p <;> rfl

theorem verifyFail_body (region addr : Nat) (s : State) : (verifyFail region addr s).body = s.body :=
  (body_eq_of_behind_eq ((raise_behind ..).trans (irq_behind ..))).trans (hitIf_body (isBank1 region) 0x1C00 2 _)

theorem addWrites_body (region n : Nat) (s : State) : (addWrites region n s).body = s.body := rfl
theorem freshen_body (a n : Nat) (s : State) : (freshen a n s).body = s.body := rfl

theorem storeTwo_body {α : Type} (pl : Place) (t : Two α) (x : α) (s : State) : (storeTwo pl t x s).1.body = s.body := by
  simp only [storeTwo]
  split <;> dsimp only
  · exact (verifyFail_body _ _ _).trans (addWrites_body _ _ s)
  · exact (freshen_body _ _ _).trans ((freshen_body _ _ _).trans (addWrites_body _ _ s))

theorem ledgerPut_body (n : Nat) (e : LedEntry) (s : State) : (ledgerPut n e s).body = s.body :=
  storeTwo_body (placeLedger n) (s.nvs.ledger.getD n noTwo) e s

theorem ledgerMap_body (n : Option Nat) (f : LedEntry → LedEntry) (s : State) : (ledgerMap n f s).body = s.body := by
  cases n with
  | none => rfl
  | some k =>
    simp only [ledgerMap]
    split
    · exact ledgerPut_body k _ s
    · rfl

theorem openEntry_body (n : Option Nat) (k : Spec) (d : Desc) (a e : Nat) (s : State) : (openEntry n k d a e s).body = s.body := by
  cases n with
  | none => rfl
  | some i => exact ledgerPut_body i _ _

theorem storeCtr_body (n : Nat) (c : CtrRec) (s : State) : (storeCtr n c s).1.body = s.body :=
  storeTwo_body (placeCtr n) (s.kslot n).ctr c s

/-- A judgement stores the slot's counter record, or nothing. -/
theorem judgeCrit_body (op : Nat) (d : Desc) (data : Bytes) (s : State) : (judgeCrit op d data s).1.body = s.body := by
  simp only [judgeCrit]
  split
  · rfl
  split
  · rfl
  split
  · rfl
  split
  · exact storeCtr_body ..
  split
  · rfl
  split
  · rfl
  split
  · rfl
  · exact storeCtr_body ..

theorem takeOut_body (d : Desc) (s : State) : (takeOut d s).body = s.body := by
  simp only [takeOut]
  split <;> rfl

theorem canRespond_body (ch : Nat) (e : Bytes) (s : State) : (canRespond ch e s).body = s.body := by
  simp only [canRespond]
  split <;> rfl

theorem sendCompletion_body (src : Src) (tag status : Nat) (led : Bool) (prog result : Nat) (s : State) :
    (sendCompletion src tag status led prog result s).body = s.body := by
  cases src with
  | ring n => exact body_eq_of_behind_eq (cqPut_behind ..)
  | can ch => exact canRespond_body ..
  | spi => rfl

theorem finish_body (c : Cmd) (st prog r : Nat) (s : State) : (finish c st prog r s).body = s.body := by
  simp only [finish]
  split
  · exact ledgerMap_body c.led _ s
  · exact (sendCompletion_body ..).trans (ledgerMap_body c.led _ s)

/-- Where a command's work begins, only its source, its judgement and its ledger entry have been written. -/
theorem begins_body {k : Spec} {d : Desc} {s s1 : State} {c : Cmd} (h : begins k d s = some (c, s1)) : s1.body = s.body := by
  simp only [begins, Option.ite_none_left_eq_some, Option.some.injEq, Prod.mk.injEq] at h
  obtain ⟨-, -, -, -, rfl⟩ := h
  have hjudged : ∀ (b : Bool) (op : Nat) (d1 : Desc) (data : Bytes) (u : State),
      (if b = true then judgeCrit op d1 data u else (u, none)).1.body = u.body := by
    intro b op d1 data u
    cases b
    · rfl
    · exact judgeCrit_body op d1 data u
  have hopened : ∀ (led : Option Nat) (d1 : Desc) (a e : Nat) (u : State),
      (if k.frame = 1 then openEntry led k d1 a e u else ledRun led (openEntry led k d1 a e u)).body = u.body := by
    intro led d1 a e u
    split
    · exact openEntry_body ..
    · exact (ledgerMap_body ..).trans (openEntry_body ..)
  exact (hopened ..).trans ((hjudged ..).trans (takeOut_body d s))

/-- Settles O52: the parts that a command's handling writes are those that `behind` and `body` leave out. -/
theorem handlingLeavesTheBody : Obligations.HandlingLeavesTheBody := by
  unfold Obligations.HandlingLeavesTheBody
  exact ⟨icSettle_behind, fun _ _ _ _ _ => begins_body, finish_body⟩

end Sys2Proof.Machine
end

section
/-!
Malformed descriptors (13 R372): the check of taking that each of them fails, and the one at acceptance.
-/
namespace Sys2Proof.Machine

theorem padTo_of_length {n : Nat} {l : Bytes} (h : l.length = n) : padTo n l = l := by
  subst h
  simp [padTo]

theorem badDescriptor_iff {k : Spec} {d : Desc} (hcheck : d.check.length = 8) :
    badDescriptor k d = true ↔
      d.rsv1 ≠ 0 ∨ d.rsv2 ≠ 0 ∨ d.flags % 2 ^ 13 ≠ 0 ∨ (bit d.flags 15 = false ∧ (d.keySlot ≠ 0 ∨ d.counter ≠ 0 ∨ d.check ≠ zeros 8)) ∨
        (k.frame = 0 ∧ (d.frame ≠ 0 ∨ bit d.flags 13 = true)) := by
  simp only [badDescriptor, flCrit, flAtFrame, padTo_of_length hcheck, Bool.or_eq_true, Bool.and_eq_true, decide_eq_true_eq,
    Bool.not_eq_true', beq_iff_eq, or_assoc]
  rfl

theorem refuseAtTaking_badDescriptor {k : Spec} {d : Desc} {s : State} (pay : Option Bytes) (hready : notReady k.op s = false)
    (hform : badDescriptor k d = true) : refuseAtTaking k d pay s = some stBadDescriptor := by
  simp [refuseAtTaking, hready, hform]

/-- A critical command without CRIT that passes every other check of taking. -/
theorem refuseAtTaking_authFail {k : Spec} {d : Desc} {pay : Option Bytes} {s : State} (hready : notReady k.op s = false)
    (hform : badDescriptor k d = false) (htag : tagInUse d s = false) (hspi : d.src = .spi → spiOp k.op = true)
    (hcan : refuseAtTaking.canRefused k d s = none)
    (hpay : ¬((d.payload = 0 ∧ d.plen ≠ 0) ∨ d.plen < k.need ∨ (k.exact = true ∧ d.plen ≠ k.need) ∨ pay = none))
    (hcrit : k.crit = true) (hplain : flCrit d = false) : refuseAtTaking k d pay s = some stAuthFail := by
  have hmail : ¬(d.src = .spi ∧ spiOp k.op = false) := fun h => by simp [hspi h.1] at h
  simp only [refuseAtTaking, hready, hform, htag, hmail, hcan, hpay, hcrit, hplain, Bool.false_eq_true, ne_eq, not_true, if_false,
    and_self, if_true]

/-- AT_FRAME on a command that takes FRAME alone is refused at acceptance, outside a replay or as a query. -/
theorem refuseAccepted_atFrame {k : Spec} {d : Desc} {s : State} (hk : k.frame = 2) (hat : flAtFrame d = true)
    (hlive : s.rpl.active = false ∨ k.query = true) : refuseAccepted k d s = (0, some (atFrameRefused k.op)) := by
  have hplay : ¬(s.rpl.active = true ∧ k.query = false) := by
    rcases hlive with h | h <;> simp [h]
  rw [refuseAccepted, if_neg hplay, if_pos ⟨hk, hat⟩]

/-- A command that acceptance refuses ends with that status, and its work does not begin. -/
theorem accept_refused {k : Spec} {d : Desc} {s : State} {e st : Nat} (go : Cmd → State → Next) (led : Option Nat)
    (h : refuseAccepted k d s = (e, some st)) :
    accept k go d led s =
      finish { op := k.op, d, acc := s.now, eff := e, tied := k.frame == 1, internal := false, led, prog := 0, aux := 0 } st 0 0
        (openEntry led k d s.now e s) := by
  simp only [accept, h]

/-- Settles O58: the form is the second check of taking, CRIT the last one, and AT_FRAME the second of acceptance. -/
theorem malformedDescriptorsAreRefused : Obligations.MalformedDescriptorsAreRefused := by
  unfold Obligations.MalformedDescriptorsAreRefused
  refine ⟨?taking, ?accepting, rfl, rfl, rfl⟩
  case taking =>
    intro k go d s hopen hoff hready hcheck
    refine ⟨fun hbad => command_refused go hopen hoff ?form, fun hform htag hspi hcan hdata haddr hneed hexact hcrit hplain =>
      command_refused go hopen hoff ?plain⟩
    case form => exact refuseAtTaking_badDescriptor _ hready ((badDescriptor_iff (d := { d with data := _ }) hcheck).mpr hbad)
    case plain =>
      refine refuseAtTaking_authFail hready hform htag hspi hcan ?_ hcrit hplain
      rintro (⟨hz, hp⟩ | hlt | ⟨he, hne⟩ | hnone)
      exacts [hp (haddr hz), absurd hneed (Nat.not_le.mpr hlt), hne (hexact he), hdata hnone]
  case accepting =>
    intro k go d led s hk hat hlive
    exact accept_refused go led (refuseAccepted_atFrame hk hat hlive)

end Sys2Proof.Machine
end

section
/-!
The judgement of a CRIT descriptor (15 R416, R435): what a completed store leaves in force, and the counter that a judgement accepts.
-/
namespace Sys2Proof.Machine

/-- A store writes a later generation than the copy in force, so what it wrote is in force (R434, R435). -/
theorem put_body {α : Type} (t : Two α) (x : α) : (t.put x).body = some x := by
  have hnext : ∀ g : Nat, later 16 ((g + 1) % 65536) g = true ∧ later 16 g ((g + 1) % 65536) = false := by
    intro g
    unfold later
    constructor
    · rw [show ((g + 1) % 65536 + 2 ^ 16 - g % 2 ^ 16) % 2 ^ 16 = 1 by omega]
      rfl
    · rw [show (g + 2 ^ 16 - (g + 1) % 65536 % 2 ^ 16) % 2 ^ 16 = 65535 by omega]
      rfl
  obtain ⟨_ | a, _ | b⟩ := t
  · rfl
  · simp [Two.put, Two.target, Two.nextGen, Two.body, Two.inForce, hnext]
  · simp [Two.put, Two.target, Two.nextGen, Two.body, Two.inForce, hnext]
  · cases hl : later 16 b.gen a.gen <;> simp [Two.put, Two.target, Two.nextGen, Two.body, Two.inForce, hl, hnext]

/-- A store that completes puts its structure (R435). -/
theorem storeTwo_put {α : Type} {pl : Place} {t : Two α} {x : α} {s : State} (h : (storeTwo pl t x s).2.2 = true) :
    (storeTwo pl t x s).2.1 = t.put x := by
  revert h
  simp only [storeTwo]
  split
  · exact nofun
  · exact fun _ => rfl

theorem auth_behind (s : State) : s.behind.auth = s.auth := rfl
theorem auth_eq_of_behind_eq {s u : State} (h : s.behind = u.behind) : s.auth = u.auth := by
  rw [← auth_behind s, h, auth_behind]
theorem hitIf_auth (p : Bool) (off b : Nat) (s : State) : (hitIf p off b s).auth = s.auth := by cases p <;> rfl

theorem verifyFail_auth (region addr : Nat) (s : State) : (verifyFail region addr s).auth = s.auth :=
  (auth_eq_of_behind_eq ((raise_behind ..).trans (irq_behind ..))).trans (hitIf_auth (isBank1 region) 0x1C00 2 _)

theorem storeTwo_auth {α : Type} (pl : Place) (t : Two α) (x : α) (s : State) : (storeTwo pl t x s).1.auth = s.auth := by
  simp only [storeTwo]
  split <;> dsimp only
  · exact verifyFail_auth _ _ _
  · rfl

/-- A completed store of a slot's counter record puts it in force. -/
theorem ctrRec_storeCtr {n : Nat} {c : CtrRec} {s : State} (hn : n < s.auth.slots.length) (h : (storeCtr n c s).2 = true) :
    (storeCtr n c s).1.ctrRec n = c := by
  have hauth : (storeTwo (placeCtr n) (s.kslot n).ctr c s).1.auth = s.auth := storeTwo_auth ..
  have hslot : (storeCtr n c s).1.kslot n = { (storeTwo (placeCtr n) (s.kslot n).ctr c s).1.kslot n with ctr := (s.kslot n).ctr.put c } := by
    rw [← storeTwo_put h]
    exact getD_setAt_same (by rw [hauth]; exact hn) _ _
  rw [State.ctrRec, hslot, put_body]
  rfl

theorem judgeCrit_stale {d : Desc} {s : State} (op : Nat) (data : Bytes) (h : d.counter ≤ (s.ctrRec d.keySlot).last) :
    (judgeCrit op d data s).2 ≠ none := by
  simp only [judgeCrit, h, if_true]
  split
  · nofun
  split
  · nofun
  split
  · nofun
  split
  · nofun
  split <;> nofun

/-- A judgement that accepts has found a higher counter in one of the eight slots, and has stored it. -/
theorem judgeCrit_accepts {op : Nat} {d : Desc} {data : Bytes} {s s1 : State} (h : judgeCrit op d data s = (s1, none)) :
    d.keySlot ≤ 7 ∧ (s.ctrRec d.keySlot).last < d.counter ∧
      storeCtr d.keySlot { last := d.counter, fails := 0, level := 0, lockEnd := 0 } s = (s1, true) := by
  have hfresh : ¬ d.counter ≤ (s.ctrRec d.keySlot).last := fun hs => judgeCrit_stale op data hs (congrArg Prod.snd h)
  refine ⟨?_, Nat.lt_of_not_le hfresh, ?_⟩
  · by_contra hslot
    simp [judgeCrit, Nat.lt_of_not_le hslot] at h
  · simp only [judgeCrit, hfresh, if_false] at h
    split at h
    · cases h
    split at h
    · cases h
    split at h
    · cases h
    split at h
    · cases h
    split at h
    · cases h
    split at h
    · cases h
    · obtain ⟨rfl, hst⟩ := Prod.mk.inj h
      cases hdone : (storeCtr d.keySlot { last := d.counter, fails := 0, level := 0, lockEnd := 0 } s).2 with
      | true => rw [← hdone]
      | false => simp [hdone] at hst

/-- Settles O60: what a judgement accepts is stored, and a counter that is not above the stored one is stale. -/
theorem countersAreAcceptedOnce : Obligations.CountersAreAcceptedOnce := by
  unfold Obligations.CountersAreAcceptedOnce
  intro op d data s s1 hs h
  obtain ⟨hslot, hlast, hstore⟩ := judgeCrit_accepts h
  obtain ⟨-, -, -, -, -, -, -, hslots⟩ := shapeOk_iff.mp hs
  have hkept : s1.ctrRec d.keySlot = { last := d.counter, fails := 0, level := 0, lockEnd := 0 } := by
    have hput := ctrRec_storeCtr (c := { last := d.counter, fails := 0, level := 0, lockEnd := 0 }) (s := s) (n := d.keySlot)
      (by omega) (congrArg Prod.snd hstore)
    rwa [hstore] at hput
  refine ⟨hlast, congrArg CtrRec.last hkept, fun op2 d2 data2 hsame hle => judgeCrit_stale op2 data2 ?_⟩
  rw [hsame, hkept]
  exact hle

end Sys2Proof.Machine
end

section
/-!
The completion statements of the clock, capture and replay commands (02): each row's own work where the statement's conditions hold.
-/
namespace Sys2Proof.Machine

/-! Time. -/

theorem setSlew_inRange {c : Cmd} (s : State) (hlo : -200000 ≤ s32 c.d.params 0) (hhi : s32 c.d.params 0 ≤ 200000) :
    setSlew c s = okResult (incOf (s32 c.d.params 0)) { s with time := { s.time with slew := s32 c.d.params 0 } } :=
  if_pos (Bool.and_eq_true_iff.mpr ⟨decide_eq_true hlo, decide_eq_true hhi⟩)

theorem setClock_sameOffset {c : Cmd} {s : State} (hpast : p64 c.d 0 ≤ s.now) (hoff : s64 c.d.params 8 - p64 c.d 0 = s.time.offset) :
    setClock c s = okResult s.time.era (baseMaint { s with time := { s.time with wallValid := true } }) :=
  (if_neg (Nat.not_lt.mpr hpast)).trans (if_pos hoff)

theorem setClock_newOffset {c : Cmd} {s s2 : State} (hpast : p64 c.d 0 ≤ s.now) (hoff : s64 c.d.params 8 - p64 c.d 0 ≠ s.time.offset)
    (hera : openEra 1 (s64 c.d.params 8 - p64 c.d 0) (ledTarget c.led (0xA300 + (s.time.era + 1) % 65536 % 64) 0 s) = (s2, true)) :
    setClock c s = okResult s2.time.era (baseMaint { s2 with time := { s2.time with wallValid := true } }) := by
  simp only [setClock, Nat.not_lt.mpr hpast, hoff, if_false, hera]

theorem readEra_found {c : Cmd} {s : State} {e : Era} (h : (s.time.eras.find? fun x => x.num == p16 c.d 0) = some e) :
    readEra c s = answer c (eraBytes e) 0 s := by
  rw [readEra, h]

/-- Bytes that fit are written at the payload address. -/
theorem answer_of_fits {c : Cmd} {b : Bytes} (h : fits c.d b = true) (r : Nat) (s : State) :
    answer c b r s = .done (putData c.d b s) stOk 0 r := if_pos h

/-- Settles O1. -/
theorem clockCommandsComplete : Obligations.ClockCommandsComplete := by
  unfold Obligations.ClockCommandsComplete
  refine ⟨?readTime, ?setSlew, ?same, fun s2 => ?step, fun e => ?readEra⟩
  case readTime => exact completes_intro readTime (fun _ _ _ => rfl) fun _ _ _ => rfl
  case setSlew =>
    refine completes_intro setSlew (fun _ _ _ => rfl) fun c s h => ?_
    obtain ⟨hlo, hhi⟩ := Bool.and_eq_true_iff.mp h
    exact setSlew_inRange s (of_decide_eq_true hlo) (of_decide_eq_true hhi)
  case same =>
    refine completes_intro setClock (fun _ _ _ => rfl) fun c s h => ?_
    obtain ⟨hpast, hoff⟩ := Bool.and_eq_true_iff.mp h
    exact setClock_sameOffset (of_decide_eq_true hpast) (of_decide_eq_true hoff)
  case step =>
    refine completes_intro setClock (fun _ _ _ => rfl) fun c s h => ?_
    simp only [Bool.and_eq_true, decide_eq_true_eq] at h
    exact setClock_newOffset h.1.1 h.1.2 h.2
  case readEra =>
    refine answers_intro readEra (fun _ _ _ => rfl) fun c s h hfits => ?_
    rw [readEra_found (of_decide_eq_true h), answer_of_fits hfits]

/-! Capture. -/

/-- Settles O2. -/
theorem captureCommandsComplete : Obligations.CaptureCommandsComplete := by
  unfold Obligations.CaptureCommandsComplete
  refine ⟨?start, ?begun, ?stop, ?ended, ?read, fun x => ?digest⟩
  case start => exact waits_intro (fun c s => waitFrame c s) (fun _ _ _ => rfl) fun _ _ _ => rfl
  case begun =>
    refine takes_intro captureStartEff rfl fun n c s h => ?_
    exact if_neg (by simpa using h)
  case stop => exact waits_intro (fun c s => waitFrame c s) (fun _ _ _ => rfl) fun _ _ _ => rfl
  case ended =>
    refine takes_intro captureStopEff rfl fun n c s h => ?_
    rw [captureStopEff, if_pos h, captureEnd, if_pos h]
    rfl
  case read => exact completes_intro captureRead (fun _ _ _ => rfl) fun c s h => if_pos h
  case digest =>
    refine answers_intro readDigest (fun _ _ _ => rfl) fun c s h hfits => ?_
    rw [readDigest, of_decide_eq_true h]
    exact answer_of_fits hfits ..

/-! Replay. -/

/-- Settles O3. -/
theorem replayCommandsComplete : Obligations.ReplayCommandsComplete := by
  unfold Obligations.ReplayCommandsComplete
  refine ⟨?enter, ?spelt, ?leave, fun rec' => ?record⟩
  case enter => exact goesOn_intro enterReplay (fun _ _ _ => rfl) fun _ _ _ => rfl
  case spelt => exact fun p outs => unlaid_laid (.pair .plant (.list .out)) (p, outs)
  case leave =>
    refine goesOn_intro leaveReplay (fun _ _ _ => rfl) fun c s h => ?_
    obtain ⟨hactive, hended⟩ := Bool.and_eq_true_iff.mp h
    simp only [leaveReplay, hactive, if_true, of_decide_eq_true hended]
    rfl
  case record =>
    refine happens_intro (replayTake rec') (fun _ _ => rfl) fun s h => ?_
    simp only [Bool.and_eq_true, decide_eq_true_eq] at h
    obtain ⟨⟨⟨⟨hawake, hactive⟩, henable⟩, hwaiting⟩, hended⟩ := h
    simp [replayTake, hawake, hactive, henable, hwaiting, hended]

end Sys2Proof.Machine
end

section
/-!
The completion statements of the maps and the Legend store (03, 04).
-/
namespace Sys2Proof.Machine

theorem tieIf_of_none {chk : Cmd → State → Option Nat} {c : Cmd} {s : State} (h : chk c s = none) : tieIf chk c s = .wait s c := by
  rw [tieIf, h]
  rfl

theorem effIf_of_none {chk : Cmd → State → Option Nat} {c : Cmd} {s : State} (h : chk c s = none) (f : Effect) (n : Nat) :
    effIf chk f n c s = f n c s := by
  rw [effIf, h]

theorem mapChk_of_some {c : Cmd} {s : State} (h : (s.map (p8 c.d 0)).isSome = true) : mapChk c s = none := if_pos h

theorem biasChk_eq_none {c : Cmd} {s : State} (hslot : p8 c.d 0 ≤ 14) (himg : legImage s (p8 c.d 0) ≠ []) : biasChk c s = none :=
  (if_neg (Nat.not_lt.mpr hslot)).trans (if_neg himg)

/-- A command whose effect ends with OK completes with that effect's progress and result. -/
theorem takeEffect_done {n : Nat} {c : Cmd} {s s1 : State} {e : Effect} {prog r : Nat} (he : frameEffect c.op = some e)
    (hdone : e n c (ledRun c.led s) = .done s1 stOk prog r) :
    takeEffect n s c = countRoutes s.plant.routes (finish c stOk prog r s1).plant.routes (finish c stOk prog r s1) := by
  simp only [takeEffect, he, hdone, settleNext, resultAtE, true_or, if_true]

/-! Queries. -/

theorem predRead_bound {c : Cmd} {s : State} {m : GMap} {r : PredResult} (hm : s.map (p8 c.d 0) = some m) (hnext : 0 < s.frm.next)
    (hr : boundAt m (s.frm.next - 1) = some r) : predRead c s = answer c (predBytes r) (predBytes r).length s := by
  simp only [predRead, hm, Nat.pos_iff_ne_zero.mp hnext, if_false, hr]

/-- Settles O4. -/
theorem mapQueriesComplete : Obligations.MapQueriesComplete := by
  unfold Obligations.MapQueriesComplete
  refine ⟨fun m => ?status, ?legend, fun m r => ?prediction, fun m => ?pairs, ?biasAll, ?biasOne⟩
  case status =>
    refine completes_intro mapStatus (fun _ _ _ => rfl) fun c s h => ?_
    rw [mapStatus, of_decide_eq_true h]
    rfl
  case legend =>
    refine answers_intro readLegend (fun _ _ _ => rfl) fun c s h hfits => ?_
    obtain ⟨hslot, himg⟩ := Bool.and_eq_true_iff.mp h
    rw [readLegend, if_neg (Nat.not_lt.mpr (of_decide_eq_true hslot)), ← answer_of_fits hfits]
    exact if_neg (of_decide_eq_true himg)
  case prediction =>
    refine answers_intro predRead (fun _ _ _ => rfl) fun c s h hfits => ?_
    simp only [Bool.and_eq_true, decide_eq_true_eq] at h
    obtain ⟨⟨hm, hnext⟩, hr⟩ := h
    rw [predRead_bound hm hnext hr, answer_of_fits hfits]
  case pairs =>
    refine answers_intro pairRead (fun _ _ _ => rfl) fun c s h hfits => ?_
    rw [pairRead, of_decide_eq_true h]
    exact answer_of_fits hfits ..
  case biasAll =>
    refine answers_intro biasRead (fun _ _ _ => rfl) fun c s h hfits => ?_
    exact (if_pos (of_decide_eq_true h)).trans (answer_of_fits hfits ..)
  case biasOne =>
    refine answers_intro biasRead (fun _ _ _ => rfl) fun c s h hfits => ?_
    simp only [Bool.and_eq_true, decide_eq_true_eq] at h
    obtain ⟨hslot, himg⟩ := h
    have hone : p8 c.d 0 ≠ 0xFF := by omega
    rw [biasRead, if_neg hone, if_neg (Nat.not_lt.mpr hslot), if_neg himg, answer_of_fits hfits]

/-! The Legend store. -/

theorem loadLegend_good {c : Cmd} (s : State) (hslot : p8 c.d 0 ≤ 14) (hform : legFormatBad c.d.data = false)
    (hrange : legRangeBad c.d.data = false) : loadLegend c s = .wait s c := by
  simp only [loadLegend, Nat.not_lt.mpr hslot, hform, hrange, Bool.false_eq_true, if_false]

theorem eraseLegend_unused {c : Cmd} {s s2 : State} {p : Nat × LegArea} {e : Nat} (hslot : p8 c.d 0 ≤ 14)
    (harea : legArea s.store.legs (p8 c.d 0) = some p) (huse : legendInUse (p8 c.d 0) s = false)
    (heff : effFrame s c.d s.now = (e, none)) (hclear : clearArea p.1 (ledTarget c.led (0x5000 + p8 c.d 0) p.2.gen s) = (s2, true)) :
    eraseLegend c s = okResult (2 ^ 32 * e)
      { s2 with store := { s2.store with waits := s2.store.waits ++ [.legend { slot := p8 c.d 0, eff := e, img := [], load := false }] } } := by
  simp only [eraseLegend, Nat.not_lt.mpr hslot, harea, huse, heff, hclear, Bool.false_eq_true, if_false, if_true]

/-- Settles O5. -/
theorem legendStoreCommandsComplete : Obligations.LegendStoreCommandsComplete := by
  unfold Obligations.LegendStoreCommandsComplete
  refine ⟨?load, fun p e s2 => ?erase⟩
  case load =>
    refine goesOn_intro loadLegend (fun _ _ _ => rfl) fun c s h => ?_
    simp only [Bool.and_eq_true, decide_eq_true_eq, Bool.not_eq_true'] at h
    obtain ⟨⟨hslot, hform⟩, hrange⟩ := h
    exact loadLegend_good s hslot hform hrange
  case erase =>
    refine completes_intro eraseLegend (fun _ _ _ => rfl) fun c s h => ?_
    simp only [Bool.and_eq_true, decide_eq_true_eq, Bool.not_eq_true'] at h
    obtain ⟨⟨⟨⟨hslot, harea⟩, huse⟩, heff⟩, hclear⟩ := h
    exact eraseLegend_unused hslot harea huse heff hclear

/-! Settings of a map. -/

/-- Settles O6. -/
theorem mapSettingCommandsComplete : Obligations.MapSettingCommandsComplete := by
  unfold Obligations.MapSettingCommandsComplete
  refine ⟨?prime, fun m r => ?primed, ?reset, ?started, ?inlet, fun m => ?set⟩
  case prime => exact waits_intro (tieIf mapChk) (fun _ _ _ => rfl) fun c s h => tieIf_of_none (mapChk_of_some h)
  case primed =>
    refine takes_intro (effIf mapChk mapPrimeEff) rfl fun n c s h => ?_
    simp only [Bool.and_eq_true, decide_eq_true_eq] at h
    obtain ⟨hm, hr⟩ := h
    rw [effIf_of_none (mapChk_of_some (hm ▸ rfl)), mapPrimeEff, hm, hr]
    rfl
  case reset =>
    refine waits_intro (tieIf biasChk) (fun _ _ _ => rfl) fun c s h => ?_
    obtain ⟨hslot, himg⟩ := Bool.and_eq_true_iff.mp h
    exact tieIf_of_none (biasChk_eq_none (of_decide_eq_true hslot) (of_decide_eq_true himg))
  case started =>
    refine takes_intro (effIf biasChk biasResetEff) rfl fun n c s h => ?_
    obtain ⟨hslot, himg⟩ := Bool.and_eq_true_iff.mp h
    exact effIf_of_none (biasChk_eq_none (of_decide_eq_true hslot) (of_decide_eq_true himg)) ..
  case inlet =>
    exact waits_intro (tieIf inletChk) (fun _ _ _ => rfl) fun c s h => tieIf_of_none (Option.isNone_iff_eq_none.mp h)
  case set =>
    refine takes_intro (effIf inletChk setInletEff) rfl fun n c s h => ?_
    obtain ⟨hm, hchk⟩ := Bool.and_eq_true_iff.mp h
    rw [effIf_of_none (Option.isNone_iff_eq_none.mp hchk), setInletEff, of_decide_eq_true hm]
    rfl

/-! Copies of maps. -/

theorem sendImage_of_fits {c : Cmd} {b : Bytes} (h : fits c.d b = true) (s : State) :
    sendImage c b s = .done (putData c.d b s) stOk 0 b.length := if_pos h

theorem mapExport_goesOn (c : Cmd) (s : State) :
    tieIf mapChk c s = if (s.map (p8 c.d 0)).isSome then .wait s c else .done s stMapUndefined 0 0 := by
  simp only [tieIf, mapChk]
  cases (s.map (p8 c.d 0)).isSome <;> rfl

theorem mapRestore_goesOn (c : Cmd) (s : State) :
    tieIf restoreChk c s = if saveBad c.d.data then .done s stSaveFormat 0 0 else .wait s c := by
  simp only [tieIf, restoreChk]
  cases saveBad c.d.data <;> rfl

theorem dropPredictions_map (p : Plant) (f : GMap → GMap) (l : List GMap) (b : List BiasSt) :
    dropPredictions { p with maps := l.map f, bias := b } =
      { p with maps := l.map fun m => { f m with results := [], jobs := [] }, bias := b } := by
  rw [dropPredictions, List.map_map]
  rfl

/-- A map after MAP_RESTORE of the blocks `good`: the first block that fits it, and no prediction result. -/
def GMap.restored (good : List SaveBlock) (m : GMap) : GMap :=
  let m1 := match good.find? fun b => blockFits b m with | some b => restoreMap m b | none => m
  { m1 with results := [], jobs := [] }

/-- MAP_RESTORE with no discharge in force. -/
theorem mapRestoreEff_idle {c : Cmd} {s : State} {img : Bytes} {blocks good : List SaveBlock} {bias : List BiasSt × Nat} (n : Nat)
    (h : anyDischarge s.plant = false) (himg : img = c.d.data.take (u32 c.d.data 8))
    (hblocks : blocks = blocksOfImage ((img.drop 64).take (img.length - 64 - 480)))
    (hgood : good = blocks.filter fun b => s.plant.maps.any (blockFits b))
    (hbias : bias = restoreBias s.imgs (img.drop (img.length - 480)) s.plant.bias) :
    mapRestoreEff n c s =
      .done (chainRestart (linRefresh { s with plant := { s.plant with maps := s.plant.maps.map (GMap.restored good), bias := bias.1 } }))
        stOk c.d.data.length (good.length + 65536 * (blocks.length - good.length) + 2 ^ 32 * bias.2) := by
  refine (if_neg (by simp [h])).trans ?_
  subst himg
  simp only [← hbias, ← hblocks, ← hgood, dropPredictions_map]
  rfl

/-- Settles O7. -/
theorem mapTransferCommandsComplete : Obligations.MapTransferCommandsComplete := by
  unfold Obligations.MapTransferCommandsComplete
  refine ⟨?started, fun m => ?rows, ?save, ?image, ?restore, ?restored, ?blocks⟩
  case started => exact goesOn_intro (tieIf mapChk) (fun _ _ _ => rfl) fun c s _ => mapExport_goesOn c s
  case rows =>
    refine takes_intro (effIf exportChk mapExportEff) rfl fun n c s h => ?_
    simp only [Bool.and_eq_true, decide_eq_true_eq, Option.isNone_iff_eq_none] at h
    obtain ⟨⟨hm, hchk⟩, hfits⟩ := h
    rw [effIf_of_none hchk, mapExportEff, hm]
    exact sendImage_of_fits hfits s
  case save => exact goesOn_intro waitFrame (fun _ _ _ => rfl) fun _ _ _ => rfl
  case image => exact takes_intro mapSaveEff rfl fun n c s h => sendImage_of_fits h s
  case restore => exact goesOn_intro (tieIf restoreChk) (fun _ _ _ => rfl) fun c s _ => mapRestore_goesOn c s
  case restored =>
    intro n c s0 hop hidle
    have hrow : frameEffect c.op = some mapRestoreEff := by rw [hop]; rfl
    extract_lets s img blocks good bias maps s1
    have hdone := mapRestoreEff_idle (s := s) (img := img) (blocks := blocks) (good := good) (bias := bias) n hidle rfl rfl rfl rfl
    clear_value img blocks good bias
    exact takeEffect_done hrow hdone
  case blocks => exact fun l => by rw [blocksOfImage, mapBlocks, unlaid_laid]; rfl

end Sys2Proof.Machine
end

section
/-!
The completion statements of drying and storage (05, 06): their queries, and the effects of their frame-tied commands.
-/
namespace Sys2Proof.Machine

/-! Queries. -/

/-- Settles O8. -/
theorem plantQueriesComplete : Obligations.PlantQueriesComplete := by
  unfold Obligations.PlantQueriesComplete
  refine ⟨fun x => ?dryer, fun r => ?route, fun x => ?decision, fun x => ?storage, fun x => ?budget, fun x => ?sensors⟩
  case dryer =>
    refine completes_intro dryStatus (fun _ _ _ => rfl) fun c s h => ?_
    rw [dryStatus, of_decide_eq_true h]
    rfl
  case route =>
    refine completes_intro routeStatus (fun _ _ _ => rfl) fun c s h => ?_
    rw [routeStatus, of_decide_eq_true h]
    rfl
  case decision =>
    refine answers_intro decisionRead (fun _ _ _ => rfl) fun c s h hfits => ?_
    rw [decisionRead, of_decide_eq_true h]
    exact answer_of_fits hfits ..
  case storage =>
    refine completes_intro stoStatus (fun _ _ _ => rfl) fun c s h => ?_
    rw [stoStatus, of_decide_eq_true h]
    rfl
  case budget =>
    refine completes_intro budgetRead (fun _ _ _ => rfl) fun c s h => ?_
    rw [budgetRead, of_decide_eq_true h]
    rfl
  case sensors =>
    refine answers_intro sensorRead (fun _ _ _ => rfl) fun c s h hfits => ?_
    rw [sensorRead, of_decide_eq_true h]
    exact answer_of_fits hfits ..

/-! The dryer that a command names. -/

theorem dryerChk_of_some {c : Cmd} {s : State} (h : (s.datum.dryerOf (p8 c.d 0)).isSome = true) : dryerChk c s = none := if_pos h

theorem onDryer_found {f : Bytes → Dryer → Cmd → State → Next} {c : Cmd} {s : State} {dc : Bytes} {x : Dryer}
    (hdc : s.datum.dryerOf (p8 c.d 0) = some dc) (hx : s.dryer (p8 c.d 0) = some x) (n : Nat) : onDryer f n c s = f dc x c s := by
  rw [onDryer, effIf_of_none (dryerChk_of_some (hdc ▸ rfl)), hdc, hx]

/-- The same where the record is only known to be there, for an effect that does not look at it. -/
theorem onDryer_record {f : Dryer → Cmd → State → Next} {c : Cmd} {s : State} {x : Dryer}
    (hdc : (s.datum.dryerOf (p8 c.d 0)).isSome = true) (hx : s.dryer (p8 c.d 0) = some x) (n : Nat) :
    onDryer (fun _ => f) n c s = f x c s := by
  obtain ⟨dc, hdc⟩ := Option.isSome_iff_exists.mp hdc
  exact onDryer_found hdc hx n

theorem dischargeStartChk_eq_none {c : Cmd} {s : State} (hdc : (s.datum.dryerOf (p8 c.d 0)).isSome = true)
    (hmode : p8 c.d 1 = 1 ∨ p8 c.d 1 = 2) : dischargeStartChk c s = none := by
  rw [dischargeStartChk, dryerChk_of_some hdc]
  exact if_pos hmode

theorem setRateChk_eq_none {c : Cmd} {s : State} {dc : Bytes} (hdc : s.datum.dryerOf (p8 c.d 0) = some dc) (hmin : dcQMin dc ≤ p32 c.d 4)
    (hmax : p32 c.d 4 ≤ dcQMax dc) : setRateChk c s = none := by
  rw [setRateChk, hdc]
  exact if_neg (by omega)

theorem targetChk_eq_none {c : Cmd} {s : State}
    (h : p16 c.d 2 ≠ 0 ∨ lgTarget (legImg s.imgs (inletSlot s.plant (p8 c.d 0))) ≠ 0) : targetChk c s = none :=
  if_neg fun hz => h.elim (absurd hz.1) (absurd hz.2)

theorem setTargetChk_eq_none {c : Cmd} {s : State} (hdc : (s.datum.dryerOf (p8 c.d 0)).isSome = true)
    (h : p16 c.d 2 ≠ 0 ∨ lgTarget (legImg s.imgs (inletSlot s.plant (p8 c.d 0))) ≠ 0) : setTargetChk c s = none := by
  rw [setTargetChk, dryerChk_of_some hdc]
  exact targetChk_eq_none h

/-- Settles O9. -/
theorem dischargeCommandsComplete : Obligations.DischargeCommandsComplete := by
  unfold Obligations.DischargeCommandsComplete
  refine ⟨?start, fun dc x => ?started, ?stop, fun x => ?stopped, fun dc => ?rate, fun dc x => ?rated, ?target, fun x => ?targeted⟩
  case start =>
    refine waits_intro (tieIf dischargeStartChk) (fun _ _ _ => rfl) fun c s h => ?_
    simp only [Bool.and_eq_true, Bool.or_eq_true, decide_eq_true_eq] at h
    exact tieIf_of_none (dischargeStartChk_eq_none h.1 h.2)
  case started =>
    refine takes_intro (effIf dischargeStartChk dischargeStartEff) rfl fun n c s h => ?_
    simp only [Bool.and_eq_true, Bool.or_eq_true, decide_eq_true_eq, Bool.not_eq_true'] at h
    obtain ⟨⟨⟨⟨hdc, hx⟩, hmode⟩, htrip⟩, hsafe⟩ := h
    rw [effIf_of_none (dischargeStartChk_eq_none (hdc ▸ rfl) hmode), dischargeStartEff, onDryer_found hdc hx]
    simp only [htrip, hsafe, ne_eq, not_true, Bool.false_eq_true, if_false]
    rfl
  case stop => exact waits_intro (tieIf dryerChk) (fun _ _ _ => rfl) fun c s h => tieIf_of_none (dryerChk_of_some h)
  case stopped =>
    refine takes_intro dischargeStopEff rfl fun n c s h => ?_
    obtain ⟨hdc, hx⟩ := Bool.and_eq_true_iff.mp h
    exact onDryer_record hdc (of_decide_eq_true hx) n
  case rate =>
    refine waits_intro (tieIf setRateChk) (fun _ _ _ => rfl) fun c s h => ?_
    simp only [Bool.and_eq_true, decide_eq_true_eq] at h
    obtain ⟨⟨hdc, hmin⟩, hmax⟩ := h
    exact tieIf_of_none (setRateChk_eq_none hdc hmin hmax)
  case rated =>
    refine takes_intro setRateEff rfl fun n c s h => ?_
    simp only [Bool.and_eq_true, decide_eq_true_eq] at h
    obtain ⟨⟨⟨⟨hdc, hx⟩, hmin⟩, hmax⟩, hmode⟩ := h
    rw [setRateEff, effIf_of_none (setRateChk_eq_none hdc hmin hmax), onDryer_found hdc hx]
    exact if_pos hmode
  case target =>
    refine waits_intro (tieIf setTargetChk) (fun _ _ _ => rfl) fun c s h => ?_
    simp only [Bool.and_eq_true, Bool.or_eq_true, decide_eq_true_eq] at h
    exact tieIf_of_none (setTargetChk_eq_none h.1 h.2)
  case targeted =>
    refine takes_intro setTargetEff rfl fun n c s h => ?_
    simp only [Bool.and_eq_true, Bool.or_eq_true, decide_eq_true_eq] at h
    obtain ⟨⟨hdc, hx⟩, htarget⟩ := h
    refine (onDryer_record hdc hx n).trans ?_
    rw [targetChk_eq_none htarget]
    rfl

/-! The heat-zone record that a command names. -/

theorem zoneChk_of_lt {c : Cmd} {s : State} (h : p8 c.d 0 < (s.datum.recs tyHeat).length) : zoneChk c s = none := if_pos h

theorem onZone_found {f : Bytes → HeatZone → Cmd → State → Next} {c : Cmd} {s : State} {r : Bytes} {z : HeatZone}
    (hr : (s.datum.recs tyHeat)[p8 c.d 0]? = some r) (hz : s.plant.zones[p8 c.d 0]? = some z) (n : Nat) : onZone f n c s = f r z c s := by
  rw [onZone, hr, hz]

theorem onZone_record {f : HeatZone → Cmd → State → Next} {c : Cmd} {s : State} {z : HeatZone}
    (hr : p8 c.d 0 < (s.datum.recs tyHeat).length) (hz : s.plant.zones[p8 c.d 0]? = some z) (n : Nat) :
    onZone (fun _ => f) n c s = f z c s :=
  onZone_found (List.getElem?_eq_getElem hr) hz n

theorem plenumChk_eq_none {c : Cmd} {s : State} {r : Bytes} (hr : (s.datum.recs tyHeat)[p8 c.d 0]? = some r)
    (hmin : hzMin r ≤ s16 c.d.params 2) (hmax : s16 c.d.params 2 ≤ hzMax r) : plenumChk c s = none := by
  rw [plenumChk, hr]
  exact if_neg (by omega)

/-- Settles O10. -/
theorem heatCommandsComplete : Obligations.HeatCommandsComplete := by
  unfold Obligations.HeatCommandsComplete
  refine ⟨?permit, fun r z x => ?granted, fun z => ?withdrawn, ?override, fun z => ?overridden, fun r => ?plenum, fun r z => ?set⟩
  case permit => exact waits_intro (tieIf zoneChk) (fun _ _ _ => rfl) fun c s h => tieIf_of_none (zoneChk_of_lt (of_decide_eq_true h))
  case granted =>
    refine takes_intro (effIf zoneChk heatPermitEff) rfl fun n c s h => ?_
    simp only [Bool.and_eq_true, decide_eq_true_eq, Bool.not_eq_true'] at h
    obtain ⟨⟨⟨⟨⟨⟨hlen, hr⟩, hz⟩, hgrant⟩, hx⟩, htrip⟩, hsafe⟩ := h
    rw [effIf_of_none (zoneChk_of_lt hlen), heatPermitEff, onZone_found hr hz]
    simp only [hgrant, hx, htrip, hsafe, ne_eq, not_true, Bool.false_eq_true, if_false]
    rfl
  case withdrawn =>
    refine takes_intro (effIf zoneChk heatPermitEff) rfl fun n c s h => ?_
    simp only [Bool.and_eq_true, decide_eq_true_eq] at h
    obtain ⟨⟨hlen, hz⟩, hgrant⟩ := h
    rw [effIf_of_none (zoneChk_of_lt hlen), heatPermitEff, onZone_found (List.getElem?_eq_getElem hlen) hz]
    exact if_pos hgrant
  case override => exact waits_intro (tieIf zoneChk) (fun _ _ _ => rfl) fun c s h => tieIf_of_none (zoneChk_of_lt (of_decide_eq_true h))
  case overridden =>
    refine takes_intro (effIf zoneChk heatOverrideEff) rfl fun n c s h => ?_
    simp only [Bool.and_eq_true, decide_eq_true_eq] at h
    rw [effIf_of_none (zoneChk_of_lt h.1)]
    exact onZone_record h.1 h.2 n
  case plenum =>
    refine waits_intro (tieIf plenumChk) (fun _ _ _ => rfl) fun c s h => ?_
    simp only [Bool.and_eq_true, decide_eq_true_eq] at h
    obtain ⟨⟨hr, hmin⟩, hmax⟩ := h
    exact tieIf_of_none (plenumChk_eq_none hr hmin hmax)
  case set =>
    refine takes_intro setPlenumEff rfl fun n c s h => ?_
    simp only [Bool.and_eq_true, decide_eq_true_eq] at h
    obtain ⟨⟨⟨hr, hz⟩, hmin⟩, hmax⟩ := h
    rw [setPlenumEff, effIf_of_none (plenumChk_eq_none hr hmin hmax)]
    exact onZone_found hr hz n

/-! The bin that a command names. -/

theorem binChk_of_some {c : Cmd} {s : State} (h : (s.bin (p8 c.d 0)).isSome = true) : binChk c s = none := if_pos h

theorem onBin_found {f : BinSt → Cmd → State → Next} {c : Cmd} {s : State} {x : BinSt} (hx : s.bin (p8 c.d 0) = some x) (n : Nat) :
    onBin f n c s = f x c s := by
  rw [onBin, hx]

theorem modeChk_eq_none {c : Cmd} {s : State} (hbin : (s.bin (p8 c.d 0)).isSome = true) (hmode : p8 c.d 1 ≤ 3) : modeChk c s = none := by
  rw [modeChk, binChk_of_some hbin]
  exact if_neg (Nat.not_lt.mpr hmode)

theorem ackChk_eq_none {c : Cmd} {s : State} {x : BinSt} {y : SensSt} (hx : s.bin (p8 c.d 0) = some x)
    (hy : x.sensors[p16 c.d 2]? = some y) : ackChk c s = none := by
  obtain ⟨hlt, -⟩ := List.getElem?_eq_some_iff.mp hy
  rw [ackChk, hx]
  exact if_neg (Nat.not_le.mpr hlt)

/-- STO_ACK of a sensor whose named alarms are all raised. -/
theorem stoAckEff_raised {c : Cmd} {s : State} {x : BinSt} {y : SensSt} (n : Nat) (hx : s.bin (p8 c.d 0) = some x)
    (hy : x.sensors[p16 c.d 2]? = some y) (hcannot : (bit (p8 c.d 4) 0 && !y.cannot) = false) (hhot : (bit (p8 c.d 4) 1 && !y.hot) = false) :
    stoAckEff n c s =
      (let z : SensSt := { y with
         cannot := y.cannot && !bit (p8 c.d 4) 0, hot := y.hot && !bit (p8 c.d 4) 1
         calm := if bit (p8 c.d 4) 0 then 0 else y.calm, cool := if bit (p8 c.d 4) 1 then 0 else y.cool }
       doneE c (s.putBin { x with sensors := setAt (p16 c.d 2) z x.sensors })) := by
  have hget : x.sensors.getD (p16 c.d 2) newSens = y := by rw [List.getD_eq_getElem?_getD, hy]; rfl
  rw [stoAckEff, effIf_of_none (ackChk_eq_none hx hy), onBin_found hx]
  simp only [hget, hcannot, hhot, Bool.or_false, Bool.false_eq_true, if_false]

theorem scanOver_due {s : State} {e : Nat} (hend : s.sto.scanEnd = some e) (hdue : e ≤ s.now) :
    scanOver s =
      (s.cmds.filter fun c => c.op == 0x0507).foldl (fun a c => finishScan c a) { s with sto := { s.sto with scanEnd := none } } := by
  simp only [scanOver, hend, Nat.not_lt.mpr hdue, if_false]

/-- Settles O12. -/
theorem storageCommandsComplete : Obligations.StorageCommandsComplete := by
  unfold Obligations.StorageCommandsComplete
  refine ⟨?mode, fun x => ?moded, ?force, fun x => ?forced, ?ack, fun x y => ?acked, ?scan, fun e => ?scanned, ?cables⟩
  case mode =>
    refine waits_intro (tieIf modeChk) (fun _ _ _ => rfl) fun c s h => ?_
    obtain ⟨hbin, hmode⟩ := Bool.and_eq_true_iff.mp h
    exact tieIf_of_none (modeChk_eq_none hbin (of_decide_eq_true hmode))
  case moded =>
    refine takes_intro (effIf modeChk aerationModeEff) rfl fun n c s h => ?_
    simp only [Bool.and_eq_true, decide_eq_true_eq] at h
    rw [effIf_of_none (modeChk_eq_none (h.1 ▸ rfl) h.2)]
    exact onBin_found h.1 n
  case force => exact waits_intro (tieIf forceChk) (fun _ _ _ => rfl) fun c s h => tieIf_of_none (Option.isNone_iff_eq_none.mp h)
  case forced =>
    refine takes_intro (effIf forceChk aerationForceEff) rfl fun n c s h => ?_
    obtain ⟨hx, hchk⟩ := Bool.and_eq_true_iff.mp h
    rw [effIf_of_none (Option.isNone_iff_eq_none.mp hchk)]
    exact onBin_found (of_decide_eq_true hx) n
  case ack => exact waits_intro (tieIf ackChk) (fun _ _ _ => rfl) fun c s h => tieIf_of_none (Option.isNone_iff_eq_none.mp h)
  case acked =>
    refine takes_intro stoAckEff rfl fun n c s h => ?_
    simp only [Bool.and_eq_true, decide_eq_true_eq, Bool.not_eq_true'] at h
    obtain ⟨⟨⟨hx, hy⟩, hcannot⟩, hhot⟩ := h
    exact stoAckEff_raised n hx hy hcannot hhot
  case scan =>
    refine goesOn_intro nodeScan (fun _ _ _ => rfl) fun c s h => ?_
    exact if_neg (by simpa [Option.isSome_iff_ne_none] using h)
  case scanned =>
    refine happens_intro (fun s => if s.awake then scanOver s else s) (fun _ _ => rfl) fun s h => ?_
    simp only [Bool.and_eq_true, decide_eq_true_eq] at h
    obtain ⟨⟨hawake, hend⟩, hdue⟩ := h
    rw [if_pos hawake, scanOver_due hend hdue]
  case cables =>
    refine happens_intro (fun s => if s.awake then cableStart s else s) (fun _ _ => rfl) fun s h => ?_
    exact if_pos (Bool.and_eq_true_iff.mp h).1

end Sys2Proof.Machine
end

section
/-!
The completion statements of the sensors and of the field channels (07 to 11).
-/
namespace Sys2Proof.Machine

/-! Sensors. -/

theorem toneRec_tone {s : State} {e : Nat} {r : Bytes} (hr : s.datum.chanRec e = some r) (hlist : s.datum.listOf e = some 4) :
    toneRec s e = .inr r := by
  rw [toneRec, hr]
  exact if_pos hlist

/-- Settles O13. -/
theorem sensorQueriesComplete : Obligations.SensorQueriesComplete := by
  unfold Obligations.SensorQueriesComplete
  refine ⟨fun r => ?latest, ?switches, ?counts, ?pins, fun r => ?spectrum, fun r => ?linear⟩
  case latest =>
    refine answers_intro senRead (fun _ _ _ => rfl) fun c s h hfits => ?_
    rw [senRead, of_decide_eq_true h]
    exact answer_of_fits hfits ..
  case switches => exact completes_intro cswRead (fun _ _ _ => rfl) fun _ _ _ => rfl
  case counts => exact completes_intro senCounts (fun _ _ _ => rfl) fun _ _ _ => rfl
  case pins => exact answers_intro checkRead (fun _ _ _ => rfl) fun c s _ hfits => answer_of_fits hfits ..
  case spectrum =>
    refine answers_intro moistSpectrum (fun _ _ _ => rfl) fun c s h hfits => ?_
    simp only [Bool.and_eq_true, decide_eq_true_eq, Bool.not_eq_true'] at h
    obtain ⟨⟨hr, hlist⟩, hup⟩ := h
    rw [moistSpectrum, toneRec_tone hr hlist, ← answer_of_fits hfits]
    exact if_neg (by simp [hup])
  case linear =>
    refine completes_intro linTest (fun _ _ _ => rfl) fun c s h => ?_
    simp only [Bool.and_eq_true, decide_eq_true_eq, Bool.not_eq_true'] at h
    obtain ⟨⟨hr, hup⟩, hsrc⟩ := h
    simp only [linTest, hr, hup, hsrc, Bool.false_eq_true, if_false]
    rfl

/-- Settles O14. -/
theorem sensorOrdersComplete : Obligations.SensorOrdersComplete := by
  unfold Obligations.SensorOrdersComplete
  refine ⟨fun r => ?sequence, ?switch, fun r => ?empty, fun r => ?pin, ?baseline⟩
  case sequence =>
    refine goesOn_intro seqRequest (fun _ _ _ => rfl) fun c s h => ?_
    simp only [Bool.and_eq_true, decide_eq_true_eq, Bool.not_eq_true'] at h
    obtain ⟨⟨⟨⟨hr, htrig⟩, hup⟩, hbusy⟩, hsoon⟩ := h
    simp only [seqRequest, hr, htrig, hup, hbusy, hsoon, ne_eq, not_true, Bool.false_eq_true, if_false]
  case switch =>
    refine goesOn_intro cswClear (fun _ _ _ => rfl) fun c s h => ?_
    simp only [Bool.and_eq_true, Bool.not_eq_true'] at h
    have hrec : (s.datum.cswRec (p8 c.d 0)).isNone = false := by rw [Option.isNone_eq_false_iff]; exact h.1
    simp only [cswClear, hrec, h.2, Bool.false_eq_true, if_false]
  case empty =>
    refine goesOn_intro moistEmpty (fun _ _ _ => rfl) fun c s h => ?_
    simp only [Bool.and_eq_true, decide_eq_true_eq, Bool.not_eq_true'] at h
    obtain ⟨⟨⟨⟨hr, hlist⟩, hmode⟩, hup⟩, hlen⟩ := h
    simp only [moistEmpty, toneRec_tone hr hlist, hmode, hup, Nat.not_lt.mpr hlen, ne_eq, not_true, Bool.false_eq_true, if_false]
  case pin =>
    refine goesOn_intro checkRun (fun _ _ _ => rfl) fun c s h => ?_
    simp only [Bool.and_eq_true, decide_eq_true_eq, Bool.not_eq_true'] at h
    simp only [checkRun, h.1, h.2, Bool.false_eq_true, if_false]
  case baseline =>
    refine completes_intro checkBaseline (fun _ _ _ => rfl) fun c s h => ?_
    exact if_neg (by simpa using h)

/-! Queries of the field channels. -/

theorem valveChk_of_some {c : Cmd} {s : State} (h : (s.datum.valveRec (p8 c.d 0)).isSome = true) : valveChk c s = none := if_pos h
theorem fanChk_of_some {c : Cmd} {s : State} (h : (s.datum.fanRec (p8 c.d 0)).isSome = true) : fanChk c s = none := if_pos h
theorem uioChk_of_some {c : Cmd} {s : State} (h : (s.datum.uioLead (p8 c.d 0)).isSome = true) : uioChk c s = none := if_pos h

/-- Settles O15. -/
theorem fieldQueriesComplete : Obligations.FieldQueriesComplete := by
  unfold Obligations.FieldQueriesComplete
  refine ⟨?valve, ?thermal, fun r => ?fan, ?channel, ?supply⟩
  case valve =>
    refine completes_intro vlvStatus (fun _ _ _ => rfl) fun c s h => ?_
    rw [vlvStatus, valveChk_of_some h]
    rfl
  case thermal =>
    refine answers_intro vlvTherm (fun _ _ _ => rfl) fun c s h hfits => ?_
    simp only [Bool.and_eq_true, Bool.not_eq_true'] at h
    rw [vlvTherm, valveChk_of_some h.1, ← answer_of_fits hfits]
    exact if_neg (by simp [h.2])
  case fan =>
    refine completes_intro fanStatus (fun _ _ _ => rfl) fun c s h => ?_
    rw [fanStatus, of_decide_eq_true h]
    rfl
  case channel =>
    refine completes_intro uioStatus (fun _ _ _ => rfl) fun c s h => ?_
    rw [uioStatus, uioChk_of_some h]
    rfl
  case supply =>
    refine completes_intro uioSupply (fun _ _ _ => rfl) fun c s h => ?_
    simp only [Bool.and_eq_true, Bool.not_eq_true'] at h
    rw [uioSupply, if_neg (by simp [h.1]), answer_of_fits h.2]
    rfl

/-! Forces and host settings. -/

theorem vlvForceChk_eq_none {c : Cmd} {s : State} (hrec : (s.datum.valveRec (p8 c.d 0)).isSome = true) (hforce : p8 c.d 1 ≤ 2) :
    vlvForceChk c s = none := by
  rw [vlvForceChk, valveChk_of_some hrec]
  exact if_neg (Nat.not_lt.mpr hforce)

theorem fanSourceChk_eq_none {c : Cmd} {s : State} {r : Bytes} (hr : s.datum.fanRec (p8 c.d 0) = some r) :
    fanSourceChk (fnSource r) c s = none := by
  rw [fanSourceChk, hr]
  exact if_pos rfl

theorem fanForceChk_eq_none {c : Cmd} {s : State} (hrec : (s.datum.fanRec (p8 c.d 0)).isSome = true) (hforce : p8 c.d 1 ≤ 1) :
    fanForceChk c s = none := by
  rw [fanForceChk, fanChk_of_some hrec]
  exact if_neg (Nat.not_lt.mpr hforce)

theorem uioSetChk_eq_none {c : Cmd} {s : State} {r : Bytes} (hr : s.datum.uioLead (p8 c.d 0) = some r) (hout : ucIsOut r = true)
    (hsrc : ucSource r = 1) : uioSetChk c s = none := by
  rw [uioSetChk, hr]
  exact if_pos ⟨hout, hsrc⟩

theorem uioForceChk_eq_none {c : Cmd} {s : State} {r : Bytes} (hr : s.datum.uioLead (p8 c.d 0) = some r) (hout : ucIsOut r = true)
    (hforce : p8 c.d 1 ≤ 2) : uioForceChk c s = none := by
  rw [uioForceChk, hr]
  exact if_neg (by simp [hout, hforce])

theorem onFan_up {s : State} (hup : s.powDown = false) (f : FanCmd → FanCmd) (c : Cmd) :
    onFan f c s = doneE c (s.setSets (s.field.sets.putFan (f (s.field.sets.fan (p8 c.d 0))))) := if_neg (by simp [hup])

theorem onUio_up {s : State} (hup : s.ioDown = false) (f : UioCmd → UioCmd) (c : Cmd) :
    onUio f c s = doneE c (s.setSets (s.field.sets.putUio (f (s.field.sets.uio (p8 c.d 0))))) := if_neg (by simp [hup])

/-- Settles O16. -/
theorem fieldSettingsComplete : Obligations.FieldSettingsComplete := by
  unfold Obligations.FieldSettingsComplete
  refine ⟨?valve, ?valveForced, fun r => ?fan, fun r => ?fanSet, ?fanForce, ?fanForced, fun r => ?loop, fun r => ?loopSet, fun r => ?output,
    fun r => ?outputSet, fun r => ?outputForce, fun r => ?outputForced⟩
  case valve =>
    refine waits_intro (tieIf vlvForceChk) (fun _ _ _ => rfl) fun c s h => ?_
    simp only [Bool.and_eq_true, decide_eq_true_eq] at h
    exact tieIf_of_none (vlvForceChk_eq_none h.1 h.2)
  case valveForced =>
    refine takes_intro vlvForceEff rfl fun n c s h => ?_
    simp only [Bool.and_eq_true, decide_eq_true_eq, Bool.not_eq_true'] at h
    obtain ⟨⟨hrec, hforce⟩, hup⟩ := h
    rw [vlvForceEff, effIf_of_none (vlvForceChk_eq_none hrec hforce)]
    exact if_neg (by simp [hup])
  case fan =>
    refine waits_intro (tieIf (fanSourceChk 2)) (fun _ _ _ => rfl) fun c s h => ?_
    simp only [Bool.and_eq_true, decide_eq_true_eq] at h
    exact tieIf_of_none (h.2 ▸ fanSourceChk_eq_none h.1)
  case fanSet =>
    refine takes_intro fanSetEff rfl fun n c s h => ?_
    simp only [Bool.and_eq_true, decide_eq_true_eq, Bool.not_eq_true'] at h
    obtain ⟨⟨hr, hsrc⟩, hup⟩ := h
    rw [fanSetEff, effIf_of_none (hsrc ▸ fanSourceChk_eq_none hr)]
    exact onFan_up hup ..
  case fanForce =>
    refine waits_intro (tieIf fanForceChk) (fun _ _ _ => rfl) fun c s h => ?_
    simp only [Bool.and_eq_true, decide_eq_true_eq] at h
    exact tieIf_of_none (fanForceChk_eq_none h.1 h.2)
  case fanForced =>
    refine takes_intro fanForceEff rfl fun n c s h => ?_
    simp only [Bool.and_eq_true, decide_eq_true_eq, Bool.not_eq_true'] at h
    obtain ⟨⟨hrec, hforce⟩, hup⟩ := h
    rw [fanForceEff, effIf_of_none (fanForceChk_eq_none hrec hforce)]
    exact onFan_up hup ..
  case loop =>
    refine waits_intro (tieIf (fanSourceChk 1)) (fun _ _ _ => rfl) fun c s h => ?_
    simp only [Bool.and_eq_true, decide_eq_true_eq] at h
    exact tieIf_of_none (h.2 ▸ fanSourceChk_eq_none h.1)
  case loopSet =>
    refine takes_intro fanLoopSetEff rfl fun n c s h => ?_
    simp only [Bool.and_eq_true, decide_eq_true_eq, Bool.not_eq_true'] at h
    obtain ⟨⟨hr, hsrc⟩, hup⟩ := h
    rw [fanLoopSetEff, effIf_of_none (hsrc ▸ fanSourceChk_eq_none hr)]
    exact onFan_up hup ..
  case output =>
    refine waits_intro (tieIf uioSetChk) (fun _ _ _ => rfl) fun c s h => ?_
    simp only [Bool.and_eq_true, decide_eq_true_eq] at h
    exact tieIf_of_none (uioSetChk_eq_none h.1.1 h.1.2 h.2)
  case outputSet =>
    refine takes_intro uioSetEff rfl fun n c s h => ?_
    simp only [Bool.and_eq_true, decide_eq_true_eq, Bool.not_eq_true'] at h
    obtain ⟨⟨⟨hr, hout⟩, hsrc⟩, hup⟩ := h
    rw [uioSetEff, effIf_of_none (uioSetChk_eq_none hr hout hsrc)]
    exact onUio_up hup ..
  case outputForce =>
    refine waits_intro (tieIf uioForceChk) (fun _ _ _ => rfl) fun c s h => ?_
    simp only [Bool.and_eq_true, decide_eq_true_eq] at h
    exact tieIf_of_none (uioForceChk_eq_none h.1.1 h.1.2 h.2)
  case outputForced =>
    refine takes_intro uioForceEff rfl fun n c s h => ?_
    simp only [Bool.and_eq_true, decide_eq_true_eq, Bool.not_eq_true'] at h
    obtain ⟨⟨⟨hr, hout⟩, hforce⟩, hup⟩ := h
    rw [uioForceEff, effIf_of_none (uioForceChk_eq_none hr hout hforce)]
    exact onUio_up hup ..

/-! Clears. -/

/-- A clear of all channels completes with the number cleared, whatever still holds. -/
theorem clearMany_all {n : Nat} (hn : n ≠ 1) (present : Nat) (f : Nat → Bool → State → Option (State × Nat)) (s : State) :
    clearMany present (clearChs n 0xFF) f s =
      (let r := (List.range n).foldl (fun a ch => clearOne (f ch) a) { s := s, n := 0, held := false }
       okResult r.n r.s) := by
  have hmany : ((List.range n).length == 1) = false := by simpa using hn
  rw [clearChs, if_pos rfl, clearMany, hmany]
  simp only [Bool.and_false, Bool.false_eq_true, if_false]

/-- A clear of one channel that its condition lets go completes with what it cleared. -/
theorem clearMany_one {ch : Nat} (hch : ch ≠ 0xFF) {f : Nat → Bool → State → Option (State × Nat)} {s : State} {q : State × Nat}
    (hq : f ch s.openBit s.used = some q) (n present : Nat) : clearMany present (clearChs n ch) f s = okResult q.2 q.1 := by
  rw [clearChs, if_neg hch]
  simp only [clearMany, List.foldl_cons, List.foldl_nil, clearOne, hq, Bool.false_and, Bool.false_eq_true, if_false, Nat.zero_add]

theorem vlvClear_up {c : Cmd} {s : State} (hrec : p8 c.d 0 = 0xFF ∨ (s.datum.valveRec (p8 c.d 0)).isSome = true) (hup : s.powDown = false) :
    vlvClear c s = clearMany stVlvPresent (clearChs 16 (p8 c.d 0)) vlvClearAt s := by
  have hok : ¬(p8 c.d 0 ≠ 0xFF ∧ (s.datum.valveRec (p8 c.d 0)).isNone = true) := fun h =>
    hrec.elim h.1 fun hs => by simp [Option.isNone_iff_eq_none.mp h.2] at hs
  rw [vlvClear, if_neg hok, if_neg (by simp [hup])]

theorem fanClearCmd_up {c : Cmd} {s : State} (hrec : p8 c.d 0 = 0xFF ∨ (s.datum.fanRec (p8 c.d 0)).isSome = true) (hup : s.powDown = false) :
    fanClearCmd c s = clearMany stFanPresent (clearChs 12 (p8 c.d 0)) fanClearAt s := by
  have hok : ¬(p8 c.d 0 ≠ 0xFF ∧ (s.datum.fanRec (p8 c.d 0)).isNone = true) := fun h =>
    hrec.elim h.1 fun hs => by simp [Option.isNone_iff_eq_none.mp h.2] at hs
  rw [fanClearCmd, if_neg hok, if_neg (by simp [hup])]

theorem uioClearCmd_up {c : Cmd} {s : State} (hrec : p8 c.d 0 = 0xFF ∨ (s.datum.uioLead (p8 c.d 0)).isSome = true) (hup : s.ioDown = false) :
    uioClearCmd c s = clearMany stUioPresent (clearChs 32 (p8 c.d 0)) uioClearAt s := by
  have hok : ¬(p8 c.d 0 ≠ 0xFF ∧ (s.datum.uioLead (p8 c.d 0)).isNone = true) := fun h =>
    hrec.elim h.1 fun hs => by simp [Option.isNone_iff_eq_none.mp h.2] at hs
  rw [uioClearCmd, if_neg hok, if_neg (by simp [hup])]

/-- FAN_LEARN of a channel at a die that is up, whose bins fit. -/
theorem fanLearn_committed {c : Cmd} {s s2 : State} {f : FanSt} (hrec : (s.datum.fanRec (p8 c.d 0)).isSome = true)
    (hf : s.power.fan (p8 c.d 0) = some f) (hup : s.powDown = false) (hfits : fits c.d (f.bins.map binBytes).flatten = true)
    (hcommit : commitBins (if bit (p8 c.d 1) 0 then putPower (s.power.setFan { f with bins := noBins }) s else s) = (s2, true)) :
    fanLearn c s = .done (putData c.d (f.bins.map binBytes).flatten s2) stOk 0 0 := by
  obtain ⟨r, hr⟩ := Option.isSome_iff_exists.mp hrec
  simp only [fanLearn, hr, hf, hup, hfits, hcommit, Bool.false_eq_true, Bool.true_eq_false, if_false, if_true]
  exact answer_of_fits hfits ..

/-- Settles O17. -/
theorem fieldClearsComplete : Obligations.FieldClearsComplete := by
  unfold Obligations.FieldClearsComplete
  refine ⟨?valves, fun q => ?valve, ?fans, fun q => ?fan, ?channels, fun q => ?channel, fun f s2 => ?learn⟩
  case valves =>
    refine completes_intro vlvClear (fun _ _ _ => rfl) fun c s h => ?_
    simp only [Bool.and_eq_true, decide_eq_true_eq, Bool.not_eq_true'] at h
    rw [vlvClear_up (.inl h.1) h.2, h.1, clearMany_all (by decide)]
    rfl
  case valve =>
    refine completes_intro vlvClear (fun _ _ _ => rfl) fun c s h => ?_
    simp only [Bool.and_eq_true, decide_eq_true_eq, Bool.not_eq_true'] at h
    obtain ⟨⟨⟨hch, hrec⟩, hup⟩, hq⟩ := h
    exact (vlvClear_up (.inr hrec) hup).trans (clearMany_one hch hq 16 _)
  case fans =>
    refine completes_intro fanClearCmd (fun _ _ _ => rfl) fun c s h => ?_
    simp only [Bool.and_eq_true, decide_eq_true_eq, Bool.not_eq_true'] at h
    rw [fanClearCmd_up (.inl h.1) h.2, h.1, clearMany_all (by decide)]
    rfl
  case fan =>
    refine completes_intro fanClearCmd (fun _ _ _ => rfl) fun c s h => ?_
    simp only [Bool.and_eq_true, decide_eq_true_eq, Bool.not_eq_true'] at h
    obtain ⟨⟨⟨hch, hrec⟩, hup⟩, hq⟩ := h
    exact (fanClearCmd_up (.inr hrec) hup).trans (clearMany_one hch hq 12 _)
  case channels =>
    refine completes_intro uioClearCmd (fun _ _ _ => rfl) fun c s h => ?_
    simp only [Bool.and_eq_true, decide_eq_true_eq, Bool.not_eq_true'] at h
    rw [uioClearCmd_up (.inl h.1) h.2, h.1, clearMany_all (by decide)]
    rfl
  case channel =>
    refine completes_intro uioClearCmd (fun _ _ _ => rfl) fun c s h => ?_
    simp only [Bool.and_eq_true, decide_eq_true_eq, Bool.not_eq_true'] at h
    obtain ⟨⟨⟨hch, hrec⟩, hup⟩, hq⟩ := h
    exact (uioClearCmd_up (.inr hrec) hup).trans (clearMany_one hch hq 32 _)
  case learn =>
    refine completes_intro fanLearn (fun _ _ _ => rfl) fun c s h => ?_
    simp only [Bool.and_eq_true, decide_eq_true_eq, Bool.not_eq_true'] at h
    obtain ⟨⟨⟨⟨hrec, hf⟩, hup⟩, hfits⟩, hcommit⟩ := h
    exact fanLearn_committed hrec hf hup hfits hcommit

end Sys2Proof.Machine
end

section
/-!
The completion statements of the CAN, system, power, key, store, update and recorder commands (12, 13, 15 to 20).
-/
namespace Sys2Proof.Machine

/-! CAN. -/

theorem canRecOf_isNone {c : Cmd} {s : State} (h : (s.datum.canRec (p8 c.d 0)).isSome = true) : (canRecOf c s).isNone = false :=
  Option.isNone_eq_false_iff.mpr h

theorem canTxCancel_held {c : Cmd} {s : State} {h : CanCh} {i : Nat} {x : TxFrame} (hrec : (canSendRec c s).isSome = true)
    (hx : tagHolder (p8 c.d 0) (p32 c.d 4) s = some (h, i, x)) :
    canTxCancel c s =
      if i = 0 ∧ (txHead h).isSome then .wait (setCan { h with fifo := setAt 0 { x with cancel := some s.now } h.fifo } s) c
      else okResult 1 (canStep h.ch s.now (cancelNow x) s) := by
  simp only [canTxCancel, Option.isNone_eq_false_iff.mpr hrec, hx, Bool.false_eq_true, if_false]

/-- Settles O18. -/
theorem canCommandsComplete : Obligations.CanCommandsComplete := by
  unfold Obligations.CanCommandsComplete
  refine ⟨?status, ?strangers, fun h i x => ?cancelled, fun h x => ?arbitrated, fun r => ?recover, fun r => ?claim, ?release⟩
  case status =>
    refine completes_intro canStatus (fun _ _ _ => rfl) fun c s h => ?_
    exact if_neg (by simp [canRecOf_isNone h])
  case strangers =>
    refine completes_intro canStrangers (fun _ _ _ => rfl) fun c s h => ?_
    obtain ⟨hrec, hfits⟩ := Bool.and_eq_true_iff.mp h
    simp only [canStrangers, canRecOf_isNone hrec, hfits, Bool.false_eq_true, Bool.true_eq_false, if_false]
    exact answer_of_fits hfits ..
  case cancelled =>
    refine completes_intro canTxCancel (fun _ _ _ => rfl) fun c s hP => ?_
    simp only [Bool.and_eq_true, decide_eq_true_eq, Bool.not_eq_true', Bool.and_eq_false_iff, beq_eq_false_iff_ne] at hP
    obtain ⟨⟨hrec, hx⟩, hfree⟩ := hP
    rw [canTxCancel_held hrec hx]
    exact if_neg fun ⟨hi, hhead⟩ => hfree.elim (absurd hi) fun hno => by simp [hno] at hhead
  case arbitrated =>
    refine goesOn_intro canTxCancel (fun _ _ _ => rfl) fun c s hP => ?_
    simp only [Bool.and_eq_true, decide_eq_true_eq] at hP
    obtain ⟨⟨hrec, hx⟩, hhead⟩ := hP
    rw [canTxCancel_held hrec hx]
    exact if_pos ⟨rfl, hhead⟩
  case recover =>
    refine completes_intro canRecover (fun _ _ _ => rfl) fun c s h => ?_
    simp only [Bool.and_eq_true, decide_eq_true_eq, Bool.not_eq_true'] at h
    obtain ⟨⟨hr, hoff⟩, hauto⟩ := h
    rw [canRecover, canRecOf, hr]
    exact if_neg (by simp [hoff, hauto])
  case claim =>
    refine goesOn_intro canClaim (fun _ _ _ => rfl) fun c s h => ?_
    simp only [Bool.and_eq_true, decide_eq_true_eq, Bool.not_eq_true'] at h
    rw [canClaim, h.1]
    exact if_neg (by simp [h.2])
  case release =>
    refine completes_intro canRelease (fun _ _ _ => rfl) fun c s h => ?_
    exact if_neg (by simp [canRecOf_isNone h])

/-! System. -/

/-- Settles O19. -/
theorem systemCommandsComplete : Obligations.SystemCommandsComplete := by
  unfold Obligations.SystemCommandsComplete
  refine ⟨?info, ?exchange, ?datum, fun f => ?feed, fun x => ?abort, ?load⟩
  case info => exact answers_intro sysInfo (fun _ _ _ => rfl) fun c s _ hfits => answer_of_fits hfits ..
  case exchange =>
    refine answers_intro exchangeRead (fun _ _ _ => rfl) fun c s h hfits => ?_
    simp only [Bool.and_eq_true, decide_eq_true_eq] at h
    rw [exchangeRead, if_neg (by omega)]
    exact answer_of_fits hfits ..
  case datum => exact answers_intro readDatum (fun _ _ _ => rfl) fun c s _ hfits => answer_of_fits hfits ..
  case feed =>
    refine completes_intro sampleFeed (fun _ _ _ => rfl) fun c s h => ?_
    simp only [Bool.and_eq_true, decide_eq_true_eq] at h
    obtain ⟨hlen, hf⟩ := h
    simp only [sampleFeed, hlen, hf, ne_eq, not_true, if_false]
    rfl
  case abort =>
    refine completes_intro abort (fun _ _ _ => rfl) fun c s h => ?_
    rw [abort, of_decide_eq_true h]
    rfl
  case load =>
    refine goesOn_intro loadDatum (fun _ _ _ => rfl) fun c s h => ?_
    simp only [Bool.and_eq_true, Bool.not_eq_true', Option.isNone_iff_eq_none] at h
    simp only [loadDatum, h.1, h.2, Bool.false_eq_true, if_false]

/-! Power and safe state. -/

theorem planSet_stored {c : Cmd} {s s2 : State} {k : Nat} (hmin : 20 ≤ p16 c.d 2) (hmax : p16 c.d 2 ≤ 7200) (hcauses : p8 c.d 1 < 64)
    (hk : s.areaNo = some k)
    (hstore : storePlan k { armed := p8 c.d 0, causes := p8 c.d 1, delay := p16 c.d 2, secVer := s.boot.secVer, hash := configHash s }
      (ledTarget c.led (0x3006 + 0x1000 * k) (s.areaAt k).plan.nextGen s) = (s2, true)) :
    planSet c s = okResult (s.areaAt k).plan.nextGen s2 := by
  have hrange : ¬(p16 c.d 2 < 20 ∨ 7200 < p16 c.d 2 ∨ 64 ≤ p8 c.d 1) := by omega
  simp only [planSet, hrange, hk, hstore, if_false, if_true]

/-- PWR_STATE to WATCH or HALT notes its move. -/
theorem pwrState_move {c : Cmd} {s : State} (hst : (p8 c.d 0 = 2 ∧ p32 c.d 4 = 0) ∨ p8 c.d 0 = 3) (hbusy : pwrBusy c.eff s = false)
    (hclock : s.clk.lfProven = true) :
    pwrState c s = .wait { s with pwr := { s.pwr with move := some (p8 c.d 0, c.eff), moved := false } } c := by
  have hcode : ¬(3 < p8 c.d 0 ∨ (p8 c.d 0 ≠ 3 ∧ p32 c.d 4 ≠ 0)) := by omega
  have hdeep : ¬ p8 c.d 0 < 2 := by omega
  simp only [pwrState, hcode, hdeep, hbusy, hclock, Bool.false_eq_true, Bool.true_eq_false, if_false]
  rfl

/-- Settles O20. -/
theorem safeAndPowerCommandsComplete : Obligations.SafeAndPowerCommandsComplete := by
  unfold Obligations.SafeAndPowerCommandsComplete
  refine ⟨?set, ?status, ?release, ?released, fun k s2 => ?plan, ?planRead, ?shallow, ?deep, ?shallowTaken, ?reset⟩
  case set => exact completes_intro safeSet (fun _ _ _ => rfl) fun _ _ _ => rfl
  case status => exact completes_intro safeStatus (fun _ _ _ => rfl) fun _ _ _ => rfl
  case release =>
    refine waits_intro safeRelease (fun _ _ _ => rfl) fun c s h => ?_
    rw [safeRelease, Option.isNone_iff_eq_none.mp h]
    rfl
  case released =>
    refine takes_intro safeReleaseEffect rfl fun n c s h => ?_
    exact if_neg (Nat.not_le.mpr (of_decide_eq_true h))
  case plan =>
    refine completes_intro planSet (fun _ _ _ => rfl) fun c s h => ?_
    simp only [Bool.and_eq_true, decide_eq_true_eq] at h
    obtain ⟨⟨⟨⟨hmin, hmax⟩, hcauses⟩, hk⟩, hstore⟩ := h
    exact planSet_stored hmin hmax hcauses hk hstore
  case planRead => exact answers_intro planRead (fun _ _ _ => rfl) fun c s _ hfits => answer_of_fits hfits ..
  case shallow =>
    refine waits_intro pwrState (fun _ _ _ => rfl) fun c s h => ?_
    simp only [Bool.and_eq_true, decide_eq_true_eq] at h
    rw [pwrState, if_neg (by omega), if_pos h.1]
    rfl
  case deep =>
    refine goesOn_intro pwrState (fun _ _ _ => rfl) fun c s h => ?_
    simp only [Bool.and_eq_true, Bool.or_eq_true, decide_eq_true_eq, Bool.not_eq_true'] at h
    obtain ⟨⟨hst, hbusy⟩, hclock⟩ := h
    exact pwrState_move hst hbusy hclock
  case shallowTaken =>
    refine takes_intro pwrStateEffect rfl fun n c s h => ?_
    rw [pwrStateEffect, if_pos (of_decide_eq_true h)]
    rfl
  case reset =>
    refine completes_intro resetOrder (fun _ _ _ => rfl) fun c s h => ?_
    exact if_neg (by simpa using h)

/-! Keys and the store. -/

theorem ledgerMap_auth (n : Option Nat) (f : LedEntry → LedEntry) (s : State) : (ledgerMap n f s).auth = s.auth := by
  cases n with
  | none => rfl
  | some k =>
    simp only [ledgerMap]
    split
    · next e _ => exact storeTwo_auth (placeLedger k) (s.nvs.ledger.getD k noTwo) (f e) s
    · rfl

theorem keyRec_ledTarget (led : Option Nat) (target gen : Nat) (s : State) (n : Nat) : (ledTarget led target gen s).keyRec n = s.keyRec n := by
  rw [State.keyRec, State.kslot, ledTarget, ledgerMap_auth]
  rfl

/-- KEY_CHANGE whose key is stored. -/
theorem keyChange_stored {c : Cmd} {s q : State} {key : Bytes} (hslot : p8 c.d 0 ≤ 7) (hkey : newKeyOf c s = some key)
    (hstore : storeKey (p8 c.d 0)
      { key := some key, mask := installMask (p8 c.d 0) (p16 c.d 2), installs := (s.keyRec (p8 c.d 0)).installs + 1 }
      (ledTarget c.led (0xA200 + p8 c.d 0) (s.kslot (p8 c.d 0)).key.nextGen s) = (q, true)) :
    keyChange c s = .done q stOk 0 ((s.keyRec (p8 c.d 0)).installs + 1) := by
  simp only [keyChange, Nat.not_lt.mpr hslot, hkey, keyTarget, installKey, keyRec_ledTarget, hstore, if_false, if_true]
  rfl

theorem keyErase_stored {c : Cmd} {s q : State} (hlow : 1 ≤ p8 c.d 0) (hhigh : p8 c.d 0 ≤ 7)
    (hstore : storeKey (p8 c.d 0) { key := none, mask := 0, installs := (s.keyRec (p8 c.d 0)).installs }
      (ledTarget c.led (0xA200 + p8 c.d 0) (s.kslot (p8 c.d 0)).key.nextGen s) = (q, true)) :
    keyErase c s = .done q stOk 0 0 := by
  have hslot : ¬(p8 c.d 0 = 0 ∨ 7 < p8 c.d 0) := by omega
  simp only [keyErase, hslot, keyTarget, hstore, if_false]
  rfl

theorem cosignSet_stored {c : Cmd} {s q : State} (hpoint : onP256 c.d.data = true)
    (hstore : storeCosign { key := some c.d.data, require := bit (p8 c.d 0) 0 } (ledTarget c.led 0xA208 s.auth.cosign.nextGen s) = (q, true)) :
    cosignSet c s = .done q stOk 0 0 := by
  have htarget : keyTarget 8 = 0xA208 := rfl
  simp only [cosignSet, hpoint, htarget, hstore, if_true]
  rfl

/-- Settles O21. -/
theorem keyAndStoreCommandsComplete : Obligations.KeyAndStoreCommandsComplete := by
  unfold Obligations.KeyAndStoreCommandsComplete
  refine ⟨?status, ?cosign, fun key q => ?change, fun q => ?erase, fun q => ?cosignSet, ?ledger, ?nvs, ?commit⟩
  case status =>
    refine completes_intro keyStatus (fun _ _ _ => rfl) fun c s h => ?_
    exact if_neg (Nat.not_lt.mpr (of_decide_eq_true h))
  case cosign => exact answers_intro cosignRead (fun _ _ _ => rfl) fun c s _ hfits => answer_of_fits hfits ..
  case change =>
    refine goesOn_intro keyChange (fun _ _ _ => rfl) fun c s h => ?_
    simp only [Bool.and_eq_true, decide_eq_true_eq] at h
    exact keyChange_stored h.1.1 h.1.2 h.2
  case erase =>
    refine completes_intro keyErase (fun _ _ _ => rfl) fun c s h => ?_
    simp only [Bool.and_eq_true, decide_eq_true_eq] at h
    exact keyErase_stored h.1.1 h.1.2 h.2
  case cosignSet =>
    refine completes_intro cosignSet (fun _ _ _ => rfl) fun c s h => ?_
    simp only [Bool.and_eq_true, decide_eq_true_eq] at h
    exact cosignSet_stored h.1 h.2
  case ledger =>
    refine answers_intro queryLedger (fun _ _ _ => rfl) fun c s h hfits => ?_
    simp only [Bool.and_eq_true, decide_eq_true_eq] at h
    rw [queryLedger, if_neg (by omega)]
    exact answer_of_fits hfits ..
  case nvs => exact completes_intro nvsStatus (fun _ _ _ => rfl) fun _ _ _ => rfl
  case commit =>
    refine goesOn_intro settingsCommit (fun _ _ _ => rfl) fun c s h => ?_
    rw [Bool.not_eq_true'] at h
    simp only [settingsCommit, h, Bool.false_eq_true, if_false]

/-! Activation. -/

theorem updActivate_stored {c : Cmd} {s s1 : State} (hstate : s.session.state = 2) (hpath : s.session.path = 1)
    (harmed : (bit (p8 c.d 2) 1 && s.armed) = false)
    (hstore : storeBoot (trialRec (clampN 60 3600 (dflt (p16 c.d 0) 900)) (2 * b2n (bit (p8 c.d 2) 0)) s)
      (ledTarget c.led 0xA100 s.upd.boot.nextGen s) = (s1, true)) :
    updActivate c s =
      (let s2 := (storeSession { s1.session with state := 0 } s1).1
       okResult 0 (if bit (p8 c.d 2) 1 then orderReset (s.now + 1677722) s2 else s2)) := by
  have hsafe : ¬(bit (p8 c.d 2) 1 = true ∧ s.armed = true) := by simpa using harmed
  simp only [updActivate, hstate, hpath, hsafe, trialWindow, bootTarget, hstore, ne_eq, not_true, or_self, if_false]
  rfl

theorem stageCommit_stored {c : Cmd} {s s1 : State} (harmed : s.armed = false) (hbusy : stageBusy s = false)
    (hstate : s.session.state = 1) (hfull : bitmapFull s = true)
    (hstore : storeBoot (trialRec 900 3 s) (ledTarget c.led 0xA100 s.upd.boot.nextGen s) = (s1, true)) :
    stageCommit c s = okResult 0 (orderReset (s.now + 1677722) s1) := by
  simp only [stageCommit, harmed, hbusy, hstate, hfull, bootTarget, hstore, ne_eq, not_true, Bool.false_eq_true, Bool.true_eq_false, if_false]
  rfl

/-- No command begins once the trial window is over (17 R464). -/
theorem trialOver_of_begins {k : Spec} {d : Desc} {s : State} {x : Cmd × State} (h : begins k d s = some x) : trialOver s = false := by
  have hopen : (sourceOpen d.src s && offered k.op d s) ≠ false := by
    intro hno
    simp only [begins, hno, if_true, reduceCtorEq] at h
  simp only [ne_eq, Bool.not_eq_false, Bool.and_eq_true, sourceOpen, Bool.not_eq_true'] at hopen
  obtain ⟨⟨⟨⟨⟨-, hover⟩, -⟩, -⟩, -⟩, -⟩ := hopen
  exact hover

/-- Settles O23. -/
theorem activationCommandsComplete : Obligations.ActivationCommandsComplete := by
  unfold Obligations.ActivationCommandsComplete
  refine ⟨fun s1 => ?activate, fun s1 => ?confirm, ?fallback, fun s1 => ?stage⟩
  case activate =>
    refine completes_intro updActivate (fun _ _ _ => rfl) fun c s h => ?_
    simp only [Bool.and_eq_true, decide_eq_true_eq, Bool.not_eq_true'] at h
    obtain ⟨⟨⟨hstate, hpath⟩, harmed⟩, hstore⟩ := h
    exact updActivate_stored hstate hpath harmed hstore
  case confirm =>
    intro t d s c s2 hb h
    simp only [Bool.and_eq_true, decide_eq_true_eq, Bool.not_eq_true'] at h
    obtain ⟨⟨⟨htrial, hhealthy⟩, -⟩, hdone⟩ := h
    have hgo : updConfirm c s2 = okResult s1.secFloor s1 := by
      simp only [updConfirm, htrial, hhealthy, bootTarget, hdone, Bool.true_eq_false, if_false]
    have hexec : exec (.updConfirm t d) s = .next (icSettle (confirmCommand d (advance t s))) := rfl
    have hbefore := trialOver_of_begins hb
    rw [hexec, confirmCommand, if_neg (by simp [hbefore]), command_begins updConfirm hb, hgo]
    rfl
  case fallback =>
    refine completes_intro updFallback (fun _ _ _ => rfl) fun c s h => ?_
    simp only [Bool.and_eq_true, Bool.not_eq_true'] at h
    simp only [updFallback, h.1, h.2, Bool.true_eq_false, Bool.false_eq_true, if_false]
    rfl
  case stage =>
    refine completes_intro stageCommit (fun _ _ _ => rfl) fun c s h => ?_
    simp only [Bool.and_eq_true, decide_eq_true_eq, Bool.not_eq_true'] at h
    obtain ⟨⟨⟨⟨harmed, hbusy⟩, hstate⟩, hfull⟩, hstore⟩ := h
    exact stageCommit_stored harmed hbusy hstate hfull hstore

/-! The recorder. -/

theorem gazClear_stored {c : Cmd} {s s2 : State} (hbits : p8 c.d 0 % 8 ≠ 0)
    (hstore : storeG0 { s.g0 with aFirst := if bit (p8 c.d 0 % 8) 0 then s.gaz.next else s.g0.aFirst
                                  bFirst := if bit (p8 c.d 0 % 8) 1 then s.gaz.next else s.g0.bFirst }
      (ledTarget c.led 0xA001 s.gaz.g0.nextGen s) = (s2, true)) :
    gazClear c s = okResult s.gaz.next (raise 0x0E04 [] (gazWipe (bit (p8 c.d 0 % 8) 0) (bit (p8 c.d 0 % 8) 2) s2)) := by
  simp only [gazClear, hbits, hstore, if_false, if_true]

/-- Settles O24. -/
theorem recorderCommandsComplete : Obligations.RecorderCommandsComplete := by
  unfold Obligations.RecorderCommandsComplete
  refine ⟨?status, ?read, fun s2 => ?clear, ?life, ?replace, fun m => ?maint, ?words⟩
  case status => exact completes_intro gazStatus (fun _ _ _ => rfl) fun _ _ _ => rfl
  case read =>
    refine answers_intro gazRead (fun _ _ _ => rfl) fun c s h hfits => ?_
    simp only [Bool.and_eq_true, decide_eq_true_eq] at h
    obtain ⟨⟨⟨hlevel, hmin⟩, hmax⟩, hend⟩ := h
    rw [gazRead, if_neg (Nat.not_lt.mpr hlevel), if_neg (by omega)]
    exact answer_of_fits hfits ..
  case clear =>
    refine completes_intro gazClear (fun _ _ _ => rfl) fun c s h => ?_
    simp only [Bool.and_eq_true, decide_eq_true_eq] at h
    exact gazClear_stored h.1 h.2
  case life =>
    refine answers_intro lifeRead (fun _ _ _ => rfl) fun c s h hfits => ?_
    rw [lifeRead, if_neg (Nat.not_lt.mpr (of_decide_eq_true h)), answer_of_fits hfits]
  case replace =>
    refine completes_intro lifeReplace (fun _ _ _ => rfl) fun c s h => ?_
    exact if_neg (by simpa [Option.isSome_iff_ne_none] using h)
  case maint =>
    refine completes_intro maintAck (fun _ _ _ => rfl) fun c s h => ?_
    simp only [Bool.and_eq_true, decide_eq_true_eq] at h
    rw [maintAck, h.1]
    exact if_pos h.2
  case words => exact answers_intro lastWordsRead (fun _ _ _ => rfl) fun c s _ hfits => answer_of_fits hfits ..

end Sys2Proof.Machine
end

section
/-!
The completion statements of the host interface, the registers, the interrupt controller and the SPI target (13, 14, 23).
-/
namespace Sys2Proof.Machine

/-- A register write has the effect stated where its own work `g` has it; before its turn it is only taken off the early ones. -/
theorem lands_intro {i : Nat → Instr} {P : State → Bool} {f : State → State} (g : State → State)
    (he : ∀ t s, exec (i t) s = .next (icSettle (inTurn (i t) g (advance t s)))) (hg : ∀ s, P s = true → g s = f s) : lands i P f := by
  refine ⟨fun t s hp hearly => ?_, fun t s hearly => ?_⟩
  · rw [he, ← hg _ hp, inTurn, if_neg (Bool.eq_false_iff.mp hearly)]
  · rw [he, inTurn, if_pos hearly]

/-- The same for a row that the host writes while it reaches LOGIC. -/
theorem lands_opened {i : Nat → Instr} {P : State → Bool} {f : State → State} (ok : Bool) (g : State → State)
    (he : ∀ t s, exec (i t) s = .next (icSettle (inTurn (i t) (opened ok g) (advance t s))))
    (hg : ∀ s, P s = true → s.awake = true ∧ ok = true ∧ g s = f s) : lands i P f := by
  refine lands_intro _ he fun s hp => ?_
  obtain ⟨hawake, hok, hgs⟩ := hg s hp
  rw [← hgs, opened, State.hostOpen, hawake, hok]
  rfl

/-- The same for an event that only a running LOGIC sees. -/
theorem happens_awake {i : Nat → Instr} {P : State → Bool} {f : State → State} (g : State → State)
    (he : ∀ t s, exec (i t) s = .next (icSettle ((fun s : State => if s.awake = true then g s else s) (advance t s))))
    (hg : ∀ s, P s = true → s.awake = true ∧ g s = f s) : happens i P f :=
  happens_intro (fun s : State => if s.awake = true then g s else s) he fun s hp => by
    obtain ⟨hawake, hgs⟩ := hg s hp
    exact (if_pos hawake).trans hgs

/-! Doorbells (R366, R371). -/

theorem doorbell_judged {r v : Nat} {s : State} (hr : r < 46) (hen : (s.ring r).enable = true) (hok : doorbellBad r v (s.ring r) = false) :
    doorbell r v s =
      if hostProducer r then s.setRing r { s.ring r with host := v }
      else
        let s1 := s.setRing r { s.ring r with host := v, armed := true }
        if (s1.ring r).unread = 0 then s1 else ringNotify r s1 := by
  have hcond : ¬(46 ≤ r ∨ (s.ring r).enable = false) := by simp only [hen, Bool.true_eq_false, or_false]; omega
  simp only [doorbell, if_neg hcond, hok, Bool.false_eq_true, if_false]

/-! The heartbeat (R383): HOST_SILENT is kept by what its event writes to the rings. -/

theorem msixSend_hostSilent (v : Nat) (s : State) : (msixSend v s).hif.hostSilent = s.hif.hostSilent := by
  simp only [msixSend]
  split
  · rfl
  · split <;> rfl

theorem ringNotify_hostSilent (r : Nat) (s : State) : (ringNotify r s).hif.hostSilent = s.hif.hostSilent := by
  simp only [ringNotify]
  split
  · exact msixSend_hostSilent _ _
  · rfl

theorem writeBatch_hostSilent (r : Nat) (l : List Bytes) (s : State) : (writeBatch r l s).hif.hostSilent = s.hif.hostSilent := by
  have hfold : (l.foldl (fun a b => writeEntry r b a) s).hif.hostSilent = s.hif.hostSilent := by
    induction l generalizing s with
    | nil => rfl
    | cons b l ih => exact ih _
  simp only [writeBatch]
  split
  · rfl
  · exact (ringNotify_hostSilent r _).trans hfold

theorem devPut_hostSilent (r stamp seq : Nat) (l : List Bytes) (s : State) : (devPut r stamp seq l s).hif.hostSilent = s.hif.hostSilent := by
  have hspill : (spillPut r stamp seq l s).hif.hostSilent = s.hif.hostSilent := by
    simp only [spillPut]
    split <;> rfl
  simp only [devPut]
  split
  · rfl
  · split
    · rfl
    · simp only [drain]
      split
      · exact hspill
      · exact (writeBatch_hostSilent r _ _).trans hspill

theorem silentFrom_hostSilent (e : Nat) (s : State) : (silentFrom e s).hif.hostSilent = true := devPut_hostSilent ..

theorem heartbeatLapse_before {s : State} (h : (heartbeatEnd s).all (fun e => decide (s.now ≤ e)) = true) : heartbeatLapse s = s := by
  simp only [heartbeatLapse]
  split
  · next e he =>
    rw [he] at h
    exact if_neg (Nat.not_lt.mpr (of_decide_eq_true h))
  · rfl

theorem heartbeatEnd_hostSilent {s : State} (h : s.hif.hostSilent = true) : heartbeatEnd s = none := by
  simp [heartbeatEnd, h]

/-- Before the timeout's instant a write restarts the timer. -/
theorem heartbeat_before {s : State} (v : Nat) (hheard : s.hif.hostSilent = false)
    (hend : (heartbeatEnd s).all (fun e => decide (s.now ≤ e)) = true) :
    heartbeat v s = { s with hif := { s.hif with hbLast := v % 2 ^ 32, hbStart := s.now } } := by
  simp only [heartbeat, heartbeatLapse_before hend, hheard, Bool.false_eq_true, if_false]

/-- After a silence it is the host's return. -/
theorem heartbeat_return {s0 s : State} (v : Nat) (hlapse : heartbeatLapse s0 = s) (hsilent : s.hif.hostSilent = true) :
    heartbeat v s0 =
      (let s1 := { s with hif := { s.hif with hbLast := v % 2 ^ 32, hbStart := s.now, hostSilent := false } }
       internalCmd opHostReturn [] (s1.n0 s1.now) (raise 0x0102 [] s1)) := by
  simp only [heartbeat, hlapse, hsilent, if_true]

theorem hostLimit_due {m a : Nat} {r : Bytes} {s : State} (hr : s.datum.dryerOf m = some r) (ha : s.plant.silentAt = some a)
    (hsilent : s.hif.hostSilent = true) (hlimit : dcAutoLimit r ≠ 0) (hdue : a + dcAutoLimit r * 60 * 2 ^ 24 ≤ s.now)
    (hfirst : (s.cmds.any fun c => c.op == opHostLimit && u8 c.d.params 0 == m) = false)
    (hruns : ((dryerAt s.plant m).any fun x => x.stopped) = false) :
    hostLimit m s = internalCmd opHostLimit (leBytes 1 m) (s.n0 s.now) s := by
  simp only [hostLimit, hr, ha]
  refine if_neg ?_
  simp only [hsilent, hfirst, hruns, Bool.true_eq_false, Bool.false_eq_true, false_or, or_false, not_or]
  exact ⟨hlimit, Nat.not_lt.mpr hdue⟩

/-- Settles O25. -/
theorem doorbellAndHeartbeatComplete : Obligations.DoorbellAndHeartbeatComplete := by
  unfold Obligations.DoorbellAndHeartbeatComplete
  refine ⟨fun r v => ?producer, fun r v => ?consumer, fun v => ?beat, fun v => ?back, fun v e => ?late, fun v => ?kick, fun v => ?config,
    fun e => ?timeout, fun m r a => ?limit⟩
  case producer =>
    refine happens_awake (doorbell r v) (fun _ _ => rfl) fun s h => ?_
    simp only [Bool.and_eq_true, decide_eq_true_eq, Bool.not_eq_true'] at h
    obtain ⟨⟨⟨⟨hawake, hr⟩, hen⟩, hhost⟩, hok⟩ := h
    exact ⟨hawake, (doorbell_judged hr hen hok).trans (if_pos hhost)⟩
  case consumer =>
    refine happens_awake (doorbell r v) (fun _ _ => rfl) fun s h => ?_
    simp only [Bool.and_eq_true, decide_eq_true_eq, Bool.not_eq_true'] at h
    obtain ⟨⟨⟨⟨hawake, hr⟩, hen⟩, hhost⟩, hok⟩ := h
    exact ⟨hawake, (doorbell_judged hr hen hok).trans (if_neg (Bool.eq_false_iff.mp hhost))⟩
  case beat =>
    refine happens_awake (heartbeat v) (fun _ _ => rfl) fun s h => ?_
    simp only [Bool.and_eq_true, Bool.not_eq_true'] at h
    obtain ⟨⟨hawake, hheard⟩, hend⟩ := h
    exact ⟨hawake, heartbeat_before v hheard hend⟩
  case back =>
    refine happens_awake (heartbeat v) (fun _ _ => rfl) fun s h => ?_
    simp only [Bool.and_eq_true] at h
    obtain ⟨hawake, hsilent⟩ := h
    have hlapse : heartbeatLapse s = s := by simp only [heartbeatLapse, heartbeatEnd_hostSilent hsilent]
    exact ⟨hawake, heartbeat_return v hlapse hsilent⟩
  case late =>
    refine happens_awake (heartbeat v) (fun _ _ => rfl) fun s h => ?_
    simp only [Bool.and_eq_true, decide_eq_true_eq] at h
    obtain ⟨⟨hawake, hend⟩, hpast⟩ := h
    have hlapse : heartbeatLapse s = silentFrom e s := by simp only [heartbeatLapse, hend, if_pos hpast]
    exact ⟨hawake, heartbeat_return v hlapse (silentFrom_hostSilent e s)⟩
  case kick =>
    refine lands_opened true (heartbeat v) (fun _ _ => rfl) fun s h => ?_
    simp only [Bool.and_eq_true, Bool.not_eq_true'] at h
    obtain ⟨⟨hawake, hheard⟩, hend⟩ := h
    exact ⟨hawake, rfl, heartbeat_before v hheard hend⟩
  case config => exact lands_opened true (writeHbcfg v) (fun _ _ => rfl) fun s h => ⟨h, rfl, rfl⟩
  case timeout =>
    refine happens_intro heartbeatLost (fun _ _ => rfl) fun s h => ?_
    simp only [Bool.and_eq_true, decide_eq_true_eq, Bool.not_eq_true'] at h
    obtain ⟨⟨⟨hawake, hend⟩, hcome⟩, hwaits⟩ := h
    simp only [heartbeatLost, hend]
    refine if_neg ?_
    simp only [hawake, hwaits, Bool.true_eq_false, Bool.false_eq_true, and_false, or_false, false_or]
    exact Nat.not_lt.mpr hcome
  case limit =>
    refine happens_awake (hostLimit m) (fun _ _ => rfl) fun s h => ?_
    simp only [Bool.and_eq_true, decide_eq_true_eq, Bool.not_eq_true'] at h
    obtain ⟨⟨⟨⟨⟨⟨⟨hawake, hr⟩, ha⟩, hsilent⟩, hlimit⟩, hdue⟩, hfirst⟩, hruns⟩ := h
    exact ⟨hawake, hostLimit_due hr ha hsilent hlimit hdue hfirst hruns⟩

/-! Rings (R364, R365, R370). -/

theorem drain_some {r : Nat} {s : State} (h : 0 < min (s.spill r).recs.length (s.ring r).room) :
    drain r s =
      (let k := min (s.spill r).recs.length (s.ring r).room
       writeBatch r ((s.spill r).recs.take k) (s.setSpill r { s.spill r with recs := (s.spill r).recs.drop k })) :=
  if_neg (Nat.ne_of_gt h)

/-- Settles O26. -/
theorem ringAndLinkEventsComplete : Obligations.RingAndLinkEventsComplete := by
  unfold Obligations.RingAndLinkEventsComplete
  refine ⟨fun r v => ?enable, fun r v => ?disable, fun cq p => ?held, fun r => ?spill, ?flr, ?linkReset, fun sp w b => ?linkUp⟩
  case enable =>
    refine lands_opened true (writeRcfg r v) (fun _ _ => rfl) fun s h => ?_
    simp only [Bool.and_eq_true, decide_eq_true_eq, Bool.not_eq_true'] at h
    obtain ⟨⟨⟨⟨hawake, hr⟩, hoff⟩, hbit⟩, hok⟩ := h
    refine ⟨hawake, rfl, ?_⟩
    simp only [writeRcfg, if_neg (Nat.not_le.mpr hr), if_neg (Bool.eq_false_iff.mp hoff), hbit, if_neg (Bool.eq_false_iff.mp hok),
      Bool.true_eq_false, if_false]
  case disable =>
    refine lands_opened true (writeRcfg r v) (fun _ _ => rfl) fun s h => ?_
    simp only [Bool.and_eq_true, decide_eq_true_eq, Bool.not_eq_true'] at h
    obtain ⟨⟨⟨hawake, hr⟩, hon⟩, hbit⟩ := h
    refine ⟨hawake, rfl, ?_⟩
    simp only [writeRcfg, if_neg (Nat.not_le.mpr hr), hon, hbit, Bool.false_eq_true, if_true, if_false, stopRing]
  case held =>
    refine happens_awake (heldWrite cq) (fun _ _ => rfl) fun s h => ?_
    simp only [Bool.and_eq_true, decide_eq_true_eq] at h
    obtain ⟨⟨hawake, hfind⟩, hroom⟩ := h
    exact ⟨hawake, by simp only [heldWrite, hfind, if_neg hroom]⟩
  case spill =>
    refine happens_awake (drain r) (fun _ _ => rfl) fun s h => ?_
    simp only [Bool.and_eq_true, decide_eq_true_eq] at h
    exact ⟨h.1, drain_some h.2⟩
  case flr => exact happens_awake (hifResetOf true) (fun _ _ => rfl) fun s h => ⟨h, rfl⟩
  case linkReset => exact happens_awake (hifResetOf false) (fun _ _ => rfl) fun s h => ⟨h, rfl⟩
  case linkUp => exact happens_awake (linkUp sp w b) (fun _ _ => rfl) fun s h => ⟨h, rfl⟩

/-! Registers. -/

/-- Settles O27. -/
theorem registerCommandsComplete : Obligations.RegisterCommandsComplete := by
  unfold Obligations.RegisterCommandsComplete
  refine ⟨fun a v => ?aligned, ?mer, ?merSpi, fun n v => ?ilcfg, fun v => ?ledger, fun v => ?gaz, fun ch v => ?mbHi, fun ch v => ?mbLo⟩
  case aligned =>
    refine lands_intro (barWrite (4 * a) 4 v) (fun _ _ => rfl) fun s h => ?_
    exact if_pos ⟨rfl, Nat.mul_mod_right 4 a, h⟩
  case mer =>
    refine happens_intro (fun s => if s.hostOpen then
      { latchNow .pcie s with host := { s.host with readData := readWord .pcie 0x400 s } } else s) (fun _ _ => rfl) fun s h => ?_
    exact if_pos h
  case merSpi =>
    refine happens_intro (fun s => if s.pwr.reset then s else
      { latchNow .spi s with spi := { s.spi with out := let b := leBytes 4 (readWord .spi 0x400 s); b ++ leBytes 2 (crc16 b) } })
      (fun _ _ => rfl) fun s h => ?_
    exact if_neg (Bool.eq_false_iff.mp ((Bool.not_eq_true' _).mp h))
  case ilcfg =>
    refine lands_opened (decide (n < 3)) (writeIlcfg n v) (fun _ _ => rfl) fun s h => ?_
    simp only [Bool.and_eq_true] at h
    obtain ⟨⟨hawake, hn⟩, hset⟩ := h
    exact ⟨hawake, hn, by simp only [writeIlcfg, State.armed, hset, Bool.not_true, Bool.false_eq_true, if_false]⟩
  case ledger =>
    refine lands_intro (fun s => if s.pwr.reset then s else writeLedgerSel v s) (fun _ _ => rfl) fun s h => ?_
    exact if_neg (Bool.eq_false_iff.mp ((Bool.not_eq_true' _).mp h))
  case gaz =>
    refine lands_opened true (writeGazCfg v) (fun _ _ => rfl) fun s h => ?_
    simp only [Bool.and_eq_true, decide_eq_true_eq] at h
    exact ⟨h.1, rfl, if_neg h.2⟩
  case mbHi =>
    refine lands_opened (decide (ch < 4)) (writeMbbase ch true v) (fun _ _ => rfl) fun s h => ?_
    simp only [Bool.and_eq_true] at h
    exact ⟨h.1, h.2, rfl⟩
  case mbLo =>
    refine lands_opened (decide (ch < 4)) (writeMbbase ch false v) (fun _ _ => rfl) fun s h => ?_
    simp only [Bool.and_eq_true] at h
    exact ⟨h.1, h.2, rfl⟩

/-! The interrupt controller. -/

theorem onIc_congr {f g : Ic → Ic} {s : State} (h : f s.ic = g s.ic) : onIc f s = onIc g s := by simp only [onIc, h]

theorem State.awake_asleep {s : State} (h : s.awake = true) : s.time.asleep = false := by
  simp only [State.awake, Bool.and_eq_true, Bool.not_eq_true'] at h
  exact h.2

theorem State.awake_reset {s : State} (h : s.awake = true) : s.pwr.reset = false := by
  simp only [State.awake, Bool.and_eq_true, Bool.not_eq_true'] at h
  exact h.1

theorem irq_awake {n : Nat} {s : State} (hawake : s.awake = true) (hrun : s.pwr.cycle.isNone = true) :
    irq n s = (let s1 := onIc (icEvent s.now n) s; { s1 with cyc := { s1.cyc with evs := n :: s1.cyc.evs } }) := by
  have hno : s.pwr.cycle.isSome = false := by rw [Option.isNone_iff_eq_none.mp hrun]; rfl
  simp only [irq, State.awake_asleep hawake, hno, Bool.false_eq_true, if_false]

theorem icTimer_up {now n : Nat} {i : Ic} (hpend : (i.src n).pend = false) (hsvc : i.inSvc n = false) (hup : timeUp now (i.src n) = true) :
    icTimer now n i = i.setSrc n { i.src n with pend := true, byTime := true } := by
  simp [icTimer, hpend, hsvc, hup]

/-- Settles O28. -/
theorem interruptCommandsComplete : Obligations.InterruptCommandsComplete := by
  unfold Obligations.InterruptCommandsComplete
  refine ⟨fun n => ?claim, fun n v => ?done, fun v => ?treset, fun v => ?swset, fun w v => ?pend, fun n v => ?srccfg, fun v => ?tsleep,
    fun n l => ?event, fun n => ?gpl, fun n => ?timer⟩
  case claim => exact happens_intro (hostClaim n) (fun _ _ => rfl) fun s h => if_pos h
  case done =>
    refine lands_opened (decide (n < 8)) (doneWrite n v) (fun _ _ => rfl) fun s h => ?_
    simp only [Bool.and_eq_true] at h
    exact ⟨h.1, h.2, rfl⟩
  case treset => exact lands_opened true (fun s => onIc (fun i => treset v i s.now) s) (fun _ _ => rfl) fun s h => ⟨h, rfl, rfl⟩
  case swset => exact lands_opened true (swset v) (fun _ _ => rfl) fun s h => ⟨h, rfl, rfl⟩
  case pend =>
    refine lands_opened (decide (w < 8)) (pendClear w v) (fun _ _ => rfl) fun s h => ?_
    simp only [Bool.and_eq_true] at h
    exact ⟨h.1, h.2, rfl⟩
  case srccfg =>
    refine lands_opened (decide (n < 256)) (onIc (icSrccfg n v)) (fun _ _ => rfl) fun s h => ?_
    simp only [Bool.and_eq_true] at h
    exact ⟨h.1, h.2, rfl⟩
  case tsleep => exact lands_opened true (fun s => { s with ic := icTsleep v s.ic }) (fun _ _ => rfl) fun s h => ⟨h, rfl, rfl⟩
  case event =>
    refine happens_intro (sourceEvent n l) (fun _ _ => rfl) fun s h => ?_
    simp only [Bool.and_eq_true, Bool.not_eq_true', Bool.and_eq_false_iff, decide_eq_false_iff_not] at h
    obtain ⟨⟨hawake, hedge⟩, hrun⟩ := h
    have hgpl : ¬(9 ≤ n ∧ n ≤ 24) := by omega
    simp only [sourceEvent, State.awake_reset hawake, if_neg hgpl, Bool.false_eq_true, if_false]
    exact irq_awake hawake hrun
  case gpl =>
    refine happens_intro (sourceEvent n true) (fun _ _ => rfl) fun s h => ?_
    simp only [Bool.and_eq_true, Bool.not_eq_true', decide_eq_true_eq] at h
    obtain ⟨⟨⟨hawake, hlo⟩, hhi⟩, hlow⟩ := h
    simp only [sourceEvent, State.awake_reset hawake, State.awake_asleep hawake, if_pos (And.intro hlo hhi), hlow, Bool.false_eq_true,
      Bool.false_and, if_false, if_true]
  case timer =>
    refine happens_awake (fun s => onIc (icTimer s.now n) s) (fun _ _ => rfl) fun s h => ?_
    simp only [Bool.and_eq_true, Bool.not_eq_true'] at h
    obtain ⟨⟨⟨hawake, hpend⟩, hsvc⟩, hup⟩ := h
    exact ⟨hawake, onIc_congr (icTimer_up hpend hsvc hup)⟩

/-! The SPI target (R390, R391). -/

theorem State.spiOpen_of {s : State} (h : s.pwr.reset = false) : ¬s.spiOpen = false := by simp [State.spiOpen, h]

theorem spiLenOk_eq_false {x : SpiTx} (h : x.len = 0 ∨ 4096 < x.len) : spiLenOk x = false := by
  simp only [spiLenOk, Bool.and_eq_false_iff, decide_eq_false_iff_not]
  omega

theorem spiLenOk_of {x : SpiTx} (hlo : 1 ≤ x.len) (hhi : x.len ≤ 4096) : spiLenOk x = true := by simp [spiLenOk, hlo, hhi]

theorem spiInBuffer_within {x : SpiTx} (h : x.addr + x.len ≤ 65536) : spiInBuffer x = x.len := Nat.min_eq_left (by omega)

/-- Settles O29. -/
theorem spiCommandsComplete : Obligations.SpiCommandsComplete := by
  unfold Obligations.SpiCommandsComplete
  refine ⟨fun x => ?regWrite, fun x => ?regRead, fun x => ?bufWrite, fun x => ?bufRead, fun x s h => ?within, fun x => ?post, fun x => ?mbRead,
    fun x => ?bufBad, fun x => ?postBad⟩
  case regWrite =>
    refine lands_intro (fun s => spiRegWrite x (hostFirst (fun off => off == x.addr) s)) (fun _ _ => rfl) fun s h => ?_
    simp only [Bool.and_eq_true, Bool.not_eq_true', decide_eq_true_eq] at h
    obtain ⟨⟨⟨hrun, hlen⟩, hok⟩, halign⟩ := h
    simp only [spiRegWrite, if_neg (State.spiOpen_of hrun), hlen, hok, halign, ne_eq, not_true_eq_false, Bool.true_eq_false, or_self,
      if_false]
  case regRead =>
    refine happens_intro (spiReadTurn x) (fun _ _ => rfl) fun s h => ?_
    simp only [Bool.and_eq_true, Bool.not_eq_true', decide_eq_true_eq] at h
    obtain ⟨⟨hrun, hlen⟩, halign⟩ := h
    simp only [spiReadTurn, spiRegRead, if_neg (State.spiOpen_of hrun), hlen, halign, ne_eq, not_true_eq_false, if_false, spiAnswer]
  case bufWrite =>
    refine happens_intro (spiBufWrite x) (fun _ _ => rfl) fun s h => ?_
    simp only [Bool.and_eq_true, Bool.not_eq_true', decide_eq_true_eq] at h
    obtain ⟨⟨⟨hrun, hlo⟩, hhi⟩, hok⟩ := h
    simp only [spiBufWrite, if_neg (State.spiOpen_of hrun), spiLenOk_of hlo hhi, hok, Bool.true_eq_false, or_self, if_false]
  case bufRead =>
    refine happens_intro (spiBufRead x) (fun _ _ => rfl) fun s h => ?_
    simp only [Bool.and_eq_true, Bool.not_eq_true', decide_eq_true_eq] at h
    obtain ⟨⟨hrun, hlo⟩, hhi⟩ := h
    simp only [spiBufRead, if_neg (State.spiOpen_of hrun), spiLenOk_of hlo hhi, Bool.true_eq_false, if_false, spiAnswer]
  case within =>
    have hin := spiInBuffer_within h
    exact ⟨hin, by simp [spiBeyond, hin]⟩
  case post =>
    refine happens_intro (spiPost x) (fun _ _ => rfl) fun s h => ?_
    simp only [Bool.and_eq_true, Bool.not_eq_true', decide_eq_true_eq, Option.isNone_iff_eq_none] at h
    obtain ⟨⟨⟨⟨hrun, haddr⟩, hlen⟩, hok⟩, hfree⟩ := h
    simp only [spiPost, if_neg (State.spiOpen_of hrun), haddr, hlen, hok, hfree, ne_eq, not_true_eq_false, Bool.true_eq_false, or_self,
      if_false]
  case mbRead =>
    refine happens_intro (spiMbRead x) (fun _ _ => rfl) fun s h => ?_
    simp only [Bool.and_eq_true, Bool.not_eq_true', decide_eq_true_eq] at h
    obtain ⟨⟨hrun, haddr⟩, hlen⟩ := h
    simp only [spiMbRead, if_neg (State.spiOpen_of hrun), haddr, hlen, ne_eq, not_true_eq_false, or_self, if_false, spiAnswer]
  case bufBad =>
    refine happens_intro (spiBufWrite x) (fun _ _ => rfl) fun s h => ?_
    simp only [Bool.and_eq_true, Bool.or_eq_true, Bool.not_eq_true', decide_eq_true_eq] at h
    obtain ⟨hrun, hbad⟩ := h
    have hdiscard : spiLenOk x = false ∨ spiWriteOk 3 x = false := hbad.imp_left spiLenOk_eq_false
    simp only [spiBufWrite, if_neg (State.spiOpen_of hrun), if_pos hdiscard, spiDiscard]
  case postBad =>
    refine happens_intro (spiPost x) (fun _ _ => rfl) fun s h => ?_
    simp only [Bool.and_eq_true, Bool.or_eq_true, Bool.not_eq_true', decide_eq_true_eq, Option.isSome_iff_ne_none, or_assoc] at h
    obtain ⟨hrun, hbad⟩ := h
    simp only [spiPost, if_neg (State.spiOpen_of hrun), if_pos hbad, spiDiscard]

end Sys2Proof.Machine
end

section
/-!
The completion statements of the links, the die loads and the SENSE die (01, 07, 08).
-/
namespace Sys2Proof.Machine

/-- An event of a row that stands behind a condition of its own has the effect stated where the condition holds. -/
theorem happens_guarded {i : Nat → Instr} {P : State → Bool} {f : State → State} (p : State → Prop) [DecidablePred p] (g : State → State)
    (he : ∀ t s, exec (i t) s = .next (icSettle ((fun s : State => if p s then g s else s) (advance t s))))
    (hg : ∀ s, P s = true → p s ∧ g s = f s) : happens i P f :=
  happens_intro (fun s : State => if p s then g s else s) he fun s hp => by
    obtain ⟨hps, hgs⟩ := hg s hp
    exact (if_pos hps).trans hgs

/-! Links (01 R12 to R32). -/

theorem sendFrame_session {k lease : Nat} {down : Bool} {s : State} (h : (s.near k).session.isSome = true) :
    sendFrame k lease down s =
      s.setNear k { s.near k with seqOut := ((s.near k).seqOut + 1) % 16
                                  wire := (s.near k).wire ++ [sealOut k (outFrame k lease down s)] } := by
  have hsome : (s.near k).session.isNone = false := Option.isNone_eq_false_iff.mpr h
  simp only [sendFrame, hsome, Bool.false_eq_true, if_false]

theorem farFrame_taken {k : Nat} {dmg : Damage} {s : State} {f g : OutFrame} {rest : List OutFrame}
    (hwire : (s.near k).wire = f :: rest) (hup : dieDown k s = false) (htaken : outTaken k dmg f = some g) :
    farFrame k dmg s = farGood k g (farLapse k (s.setNear k { s.near k with wire := rest })) := by
  simp only [farFrame, hwire, hup, htaken, Bool.false_eq_true, if_false]

theorem nearFrame_taken {k : Nat} {dmg : Damage} {s : State} {f g : InFrame} {rest : List InFrame}
    (hwire : (s.far k).wire = f :: rest) (hawake : s.awake = true) (himage : s.upd.recovery = false) (hreset : s.resetNow = false)
    (htaken : inTaken k dmg f = some g) :
    nearFrame k dmg s = nearGood k g (s.setFar k { s.far k with wire := rest }) := by
  simp only [nearFrame, hwire, hawake, himage, hreset, htaken, Bool.not_true, Bool.or_self, Bool.false_eq_true, if_false]

theorem leaseExpiry_due {k e : Nat} {s : State} (hup : dieDown k s = false) (hlease : (s.far k).lease = some e)
    (hdue : e < s.now ∨ e = s.now ∧ frameWaits k s = false) : leaseExpiry k s = leaseExpires k s := by
  simp only [leaseExpiry, hlease]
  refine if_neg ?_
  rw [hup]
  rintro (h | h | ⟨h, hw⟩)
  · exact Bool.false_ne_true h
  · omega
  · obtain hlt | ⟨-, hno⟩ := hdue
    · omega
    · exact Bool.false_ne_true (hno.symm.trans hw)

/-- Settles O30. -/
theorem linkEventsComplete : Obligations.LinkEventsComplete := by
  unfold Obligations.LinkEventsComplete
  refine ⟨fun k => ?send, fun k dmg f g rest => ?taken, fun k dmg f rest => ?discarded, fun k => ?farSends,
    fun k dmg f g rest => ?nearTaken, fun k dmg f rest => ?nearDiscarded, fun k => ?farSilent, fun k => ?nearSilent, fun k e => ?lease,
    fun k => ?synth⟩
  case send =>
    refine happens_guarded (fun s => k < 3 ∧ linkRuns k s = true) (sendFrame k 0 false) (fun _ _ => rfl) fun s h => ?_
    simp only [Bool.and_eq_true, decide_eq_true_eq] at h
    exact ⟨h.1, sendFrame_session h.2⟩
  case taken =>
    refine happens_guarded (fun _ => k < 3) (fun s => farFrame k dmg (judgedFirst k s)) (fun _ _ => rfl) fun s h => ?_
    simp only [Bool.and_eq_true, decide_eq_true_eq, Bool.not_eq_true'] at h
    obtain ⟨⟨⟨hk, hwire⟩, htaken⟩, hup⟩ := h
    exact ⟨hk, farFrame_taken hwire hup htaken⟩
  case discarded =>
    refine happens_guarded (fun _ => k < 3) (fun s => farFrame k dmg (judgedFirst k s)) (fun _ _ => rfl) fun s h => ?_
    simp only [Bool.and_eq_true, decide_eq_true_eq, Bool.not_eq_true'] at h
    obtain ⟨⟨⟨hk, hwire⟩, htaken⟩, hup⟩ := h
    exact ⟨hk, farFrame_discarded hwire hup htaken⟩
  case farSends =>
    refine happens_guarded (fun _ => k < 3) (farSend k) (fun _ _ => rfl) fun s h => ?_
    simp only [Bool.and_eq_true, decide_eq_true_eq, Bool.not_eq_true'] at h
    exact ⟨h.1, if_neg (Bool.eq_false_iff.mp h.2)⟩
  case nearTaken =>
    refine happens_guarded (fun _ => k < 3) (nearFrame k dmg) (fun _ _ => rfl) fun s h => ?_
    simp only [Bool.and_eq_true, decide_eq_true_eq, Bool.not_eq_true'] at h
    obtain ⟨⟨⟨⟨⟨hk, hwire⟩, htaken⟩, hawake⟩, himage⟩, hreset⟩ := h
    exact ⟨hk, nearFrame_taken hwire hawake himage hreset htaken⟩
  case nearDiscarded =>
    refine happens_guarded (fun _ => k < 3) (nearFrame k dmg) (fun _ _ => rfl) fun s h => ?_
    simp only [Bool.and_eq_true, decide_eq_true_eq, Bool.not_eq_true'] at h
    obtain ⟨⟨⟨⟨⟨hk, hwire⟩, htaken⟩, hawake⟩, himage⟩, hreset⟩ := h
    exact ⟨hk, nearFrame_discarded hwire hawake himage hreset htaken⟩
  case farSilent =>
    refine happens_guarded (fun _ => k < 3) (farSilence k) (fun _ _ => rfl) fun s h => ?_
    simp only [Bool.and_eq_true, decide_eq_true_eq, Bool.not_eq_true'] at h
    obtain ⟨⟨⟨hk, hup⟩, htimer⟩, hwaits⟩ := h
    refine ⟨hk, ?_⟩
    simp only [farSilence, hup, htimer, hwaits, Bool.not_true, Bool.or_self, Bool.false_eq_true, if_false, silenceExpires]
  case nearSilent =>
    refine happens_guarded (fun _ => k < 3) (nearSilence k) (fun _ _ => rfl) fun s h => ?_
    simp only [Bool.and_eq_true, decide_eq_true_eq, Bool.not_eq_true'] at h
    obtain ⟨⟨⟨hk, hawake⟩, hruns⟩, htimer⟩ := h
    refine ⟨hk, ?_⟩
    simp only [nearSilence, hawake, hruns, htimer, Bool.not_true, Bool.or_self, Bool.false_eq_true, if_false, nearExpires]
  case lease =>
    refine happens_guarded (fun _ => k < 3) (leaseExpiry k) (fun _ _ => rfl) fun s h => ?_
    simp only [Bool.and_eq_true, Bool.or_eq_true, decide_eq_true_eq, Bool.not_eq_true'] at h
    obtain ⟨⟨⟨hk, hup⟩, hlease⟩, hdue⟩ := h
    exact ⟨hk, leaseExpiry_due hup hlease hdue⟩
  case synth =>
    refine happens_guarded (fun _ => k < 3) (synthLost k) (fun _ _ => rfl) fun s h => ?_
    simp only [Bool.and_eq_true, decide_eq_true_eq] at h
    obtain ⟨⟨⟨hk, hawake⟩, hlost⟩, hbefore⟩ := h
    exact ⟨hk, if_pos ⟨hawake, hlost, hbefore⟩⟩

/-! Loads of the far dies. -/

theorem configLoad_same {k : Nat} {w : Window} {s : State} (hw : (s.far k).window = some w) (hstore : s.store.datum = some w.datum)
    (hseq : s.upd.seqRun.getD k false = true) : configLoad k s = healthCheck (loadDie k w s) := by
  simp only [configLoad, hw, hstore, hseq, BEq.rfl, Bool.and_self, if_true]

/-- Settles O31. -/
theorem dieLoadsComplete : Obligations.DieLoadsComplete := by
  unfold Obligations.DieLoadsComplete
  refine ⟨fun k w => ?config, fun k => ?sequencer, fun k => ?failed, fun k => ?retry, ?power⟩
  case config =>
    refine happens_guarded (fun s => canLoad k s = true) (configLoad k) (fun _ _ => rfl) fun s h => ?_
    simp only [Bool.and_eq_true, decide_eq_true_eq] at h
    obtain ⟨⟨⟨hcan, hw⟩, hstore⟩, hseq⟩ := h
    exact ⟨hcan, configLoad_same hw hstore hseq⟩
  case sequencer =>
    refine happens_guarded (fun s => canLoad k s = true ∧ s.upd.seqRun.getD k false = false) (seqLoad k true) (fun _ _ => rfl) fun s h => ?_
    simp only [Bool.and_eq_true, Bool.not_eq_true'] at h
    exact ⟨h, rfl⟩
  case failed =>
    refine happens_guarded (fun s => canLoad k s = true ∧ s.upd.seqRun.getD k false = false) (seqLoad k false) (fun _ _ => rfl) fun s h => ?_
    simp only [Bool.and_eq_true, Bool.not_eq_true'] at h
    exact ⟨h, rfl⟩
  case retry =>
    refine happens_guarded (fun s => canLoad k s = true ∧ retryDue k s = true) (seqLoad k true) (fun _ _ => rfl) fun s h => ?_
    simp only [Bool.and_eq_true] at h
    exact ⟨h, rfl⟩
  case power =>
    refine happens_intro sensePowerUp (fun _ _ => rfl) fun s h => ?_
    simp only [Bool.and_eq_true, Bool.not_eq_true'] at h
    obtain ⟨hoff, hgate⟩ := h
    simp only [sensePowerUp, hoff, hgate, Bool.not_true, Bool.or_self, Bool.false_eq_true, if_false]

/-! The SENSE die (07, 08). -/

theorem onSense_congr {f : SenseSt → SenseSt} {d : SenseSt} {s : State} (h : f s.sense = d) : onSense f s = { s with sense := d } := by
  rw [onSense, h]

theorem periodicDue_taken {now loc i : Nat} {r : Bytes} {d : SenseSt} (hpower : d.powered = true) (hcfg : d.cfgValid = true)
    (hr : d.cfg.seqRec i = some r) (htrig : sqTrig r = 2) (hperiod : sqPeriod r ≠ 0) (hphase : loc % sqPeriod r = sqPhase r)
    (hnew : (d.seq i).lastDue ≠ some loc) (hidle : (d.seq i).due = false) (hruns : ((d.pass (sqList r)).any fun p => p.seq == i) = false) :
    periodicDue now loc i d = takePass now (sqList r) (d.setSeq { d.seq i with due := true, lastDue := some loc }) := by
  have hskip : (!d.powered || !d.cfgValid || sqTrig r != 2 || sqPeriod r == 0 || loc % sqPeriod r != sqPhase r ||
      (d.seq i).lastDue == some loc) = false := by
    simp [hpower, hcfg, htrig, hperiod, hphase, hnew]
  simp only [periodicDue, hr, hskip, hruns, hidle, Bool.or_self, Bool.false_eq_true, if_false]

theorem modulationStart_settled {now l : Nat} {p : Pass} {r : Bytes} {d : SenseSt} (hp : d.pass l = some p)
    (hr : d.cfg.chanRec (d.entryAt p.seq p.pos) = some r) (hruns : p.waiting = false) (hfirst : p.modAt.isNone = true)
    (hdue : p.entAt + usTicks (max (chSettle r) 2) ≤ now) :
    modulationStart now l d = d.setPass l (some { p with modAt := some now, convAt := now }) := by
  have hstay : (p.waiting || p.modAt.isSome || decide (now < p.entAt + usTicks (max (chSettle r) 2))) = false := by
    simp only [hruns, Option.isNone_iff_eq_none.mp hfirst, Option.isSome_none, Bool.or_self, Bool.false_or, decide_eq_false_iff_not]
    omega
  simp only [modulationStart, hp, hr, hstay, Bool.false_eq_true, if_false]

theorem clampI_within {lo hi v : Int} (hlo : lo ≤ v) (hhi : v ≤ hi) : clampI lo hi v = v := by
  rw [clampI, if_neg (by omega), if_neg (by omega)]

theorem refNv_ne_zero {n sref : Nat} (h : sref ≠ 0) : refNv n sref ≠ 0 := by
  simp only [refNv]
  split <;> omega

theorem rawCode_ref {nv : Int} {n sref g : Nat} {o : Int} (h : sref ≠ 0) :
    rawCode nv n sref g o = divr (nv * 2 ^ (23 + g)) (refNv n sref) := if_neg (refNv_ne_zero h)

/-- A result that the record's own limits allow: no pin faulted or open, the filter settled, the code within 24 bits. -/
theorem conversionEnd_plain {now l sref m : Nat} {nv o : Int} {p : Pass} {r : Bytes} {e : EntSt} {d : SenseSt} (hl : l < 4)
    (hconv : converting d l = some (p, r, m)) (hdue : convDue r m (p.k + 1) ≤ now) (hsref : sref ≠ 0)
    (he : d.ent (chEntry r) = some e) (hpins : ((entryPins r).any d.faulted) = false) (hopen : p.openPins = []) (hset : p.settling = 0)
    (hlo : -0x800000 ≤ divr (nv * 2 ^ (23 + e.gain)) (refNv (chRef r) sref))
    (hhi : divr (nv * 2 ^ (23 + e.gain)) (refNv (chRef r) sref) ≤ 0x7FFFFF) :
    conversionEnd now l nv sref false o d =
      bookResult now l p r
        { list := l, seq := p.seq, pos := p.pos, entry := chEntry r, endAt := now, gain := e.gain, delayed := p.delayed
          autoranged := (match e.prev with | some g => g != e.gain | none => false)
          code := 0, raw := divr (nv * 2 ^ (23 + e.gain)) (refNv (chRef r) sref), r := 0, rows := [], empty := false, gain0 := e.gain }
        [] d := by
  have hgo : ¬(l = 4 ∨ now < convDue r m (p.k + 1)) := by omega
  simp only [conversionEnd, hconv, if_neg hgo, he, Option.getD_some, rawCode_ref hsref, clampI_within hlo hhi, hpins, hopen, hset,
    bne_self_eq_false, Bool.or_self, Bool.false_eq_true, Nat.lt_irrefl, if_false] <;> rfl

theorem resultRelease_due {now : Nat} {x : PendRes} {rest : List PendRes} {r : Bytes} {e : EntSt} {d : SenseSt} (hpend : d.pend = x :: rest)
    (hdue : 20 * 16777216 ≤ (now - x.endAt) * 1000000) (hr : d.cfg.chanRec x.entry = some r) (he : d.ent x.entry = some e) :
    resultRelease now d =
      (let d0 := { d with pend := rest }
       let cv := linearise now d0 r x
       let d1 := d0.setEnt { e with latest := some { code := cv.1, value := cv.2, endAt := x.endAt, relAt := now }, before := e.latest }
       let cs := contours d1.cfg x.entry cv.1 cv.2 d1.csws
       ({ d1 with csws := cs.1 }, (cs.2.map fun c => RecBody.crossing c.1 c.2) ++ [.result x.entry (statusOf r x cv.1) cv.2])) := by
  have he' : ({ d with pend := rest } : SenseSt).ent x.entry = some e := he
  simp only [resultRelease, hpend, if_neg (Nat.not_lt.mpr hdue), hr, he']

theorem openWireRun_converting {now l vsa m : Nat} {runs : List (Nat × List Nat)} {p : Pass} {r : Bytes} {d : SenseSt} (hpend : d.pend = [])
    (hconv : converting d l = some (p, r, m)) :
    openWireRun now l vsa runs d =
      d.setPass l (some { p with openPins := p.openPins ++ (trippedPins r vsa runs).filter fun q => !p.openPins.contains q }) := by
  simp only [openWireRun, hpend, List.find?_nil, hconv]

theorem impCheckStart_free {now : Nat} {c : ChkReq} {d : SenseSt} (hpower : d.powered = true) (hcfg : d.cfgValid = true)
    (hc : nextChk d = some c) (hidle : d.chk.isNone = true)
    (hturn : (d.turn || (match d.pass 4 with | none => true | some p => p.waiting)) = true)
    (hpin : pinInUse d (askedAt d c now) c.pin = false) (hpartner : pinInUse d (askedAt d c now) c.partner = false) :
    impCheckStart now d = { d with chk := some (c, now), ask := none, turn := false, chkQ := d.chkQ.filter fun q => q != c } := by
  have hnone : d.chk.isSome = false := by rw [Option.isNone_iff_eq_none.mp hidle]; rfl
  have hgo : (!d.powered || !d.cfgValid || d.chk.isSome || !(d.turn || (match d.pass 4 with | none => true | some p => p.waiting))) = false := by
    rw [hpower, hcfg, hnone, hturn]; rfl
  have huse : (pinInUse d (askedAt d c now) c.pin || pinInUse d (askedAt d c now) c.partner) = false := by rw [hpin, hpartner]; rfl
  simp only [impCheckStart, hc]
  exact (if_neg (Bool.eq_false_iff.mp hgo)).trans (if_neg (Bool.eq_false_iff.mp huse))

theorem pinRecheck_due {now pin t : Nat} {p : PinSt} {d : SenseSt} (hp : (d.pins.find? fun q => q.pin == pin) = some p)
    (ht : p.recheck = some t) (hdue : t ≤ now) :
    pinRecheck now pin d =
      (let d1 := { d with pins := d.pins.map fun q => if q.pin = pin then { q with recheck := none } else q }
       let ent := (d1.cfg.recs tyChan).find? fun r => (entryPins r).contains pin
       queueChk (chkFor d1 pin (partnerFor d1 (ent.getD []) pin) 1) d1) := by
  simp only [pinRecheck, hp, ht, if_neg (Nat.not_lt.mpr hdue)]

/-- Settles O32. -/
theorem senseDieEventsComplete : Obligations.SenseDieEventsComplete := by
  unfold Obligations.SenseDieEventsComplete
  refine ⟨fun i r => ?periodic, fun l p r => ?modulation, fun l nv sref p r m e => ?conversion, fun z => ?tone, fun x rest r e => ?release,
    fun l vsa runs p r m => ?openWire, fun c => ?checkStart, fun lp gr c t0 => ?checkEnd, ?round, fun pin p d => ?recheck⟩
  case periodic =>
    refine happens_intro (fun s => onSense (periodicDue s.now (dieShort (s.far 0) s.now) i) s) (fun _ _ => rfl) fun s h => ?_
    simp only [Bool.and_eq_true, decide_eq_true_eq, Bool.not_eq_true'] at h
    obtain ⟨⟨⟨⟨⟨⟨⟨⟨hpower, hcfg⟩, hr⟩, htrig⟩, hperiod⟩, hphase⟩, hnew⟩, hidle⟩, hruns⟩ := h
    exact onSense_congr (periodicDue_taken hpower hcfg hr htrig hperiod hphase hnew hidle hruns)
  case modulation =>
    refine happens_intro (fun s => onSense (modulationStart s.now l) s) (fun _ _ => rfl) fun s h => ?_
    simp only [Bool.and_eq_true, decide_eq_true_eq, Bool.not_eq_true'] at h
    obtain ⟨⟨⟨⟨hp, hr⟩, hruns⟩, hfirst⟩, hdue⟩ := h
    exact onSense_congr (modulationStart_settled hp hr hruns hfirst hdue)
  case conversion =>
    refine happens_intro (conversionEnds l nv sref false) (fun _ _ => rfl) fun s h => ?_
    simp only [Bool.and_eq_true, decide_eq_true_eq, Bool.not_eq_true'] at h
    obtain ⟨⟨⟨⟨⟨⟨⟨⟨⟨hl, hconv⟩, hdue⟩, hsref⟩, he⟩, hpins⟩, hopen⟩, hset⟩, hlo⟩, hhi⟩ := h
    refine (if_neg hsref).trans ?_
    exact onSense_congr (conversionEnd_plain hl hconv hdue hsref he hpins hopen hset hlo hhi)
  case tone => exact happens_intro (fun s => onSense (toneConversionEnd s.now z) s) (fun _ _ => rfl) fun _ _ => rfl
  case release =>
    refine happens_intro senseRelease (fun _ _ => rfl) fun s h => ?_
    simp only [Bool.and_eq_true, decide_eq_true_eq] at h
    obtain ⟨⟨⟨hpend, hdue⟩, hr⟩, he⟩ := h
    simp only [senseRelease, resultRelease_due hpend hdue hr he, releaseStamp, hpend]
  case openWire =>
    refine happens_intro (fun s => onSense (openWireRun s.now l vsa runs) s) (fun _ _ => rfl) fun s h => ?_
    simp only [Bool.and_eq_true, decide_eq_true_eq] at h
    exact onSense_congr (openWireRun_converting h.1 h.2)
  case checkStart =>
    refine happens_intro (fun s => onSense (impCheckStart s.now) s) (fun _ _ => rfl) fun s h => ?_
    simp only [Bool.and_eq_true, decide_eq_true_eq, Bool.not_eq_true'] at h
    obtain ⟨⟨⟨⟨⟨⟨hpower, hcfg⟩, hc⟩, hidle⟩, hturn⟩, hpin⟩, hpartner⟩ := h
    exact onSense_congr (impCheckStart_free hpower hcfg hc hidle hturn hpin hpartner)
  case checkEnd => exact happens_intro (fun s => putSense (impCheckEnd s.now lp gr s.sense) s) (fun _ _ => rfl) fun _ _ => rfl
  case round =>
    refine happens_intro (fun s => onSense (checkRound s.now) s) (fun _ _ => rfl) fun s h => ?_
    simp only [Bool.and_eq_true, decide_eq_true_eq] at h
    obtain ⟨⟨hpower, hcfg⟩, hdue⟩ := h
    refine onSense_congr ?_
    simp only [checkRound, hpower, hcfg, Bool.not_true, Bool.or_self, Bool.false_or, decide_eq_true_eq, if_neg (Nat.not_lt.mpr hdue)]
  case recheck =>
    refine happens_intro (fun s => onSense (pinRecheck s.now pin) s) (fun _ _ => rfl) fun s h => ?_
    simp only [Bool.and_eq_true, decide_eq_true_eq] at h
    obtain ⟨⟨hp, ht⟩, hdue⟩ := h
    exact onSense_congr (pinRecheck_due hp ht hdue)

end Sys2Proof.Machine
end

section
/-!
The completion statements of the POWER die: valves and fans (09, 10).
-/
namespace Sys2Proof.Machine

theorem onPower_congr {f g : PowerSt → PowerSt} {s : State} (h : f s.power = g s.power) : onPower f s = onPower g s := by
  rw [onPower, onPower, h]

theorem atPower_up {g : State → PowerSt → PowerSt} {h : PowerSt → PowerSt} {s : State} (hup : dieDown 1 s = false)
    (hg : g s s.power = h s.power) : atPower g s = onPower h s :=
  (if_neg (Bool.eq_false_iff.mp hup)).trans (onPower_congr hg)

/-- An event of the POWER die has the effect stated where its own work `g` has it on the die that is up. -/
theorem happens_power {i : Nat → Instr} {P : State → Bool} {h : State → PowerSt → PowerSt} (g : State → PowerSt → PowerSt)
    (he : ∀ t s, exec (i t) s = .next (icSettle (atPower g (advance t s))))
    (hg : ∀ s, P s = true → dieDown 1 s = false ∧ g s s.power = h s s.power) : happens i P (fun s => onPower (h s) s) :=
  happens_intro (atPower g) he fun s hp => atPower_up (hg s hp).1 (hg s hp).2

/-! Valve phases (R272 to R279). -/

theorem valvePeakTimeout_due {now ch : Nat} {v : ValveSt} {p : PowerSt} (hv : stateIs p ch 2 = some v)
    (hdue : v.riseAt + usTicks (100 * vaTPeakMax (p.vrec ch)) ≤ now) :
    valvePeakTimeout now ch p = toState now { v with state := 6, fault := 0x05 } { p with noPeak := sat 65535 (p.noPeak + 1) } := by
  simp only [valvePeakTimeout, hv, if_neg (Nat.not_lt.mpr hdue)]

theorem valveDeferTimeout_due {now ch : Nat} {v : ValveSt} {p : PowerSt} (hv : stateIs p ch 1 = some v)
    (hdue : v.waitAt + usTicks (100 * vaDefer (p.vrec ch)) ≤ now) : valveDeferTimeout now ch p = overlapDenied v p := by
  simp only [valveDeferTimeout, hv, if_neg (Nat.not_lt.mpr hdue)]

/-- Settles O33. -/
theorem valvePhasesComplete : Obligations.ValvePhasesComplete := by
  unfold Obligations.ValvePhasesComplete
  refine ⟨fun ch code v => ?peak, fun ch v => ?dwell, fun ch code v => ?hold, fun ch top v => ?decayOn, fun ch top v => ?decayOff,
    fun ch top v => ?decayFault, fun ch v => ?peakTimeout, fun ch v => ?deferTimeout⟩
  case peak =>
    refine happens_power (fun s => valvePeak s.now ch code) (fun _ _ => rfl) fun s h => ?_
    simp only [Bool.and_eq_true, decide_eq_true_eq, Bool.not_eq_true'] at h
    obtain ⟨⟨hup, hv⟩, hcode⟩ := h
    exact ⟨hup, by simp only [valvePeak, hv, hcode, Bool.not_true, Bool.false_eq_true, if_false]⟩
  case dwell =>
    refine happens_power (fun s => valveDwellEnd s.now ch) (fun _ _ => rfl) fun s h => ?_
    simp only [Bool.and_eq_true, decide_eq_true_eq, Bool.not_eq_true'] at h
    obtain ⟨⟨hup, hv⟩, hdue⟩ := h
    exact ⟨hup, by simp only [valveDwellEnd, hv, if_neg (Nat.not_lt.mpr hdue)]⟩
  case hold =>
    refine happens_power (fun s => valveHold s.now ch code) (fun _ _ => rfl) fun s h => ?_
    simp only [Bool.and_eq_true, decide_eq_true_eq, Bool.not_eq_true'] at h
    obtain ⟨⟨hup, hv⟩, hcode⟩ := h
    exact ⟨hup, by simp only [valveHold, hv, hcode, Bool.not_true, Bool.false_eq_true, if_false]⟩
  case decayOn =>
    refine happens_power (fun s => valveDecayEnd s.now ch top) (fun _ _ => rfl) fun s h => ?_
    simp only [Bool.and_eq_true, decide_eq_true_eq, Bool.not_eq_true'] at h
    obtain ⟨⟨⟨⟨hup, hv⟩, htop⟩, hfault⟩, hpend⟩ := h
    exact ⟨hup, by simp only [valveDecayEnd, hv, if_neg (Nat.not_le.mpr htop), hfault, hpend, Bool.false_eq_true, if_false, if_true]⟩
  case decayOff =>
    refine happens_power (fun s => valveDecayEnd s.now ch top) (fun _ _ => rfl) fun s h => ?_
    simp only [Bool.and_eq_true, decide_eq_true_eq, Bool.not_eq_true'] at h
    obtain ⟨⟨⟨⟨hup, hv⟩, htop⟩, hfault⟩, hpend⟩ := h
    exact ⟨hup, by simp only [valveDecayEnd, hv, if_neg (Nat.not_le.mpr htop), hfault, hpend, Bool.false_eq_true, if_false]⟩
  case decayFault =>
    refine happens_power (fun s => valveDecayEnd s.now ch top) (fun _ _ => rfl) fun s h => ?_
    simp only [Bool.and_eq_true, decide_eq_true_eq, Bool.not_eq_true'] at h
    obtain ⟨⟨⟨hup, hv⟩, htop⟩, hfault⟩ := h
    exact ⟨hup, by simp only [valveDecayEnd, hv, if_neg (Nat.not_le.mpr htop), hfault, if_true]⟩
  case peakTimeout =>
    refine happens_intro (peakTimeout ch) (fun _ _ => rfl) fun s h => ?_
    simp only [Bool.and_eq_true, decide_eq_true_eq, Bool.not_eq_true'] at h
    obtain ⟨⟨⟨hup, hwins⟩, hv⟩, hdue⟩ := h
    exact (if_neg (Bool.eq_false_iff.mp hwins)).trans (atPower_up hup (valvePeakTimeout_due hv hdue))
  case deferTimeout =>
    refine happens_intro (deferTimeout ch) (fun _ _ => rfl) fun s h => ?_
    simp only [Bool.and_eq_true, decide_eq_true_eq, Bool.not_eq_true'] at h
    obtain ⟨⟨⟨hup, hwins⟩, hv⟩, hdue⟩ := h
    exact (if_neg (Bool.eq_false_iff.mp hwins)).trans (atPower_up hup (valveDeferTimeout_due hv hdue))

/-! Valve diagnostics (R280 to R292). -/

theorem resistanceMeasure_long {now ch sumV sumI meanI : Nat} {v : ValveSt} {p : PowerSt} (hv : stateIs p ch 5 = some v)
    (hdue : v.holdAt + usTicks 10000 ≤ now) (hmean : 256 ≤ meanI) (hsum : sumI ≠ 0) :
    resistanceMeasure now ch sumV sumI meanI p =
      (let r := p.vrec ch
       let tm : Rat := 20 + ((sumV : Rat) * (vaShunt r : Rat) / (25 * (sumI : Rat)) / (vaR20 r : Rat) - 1) / (393 / 100000)
       p.setValve { v with holdAt := now, rm := (sumV * vaShunt r / (25 * sumI)) % 0x100000000
                           tw := v.tw + (vaCorr r : Rat) * (tm - v.tw) / 65536 }) := by
  have hlong : ¬(meanI < 256 ∨ sumI = 0) := by omega
  simp only [resistanceMeasure, hv, if_neg (Nat.not_lt.mpr hdue), if_neg hlong]

/-- With the high side off, 6 V and over at the drain is a short to the supply. -/
theorem offStateTest_short {now ch vd vb : Nat} {v : ValveSt} {p : PowerSt} (hv : p.valve ch = some v) (hst : v.state = 0)
    (hoff : bankHigh p (bankOf ch) = 0) (hvd : 6000 ≤ vd) :
    offStateTest now ch vd vb p = toState now { v with state := 7, fault := 0x03 } p := by
  simp only [offStateTest, hv, hoff, hst, BEq.rfl, Bool.true_or, Bool.not_true, Bool.false_eq_true, if_true, if_false, if_pos hvd, true_or]

/-- From 4 V to 6 V it is an open load. -/
theorem offStateTest_open {now ch vd vb : Nat} {v : ValveSt} {p : PowerSt} (hv : p.valve ch = some v) (hst : v.state = 0)
    (hoff : bankHigh p (bankOf ch) = 0) (hlo : 4000 ≤ vd) (hhi : vd < 6000) :
    offStateTest now ch vd vb p = p.setValve { v with fault := 0x01 } := by
  have hverdict : ¬((1 : Nat) = 3 ∨ (1 : Nat) = 2) := by omega
  simp only [offStateTest, hv, hoff, hst, BEq.rfl, Bool.true_or, Bool.not_true, Bool.false_eq_true, if_true, if_false,
    if_neg (Nat.not_le.mpr hhi), if_pos hlo, if_neg hverdict]

theorem onStateCode_short {r : Bytes} {v1 v2 : Nat} (i0 i1 i2 : Nat) (h1 : 3000 < v1) (h2 : 3000 < v2) :
    onStateCode r v1 v2 i0 i1 i2 = 0x03 := if_pos (.inl ⟨h1, h2⟩)

theorem onStateCode_over {r : Bytes} {v2 i0 i1 i2 : Nat} (v1 : Nat) (h2 : v2 ≤ 3000) (hfall : i2 ≤ i0)
    (hi1 : codeReaches r i1 (vaOcLimit r) = true) (hi2 : codeReaches r i2 (vaOcLimit r) = true) : onStateCode r v1 v2 i0 i1 i2 = 0x04 := by
  have hno : ¬((3000 < v1 ∧ 3000 < v2) ∨ (i0 < i2 ∧ vaOcLimit r * vaShunt r < (i2 - i0) * 100000)) := by
    rintro (⟨-, h⟩ | ⟨h, -⟩) <;> omega
  simp only [onStateCode, if_neg hno, hi1, hi2, Bool.and_self, if_true]

theorem onStateFault_found {now ch us v1 v2 i0 i1 i2 code : Nat} {v : ValveSt} {p : PowerSt} (hv : p.valve ch = some v) (hus : 4 ≤ us)
    (hst : v.state = 2 ∨ v.state = 3 ∨ v.state = 5) (hcode : onStateCode (p.vrec ch) v1 v2 i0 i1 i2 = code) (hne : code ≠ 0) :
    onStateFault now ch us v1 v2 i0 i1 i2 p = toState now { v with state := 7, fault := code } p := by
  simp only [onStateFault, hv, hcode]
  exact if_pos ⟨hus, hne, hst⟩

theorem openTest_open {now ch iDet vd : Nat} {v : ValveSt} {p : PowerSt} (hv : stateIs p ch 2 = some v)
    (hdue : v.riseAt + usTicks (100 * vaTDet (p.vrec ch)) ≤ now) (hno : codeReaches (p.vrec ch) iDet (vaIDet (p.vrec ch)) = false)
    (hvd : 4000 ≤ vd) : openTest now ch iDet vd p = toState now { v with state := 6, fault := 0x01 } p := by
  simp only [openTest, hv, hno, Bool.false_eq_true, or_false, if_neg (Nat.not_lt.mpr hdue), if_pos (Or.inl hvd)]

/-- A movement without a kink reports 0 and the warning. -/
theorem valveMovement_none {ch : Nat} {bins : List Int} {v : ValveSt} {s : State} (hup : dieDown 1 s = false) (hv : s.power.valve ch = some v)
    (hmove : v.moveDue = true) (hkink : kinkAt (vaMoveMin (s.power.vrec ch)) bins = none) (hst : v.state ≠ 3) :
    valveMovement ch bins s =
      onValve ch (lifeMove 0) (pushRec 1 s.now (.sample (vaMoveSrc (s.power.vrec ch)) 0 0)
        (onPower (fun p => p.setValve { v with moveDue := false, warns := flagTo 2 true v.warns }) s)) := by
  have hrep : movement s.now ch bins s.power =
      (s.power.setValve { v with moveDue := false, warns := flagTo 2 true v.warns },
        some (.sample (vaMoveSrc (s.power.vrec ch)) 0 0, s.now)) := by
    simp only [movement, hv, hmove, hkink, Bool.not_true, Bool.false_eq_true, if_false, if_neg hst]
  simp only [valveMovement, hup, hrep, Bool.false_eq_true, if_false]
  rfl

/-- Settles O34. -/
theorem valveDiagnosticsComplete : Obligations.ValveDiagnosticsComplete := by
  unfold Obligations.ValveDiagnosticsComplete
  refine ⟨fun i2 dt => ?thermal, fun ch sv si mi v => ?resistance, fun ch vd vb v => ?offShort, fun ch vd vb v => ?offOpen,
    fun ch us v1 v2 i0 i1 i2 v => ?onShort, fun ch us v1 v2 i0 i1 i2 v => ?onOver, fun ch i vd v => ?openLoad, fun k us top sup => ?bankShort,
    fun k least => ?bankStuck, fun ch bins v => ?movement, fun vf => ?clamp⟩
  case thermal =>
    refine happens_power (fun s => thermalTick s.now (s.dieNow 1) s.fanEnv.linkUp i2 dt) (fun _ _ => rfl) fun s h => ?_
    simp only [Bool.and_eq_true, decide_eq_true_eq, Bool.not_eq_true'] at h
    exact ⟨h.1, if_neg (Nat.not_lt.mpr h.2)⟩
  case resistance =>
    refine happens_power (fun s => resistanceMeasure s.now ch sv si mi) (fun _ _ => rfl) fun s h => ?_
    simp only [Bool.and_eq_true, decide_eq_true_eq, Bool.not_eq_true'] at h
    obtain ⟨⟨⟨⟨hup, hv⟩, hdue⟩, hmean⟩, hsum⟩ := h
    exact ⟨hup, resistanceMeasure_long hv hdue hmean hsum⟩
  case offShort =>
    refine happens_power (fun s => offStateTest s.now ch vd vb) (fun _ _ => rfl) fun s h => ?_
    simp only [Bool.and_eq_true, decide_eq_true_eq, Bool.not_eq_true'] at h
    obtain ⟨⟨⟨⟨hup, hv⟩, hst⟩, hoff⟩, hvd⟩ := h
    exact ⟨hup, offStateTest_short hv hst hoff hvd⟩
  case offOpen =>
    refine happens_power (fun s => offStateTest s.now ch vd vb) (fun _ _ => rfl) fun s h => ?_
    simp only [Bool.and_eq_true, decide_eq_true_eq, Bool.not_eq_true'] at h
    obtain ⟨⟨⟨⟨⟨hup, hv⟩, hst⟩, hoff⟩, hlo⟩, hhi⟩ := h
    exact ⟨hup, offStateTest_open hv hst hoff hlo hhi⟩
  case onShort =>
    refine happens_power (fun s => onStateFault s.now ch us v1 v2 i0 i1 i2) (fun _ _ => rfl) fun s h => ?_
    simp only [Bool.and_eq_true, Bool.or_eq_true, decide_eq_true_eq, Bool.not_eq_true', or_assoc] at h
    obtain ⟨⟨⟨⟨⟨hup, hv⟩, hst⟩, hus⟩, h1⟩, h2⟩ := h
    exact ⟨hup, onStateFault_found hv hus hst (onStateCode_short i0 i1 i2 h1 h2) (by decide)⟩
  case onOver =>
    refine happens_power (fun s => onStateFault s.now ch us v1 v2 i0 i1 i2) (fun _ _ => rfl) fun s h => ?_
    simp only [Bool.and_eq_true, Bool.or_eq_true, decide_eq_true_eq, Bool.not_eq_true', or_assoc] at h
    obtain ⟨⟨⟨⟨⟨⟨⟨hup, hv⟩, hst⟩, hus⟩, h2⟩, hfall⟩, hi1⟩, hi2⟩ := h
    exact ⟨hup, onStateFault_found hv hus hst (onStateCode_over v1 h2 hfall hi1 hi2) (by decide)⟩
  case openLoad =>
    refine happens_power (fun s => openTest s.now ch i vd) (fun _ _ => rfl) fun s h => ?_
    simp only [Bool.and_eq_true, decide_eq_true_eq, Bool.not_eq_true'] at h
    obtain ⟨⟨⟨⟨hup, hv⟩, hdue⟩, hno⟩, hvd⟩ := h
    exact ⟨hup, openTest_open hv hdue hno hvd⟩
  case bankShort =>
    refine happens_power (fun _ => bankShort k us top sup) (fun _ _ => rfl) fun s h => ?_
    simp only [Bool.and_eq_true, decide_eq_true_eq, Bool.not_eq_true'] at h
    obtain ⟨⟨⟨⟨hup, hhigh⟩, hk⟩, hus⟩, htop⟩ := h
    exact ⟨hup, if_pos ⟨hhigh, hk, hus, htop⟩⟩
  case bankStuck =>
    refine happens_power (fun _ => bankStuck k least) (fun _ _ => rfl) fun s h => ?_
    simp only [Bool.and_eq_true, decide_eq_true_eq, Bool.not_eq_true'] at h
    obtain ⟨⟨⟨hup, hhigh⟩, hk⟩, hleast⟩ := h
    exact ⟨hup, if_pos ⟨hhigh, hk, hleast⟩⟩
  case movement =>
    refine happens_intro (valveMovement ch bins) (fun _ _ => rfl) fun s h => ?_
    simp only [Bool.and_eq_true, decide_eq_true_eq, Bool.not_eq_true'] at h
    obtain ⟨⟨⟨⟨hup, hv⟩, hmove⟩, hkink⟩, hst⟩ := h
    exact valveMovement_none hup hv hmove hkink hst
  case clamp => exact happens_power (fun _ => clampLow vf) (fun _ _ => rfl) fun s h => ⟨(Bool.not_eq_true' _).mp h, rfl⟩

end Sys2Proof.Machine
end

section
/-!
The completion statements of the fans, the universal channels and the field supplies (09 to 11).
-/
namespace Sys2Proof.Machine

/-! Fans (R297 to R313). -/

theorem atFan_found {ch : Nat} {f : State → FanEnv → PowerSt → FanSt → FanSt} {h : PowerSt → FanSt} {v : FanSt} {s : State}
    (hup : dieDown 1 s = false) (hv : s.power.fan ch = some v) (hf : f s s.fanEnv s.power v = h s.power) :
    atFan ch f s = onPower (fun p => p.setFan (h p)) s :=
  atPower_up hup (by simp only [hv, hf])

/-- An event of a fan channel whose record is loaded has the effect stated where its own work `f` has it. -/
theorem happens_fan {i : Nat → Instr} {P : State → Bool} {ch : Nat} {v : FanSt} {h : State → PowerSt → FanSt}
    (f : State → FanEnv → PowerSt → FanSt → FanSt) (he : ∀ t s, exec (i t) s = .next (icSettle (atFan ch f (advance t s))))
    (hf : ∀ s, P s = true → dieDown 1 s = false ∧ s.power.fan ch = some v ∧ f s s.fanEnv s.power v = h s s.power) :
    happens i P (fun s => onPower (fun p => p.setFan (h s p)) s) :=
  happens_intro (atFan ch f) he fun s hp => by
    obtain ⟨hup, hv, hfs⟩ := hf s hp
    exact atFan_found hup hv hfs

theorem windowEnd_start {ch i : Nat} {g : FanSt} {s : State} (hg : (fanFirst ch s).power.fan ch = some g) (hst : g.state = 1) :
    windowEnd ch i s =
      atFan ch (fun _ _ p v => startWindowEnd (fanFirst ch s).fanEnv (fanFirst ch s).power.supplyOff ((fanFirst ch s).power.fcmd ch)
        (p.frec ch) i v) s := by
  simp only [windowEnd, hg]
  exact if_pos hst

theorem startWindowEnd_open {e : FanEnv} {off : Bool} {c : FanCmd} {r : Bytes} {i w : Nat} {f : FanSt} (hst : f.state = 1)
    (hw : f.winAt = some w) (hdue : w + usTicks (100000 * fnTStart r) ≤ e.now) (htarget : (fanTarget e off c r f).1 ≠ 0)
    (hcur : fanCur r i < fnIOpen r) : startWindowEnd e off c r i f = { toRun e f with fault := 0x03, cur := fanCur r i, cnt := 0 } := by
  simp only [startWindowEnd, hst, hw, if_neg (Nat.not_lt.mpr hdue), if_neg htarget, if_pos hcur]

theorem startWindowEnd_stall {e : FanEnv} {off : Bool} {c : FanCmd} {r : Bytes} {i w : Nat} {f : FanSt} (hst : f.state = 1)
    (hw : f.winAt = some w) (hdue : w + usTicks (100000 * fnTStart r) ≤ e.now) (htarget : (fanTarget e off c r f).1 ≠ 0)
    (hcur : fnIOpen r ≤ fanCur r i) (hppr : fnPpr r ≠ 0) : startWindowEnd e off c r i f = fanStall e r { f with cur := fanCur r i } := by
  simp only [startWindowEnd, hst, hw, if_neg (Nat.not_lt.mpr hdue), if_neg htarget, if_neg (Nat.not_lt.mpr hcur), if_pos (Or.inl hppr)]

/-- A running reference output has no current; its silent tach is a warning. -/
theorem runJudge_ref {e : FanEnv} {off : Bool} {c : FanCmd} {r : Bytes} {i : Nat} {f : FanSt} (hst : f.state = 2) (href : fnRef r = true)
    (hppr : fnPpr r ≠ 0) : runJudge e off c r i true f = { f with cur := 0, warns := flagTo 0 true f.warns } := by
  have hcur : fanCur r i = 0 := by simp only [fanCur, href, if_true]
  simp only [runJudge, hst, href, hcur, ne_eq, not_true_eq_false, if_false, if_true]
  exact if_pos ⟨hppr, trivial⟩

theorem outputCode_supply {r : Bytes} {mv : Nat} {f : FanSt} (href : fnRef r = false) (hmv : fanVolts r f.r + 2000 < mv) :
    outputCode r mv false true f = 0x05 := by
  simp only [outputCode, href, Bool.false_eq_true, false_and, and_false, if_false, true_and, if_pos hmv]

theorem outputFault_supply {e : FanEnv} {r : Bytes} {mv : Nat} {f : FanSt} (href : fnRef r = false) (hst : f.state ≠ 5)
    (hmv : fanVolts r f.r + 2000 < mv) :
    outputFault e r mv false true f =
      { f with state := 5, r := 0, fault := 0x05, winAt := none, runAt := none, retryAt := none, rSince := e.now } := by
  have hgo : ¬((0x05 : Nat) = 0 ∨ f.state = 5) := by omega
  simp only [outputFault, outputCode_supply href hmv, if_neg hgo]

theorem retryTimeout_start {e : FanEnv} {c : FanCmd} {r : Bytes} {a : Nat} {f : FanSt} (hst : f.state = 3) (ha : f.retryAt = some a)
    (hdue : a ≤ e.now) (hask : fanAsk e c r f ≠ 0) : retryTimeout e c r f = fanStart e r { f with retryAt := none } := by
  simp only [retryTimeout, hst, ha, if_neg (Nat.not_lt.mpr hdue), if_neg hask]

theorem run60_due {e : FanEnv} {a : Nat} {f : FanSt} (hst : f.state = 2) (ha : f.runAt = some a) (hdue : a + secTicks 60 ≤ e.now) :
    run60 e f = { f with attempts := 0 } := by
  simp only [run60, hst, ha, if_pos hdue]

theorem loopTick_stale {e : FanEnv} {slots : List SlotCopy} {c : FanCmd} {r : Bytes} {f : FanSt} (hsource : fnSource r = 1)
    (hdue : f.evalAt + usTicks 100000 ≤ e.now) (hstale : slotFresh e.linkUp e.loc slots (fnXslot r) = none) :
    loopTick e slots c r f =
      { f with evalAt := e.now, looping := false, tableT := tableRef e slots r { f with evalAt := e.now }, warns := flagTo 3 true f.warns } := by
  have hgo : ¬(fnSource r ≠ 1 ∨ e.now < f.evalAt + usTicks 100000) := by omega
  simp only [loopTick, if_neg hgo, hstale]

theorem tableTick_due {e : FanEnv} {slots : List SlotCopy} {r : Bytes} {f : FanSt} (hsource : fnSource r ≠ 1)
    (hdue : f.evalAt + usTicks 100000 ≤ e.now) : tableTick e slots r f = { f with tableT := tableRef e slots r f, evalAt := e.now } := by
  have hgo : ¬(e.now < f.evalAt + usTicks 100000 ∧ fnSource r ≠ 1) := by omega
  simp only [tableTick, if_neg hgo, if_neg hsource]

theorem tsnsRead_bad {e : FanEnv} {t : Int} {f : FanSt} (h : t < -6400 ∨ 19200 < t) :
    tsnsRead e t f = { f with tsns := t, tsnsOk := none, warns := flagTo 2 true f.warns } := by
  have hbad : (decide (t < -6400) || decide (19200 < t)) = true := by simp only [Bool.or_eq_true, decide_eq_true_eq, h]
  simp only [tsnsRead, hbad, if_true]

theorem binLearn_due {e : FanEnv} {r : Bytes} {i : Nat} {f : FanSt} (hst : f.state = 2) (hsilent : tachSilent e.now r f = false)
    (hsince : f.rSince + secTicks 2 ≤ e.now) (hlearn : f.learnAt + secTicks 1 ≤ e.now) :
    binLearn e r i f =
      { f with
        learnAt := e.now, cur := fanCur r i
        bins := modifyAt (fun b => { l := b.l + divr ((fanCur r i : Int) - b.l) 16, s := b.s + divr ((f.speed : Int) - b.s) 16
                                     n := min (b.n + 1) 255 }) (f.r / 8192) f.bins } := by
  have hgo : ¬(f.state ≠ 2 ∨ tachSilent e.now r f = true ∨ e.now < f.rSince + secTicks 2 ∨ e.now < f.learnAt + secTicks 1) := by
    rw [hsilent]
    rintro (h | h | h | h)
    · exact h hst
    · exact Bool.false_ne_true h
    · omega
    · omega
  simp only [binLearn, if_neg hgo]

/-- Settles O35. -/
theorem fanEventsComplete : Obligations.FanEventsComplete := by
  unfold Obligations.FanEventsComplete
  refine ⟨fun ch us v => ?tach, fun ch i v w g => ?windowOpen, fun ch i v w g => ?windowStall, fun ch i v g => ?judge, fun ch mv v => ?output,
    fun ch v a => ?retry, fun ch v a => ?run, fun ch v => ?loop, fun ch v => ?table, fun ch temp v => ?sensor, fun ch i v => ?learn,
    fun ch i v => ?report, fun ch v => ?slew⟩
  case tach =>
    refine happens_fan (v := v) (fun _ e p v => tachEdge e (p.frec ch) us v) (fun _ _ => rfl) fun s h => ?_
    simp only [Bool.and_eq_true, decide_eq_true_eq, Bool.not_eq_true'] at h
    exact ⟨h.1, h.2, rfl⟩
  case windowOpen =>
    refine happens_intro (windowEnd ch i) (fun _ _ => rfl) fun s h => ?_
    simp only [Bool.and_eq_true, decide_eq_true_eq, Bool.not_eq_true'] at h
    obtain ⟨⟨⟨⟨⟨⟨⟨⟨hup, hv⟩, hg⟩, hgst⟩, hst⟩, hw⟩, hdue⟩, hcur⟩, htarget⟩ := h
    exact (windowEnd_start hg hgst).trans (atFan_found hup hv (startWindowEnd_open hst hw hdue htarget hcur))
  case windowStall =>
    refine happens_intro (windowEnd ch i) (fun _ _ => rfl) fun s h => ?_
    simp only [Bool.and_eq_true, decide_eq_true_eq, Bool.not_eq_true'] at h
    obtain ⟨⟨⟨⟨⟨⟨⟨⟨⟨hup, hv⟩, hg⟩, hgst⟩, hst⟩, hw⟩, hdue⟩, hcur⟩, hppr⟩, htarget⟩ := h
    exact (windowEnd_start hg hgst).trans (atFan_found hup hv (startWindowEnd_stall hst hw hdue htarget hcur hppr))
  case judge =>
    refine happens_intro (judgeRun ch i) (fun _ _ => rfl) fun s h => ?_
    simp only [Bool.and_eq_true, decide_eq_true_eq, Bool.not_eq_true'] at h
    obtain ⟨⟨⟨⟨⟨⟨hup, hv⟩, hg⟩, hst⟩, href⟩, hppr⟩, hsilent⟩ := h
    simp only [judgeRun, hg]
    refine atFan_found (h := fun _ => { v with cur := 0, warns := flagTo 0 true v.warns }) hup hv ?_
    rw [hsilent]
    exact runJudge_ref hst href hppr
  case output =>
    refine happens_fan (v := v) (fun _ e p v => outputFault e (p.frec ch) mv false true v) (fun _ _ => rfl) fun s h => ?_
    simp only [Bool.and_eq_true, decide_eq_true_eq, Bool.not_eq_true'] at h
    obtain ⟨⟨⟨⟨hup, hv⟩, href⟩, hst⟩, hmv⟩ := h
    exact ⟨hup, hv, outputFault_supply href hst hmv⟩
  case retry =>
    refine happens_fan (v := v) (fun _ e p v => retryTimeout e (p.fcmd ch) (p.frec ch) v) (fun _ _ => rfl) fun s h => ?_
    simp only [Bool.and_eq_true, decide_eq_true_eq, Bool.not_eq_true'] at h
    obtain ⟨⟨⟨⟨⟨hup, hv⟩, hst⟩, ha⟩, hdue⟩, hask⟩ := h
    exact ⟨hup, hv, retryTimeout_start hst ha hdue hask⟩
  case run =>
    refine happens_fan (v := v) (fun _ e _ v => run60 e v) (fun _ _ => rfl) fun s h => ?_
    simp only [Bool.and_eq_true, decide_eq_true_eq, Bool.not_eq_true'] at h
    obtain ⟨⟨⟨⟨hup, hv⟩, hst⟩, ha⟩, hdue⟩ := h
    exact ⟨hup, hv, run60_due hst ha hdue⟩
  case loop =>
    refine happens_fan (v := v) (fun _ e p v => loopTick e p.cmd.slots (p.fcmd ch) (p.frec ch) v) (fun _ _ => rfl) fun s h => ?_
    simp only [Bool.and_eq_true, decide_eq_true_eq, Bool.not_eq_true'] at h
    obtain ⟨⟨⟨⟨hup, hv⟩, hsource⟩, hdue⟩, hstale⟩ := h
    exact ⟨hup, hv, loopTick_stale hsource hdue hstale⟩
  case table =>
    refine happens_fan (v := v) (fun _ e p v => tableTick e p.cmd.slots (p.frec ch) v) (fun _ _ => rfl) fun s h => ?_
    simp only [Bool.and_eq_true, decide_eq_true_eq, Bool.not_eq_true'] at h
    obtain ⟨⟨⟨hup, hv⟩, hsource⟩, hdue⟩ := h
    exact ⟨hup, hv, tableTick_due hsource hdue⟩
  case sensor =>
    refine happens_fan (v := v) (fun _ e _ v => tsnsRead e temp v) (fun _ _ => rfl) fun s h => ?_
    simp only [Bool.and_eq_true, Bool.or_eq_true, decide_eq_true_eq, Bool.not_eq_true'] at h
    obtain ⟨⟨hup, hv⟩, hbad⟩ := h
    exact ⟨hup, hv, tsnsRead_bad hbad⟩
  case learn =>
    refine happens_intro (atFan ch fun _ e p v => binLearn e (p.frec ch) i v) (fun _ _ => rfl) fun s h => ?_
    simp only [Bool.and_eq_true, decide_eq_true_eq, Bool.not_eq_true'] at h
    obtain ⟨⟨⟨⟨⟨hup, hv⟩, hst⟩, hsilent⟩, hsince⟩, hlearn⟩ := h
    exact atFan_found hup hv (binLearn_due hst hsilent hsince hlearn)
  case report =>
    refine happens_intro (fanReport ch i) (fun _ _ => rfl) fun s h => ?_
    simp only [Bool.and_eq_true, decide_eq_true_eq, Bool.not_eq_true'] at h
    simp only [fanReport, h.1, h.2, Bool.false_eq_true, if_false]
  case slew =>
    refine happens_fan (v := v) (fun _ e p v => fanSlew e p.supplyOff (p.fcmd ch) (p.frec ch) v) (fun _ _ => rfl) fun s h => ?_
    simp only [Bool.and_eq_true, decide_eq_true_eq, Bool.not_eq_true'] at h
    exact ⟨h.1, h.2, rfl⟩

/-! Universal channels (R316 to R334). -/

theorem onIo_congr {f g : IoSt → IoSt} {s : State} (h : f s.io = g s.io) : onIo f s = onIo g s := by
  rw [onIo, onIo, h]

/-- An event of the IO die that sends no sample of its own has the effect stated where its own work `g` has it on the die that is up. -/
theorem happens_io {i : Nat → Instr} {P : State → Bool} {h : State → IoSt → IoSt} (g : State → IoSt → IoSt)
    (he : ∀ t s, exec (i t) s = .next (icSettle (atIoOnly g (advance t s))))
    (hg : ∀ s, P s = true → dieDown 2 s = false ∧ g s s.io = h s s.io) : happens i P (fun s => onIo (h s) s) :=
  happens_intro (atIoOnly g) he fun s hp => by
    obtain ⟨hup, hgs⟩ := hg s hp
    exact (if_neg (Bool.eq_false_iff.mp hup)).trans (onIo_congr hgs)

theorem inputSamples_up {ch : Nat} {s : State} (l : List (Nat × Nat × Nat)) (hup : dieDown 2 s = false) (hin : ucIsIn (s.io.urec ch) = true) :
    inputSamples ch l s = l.zipIdx.foldl (fun a q => inputSample ch (l.length - 1 - q.2) q.1 a) s := by
  simp only [inputSamples, hup, hin, Bool.not_true, Bool.or_self, Bool.false_eq_true, if_false]

theorem inputSamples_out {ch : Nat} {s : State} (l : List (Nat × Nat × Nat)) (hout : ucIsIn (s.io.urec ch) = false) :
    inputSamples ch l s = s := by
  simp only [inputSamples, hout, Bool.not_false, Bool.or_true, if_true]

theorem inputSamples_nil {ch : Nat} {s : State} : inputSamples ch [] s = s := ite_self s

theorem sampleAt_last (now : Nat) (r : Bytes) : sampleAt now r 0 = now := by simp [sampleAt]

theorem inputSample_last {ch : Nat} {x : Nat × Nat × Nat} {v : UioSt} {s : State} (hv : s.io.chan ch = some v) :
    inputSample ch 0 x s =
      (let w := uioSample (s.io.urec ch) s.io.cfg.uvOff (unitFrame (dieShort (s.far 2) s.now)) x v
       (edgeSample (s.io.urec ch) s.io.cfg.uvOff x v w).foldl (fun a b => pushRec 2 s.now b a) (onIo (fun p => p.setChan w) s)) := by
  simp only [inputSample, hv, sampleAt_last, onIo]

theorem uioFrame_output {ch cur : Nat} {l : List (Nat × Nat × Nat)} {v : UioSt} {s : State} (hup : dieDown 2 s = false)
    (hv : s.io.chan ch = some v) (hout : ucIsIn (s.io.urec ch) = false) (hnew : v.lastRep ≠ some (uioUnit (dieShort (s.far 2) s.now))) :
    uioFrame ch cur l s =
      (let u := uioUnit (dieShort (s.far 2) s.now)
       let low := uioSupOff s.io ch
       let st := 16 * (uioLevel s.now (s.far 2).safe s.io v).2 + if low then 7 else 0
       (pushShort 2 u (.sample (ucSrc (s.io.urec v.ch)) st (if low then 0 else s.open'))
         (onIo (fun p => p.setChan { v with cur := cur, lastRep := some u }) s)).used) := by
  simp only [uioFrame, inputSamples_out l hout, hup, hv, hout, outputReport, if_neg hnew, Bool.false_eq_true, if_false, List.foldl_cons,
    List.foldl_nil, onIo]

theorem uioFrame_input {ch cur : Nat} {v : UioSt} {s : State} (hup : dieDown 2 s = false) (hv : s.io.chan ch = some v)
    (hin : ucIsIn (s.io.urec ch) = true) (hnew : v.lastRep ≠ some (uioUnit (dieShort (s.far 2) s.now))) :
    uioFrame ch cur [] s =
      (let u := uioUnit (dieShort (s.far 2) s.now)
       let f := frameSums (unitFrame u) v
       let code := if f.low || uioSupOff s.io ch then 7 else if v.broken then 3 else 0
       let val := if code = 0 then f.edges + 65536 * b2n f.after + 131072 * b2n f.changed else 0
       pushShort 2 u (.sample (ucSrc (s.io.urec ch)) code (val : Nat))
         (onIo (fun p => p.setChan { v with frames := framesAfter (unitFrame u) v.frames, lastRep := some u }) s)) := by
  simp only [uioFrame, inputSamples_nil, hup, hv, hin, uioReportFrame, if_neg hnew, Bool.false_eq_true, if_false, if_true, List.foldl_cons,
    List.foldl_nil, onIo, List.isEmpty_nil, Bool.and_true]

theorem pwmPeriod_next {now ch a : Nat} {v : UioSt} {p : IoSt} (hv : p.chan ch = some v) (hpwm : ucIsPwm (p.urec ch) = true)
    (ha : v.perAt = some a) (hnew : periodOf now a (p.ucmd ch).period ≠ v.perIx) :
    pwmPeriod now ch p = p.setChan { v with perIx := periodOf now a (p.ucmd ch).period, duty := (p.ucmd ch).dec } := by
  simp only [pwmPeriod, hv, ha, hpwm, Bool.not_true, Bool.false_eq_true, false_or, if_neg hnew]

theorem overload_over {now ch ms : Nat} {safe : Bool} {curs : List Nat} {v : UioSt} {p : IoSt} (hv : p.chan ch = some v)
    (hon : uioOnNow now safe p v = true) (hms : ucOlTime (p.urec ch) ≤ ms) (hcur : 600 * ucPar (p.urec ch) ≤ sumN curs) :
    overload now safe ch ms curs p = p.setChan { v with fault := 0x01, testOff := false, cur := sumN curs } := by
  simp only [overload, hv]
  exact if_pos ⟨hon, hms, hcur⟩

theorem budgetOverload_segment {n : Nat} {sums : List (List Nat)} {curs : List Nat} {p : IoSt} (hover : budgetOver p (.segment n) sums = true)
    (hcurs : sums.getLast? = some curs) :
    budgetOverload (.segment n) sums p =
      { p with chans := p.chans.map fun v =>
          let w := { v with cur := groupCur (p.urec v.ch) curs }
          if !ucIsOut (p.urec v.ch) then v else if segOf v.ch == n && !uioFaulted v then { w with fault := 0x04, testOff := false } else w } := by
  simp only [budgetOverload, hover, hcurs, Bool.true_and, Bool.and_comm (!uioFaulted _)]
  rfl

theorem budgetOverload_die {sums : List (List Nat)} {curs : List Nat} {p : IoSt} (hover : budgetOver p .die sums = true)
    (hcurs : sums.getLast? = some curs) :
    budgetOverload .die sums p =
      { p with chans := p.chans.map fun v =>
          let w := { v with cur := groupCur (p.urec v.ch) curs }
          if !ucIsOut (p.urec v.ch) then v else if !uioFaulted v then { w with fault := 0x05, testOff := false } else w } := by
  simp only [budgetOverload, hover, hcurs, Bool.true_and, Bool.and_true]
  rfl

/-- An output that is on: its current tells an open load from a load, its pin an open load from a cross-feed to be looked for. -/
theorem openLoad_on {now ch cur pin sup : Nat} {safe : Bool} {v : UioSt} {p : IoSt} (hv : p.chan ch = some v)
    (hout : ucIsOut (p.urec ch) = true) (hon : uioOnNow now safe p v = true) :
    openLoad now safe ch cur pin sup p =
      if 4 ≤ cur then p.setChan { v with cur := cur, warns := flagTo 0 false v.warns }
      else if pin + 1000 < sup then p.setChan { v with cur := cur, warns := flagTo 0 true v.warns }
      else if p.tests.contains (ch, true) then p.setChan { v with cur := cur }
      else { p.setChan { v with cur := cur } with tests := p.tests ++ [(ch, true)] } := by
  simp only [openLoad, hv, hout, hon, Bool.not_true, Bool.false_eq_true, if_false, if_true]
  rfl

/-- An output that is off, at a pin of 3 V and over. -/
theorem openLoad_off {now ch cur pin sup : Nat} {safe : Bool} {v : UioSt} {p : IoSt} (hv : p.chan ch = some v)
    (hout : ucIsOut (p.urec ch) = true) (hoff : uioOnNow now safe p v = false) (hpin : 3000 ≤ pin) (hdiag : ucOffDiag (p.urec ch) = true) :
    openLoad now safe ch cur pin sup p = p.setChan { v with warns := flagTo 1 true v.warns } := by
  simp only [openLoad, hv, hout, hoff, hdiag, Bool.not_true, Bool.false_eq_true, if_false, if_true, if_neg (Nat.not_lt.mpr hpin)]

theorem uioOffTest_low {now ch mv : Nat} {safe : Bool} {v : UioSt} {p : IoSt} (hv : p.chan ch = some v) (hidle : p.cross.isNone = true)
    (htest : p.tests.contains (ch, true) = true) (hfirst : (p.tests.any fun q => decide (q.1 < ch)) = false)
    (hon : uioOnNow now safe p v = true) (hmv : mv < 5000) :
    uioOffTest now safe ch mv p =
      serveTests now safe ({ p with tests := p.tests.filter fun q => q != (ch, true) }.setChan { v with warns := flagTo 0 true v.warns }) := by
  have hgo : ¬(p.cross.isSome = true ∨ (!p.tests.contains (ch, true)) = true ∨ (p.tests.any fun q => decide (q.1 < ch)) = true ∨
      uioOnNow now safe p v = false) := by
    rw [Option.isNone_iff_eq_none.mp hidle, htest, hfirst, hon]
    decide
  simp only [uioOffTest, hv]
  exact (if_neg hgo).trans (if_pos hmv)

/-- A pulse that shows no cross-feed goes to the next group, or ends the search. -/
theorem crossPulse_free {now c m t0 mv : Nat} {safe : Bool} {rest : List Nat} {v : UioSt} {p : IoSt} (hcross : p.cross = some (c, m :: rest, t0))
    (hdue : t0 + usTicks 200 ≤ now) (hv : p.chan c = some v) (hpwm : ucIsPwm (p.urec m) = false) (hmv : 5000 ≤ mv) :
    crossPulse now safe mv p =
      if rest = [] then serveTests now safe { p.setChan { v with fault := 0x02, testOff := false } with cross := none }
      else { p with cross := some (c, rest, now) } := by
  have hlow : decide (mv < 5000) = false := decide_eq_false (Nat.not_lt.mpr hmv)
  simp only [crossPulse, hcross, if_neg (Nat.not_lt.mpr hdue), hv, hpwm, hlow, Bool.false_and, Bool.and_false, Bool.false_eq_true, if_false]
  rfl

theorem shortOff_ask {now ch mv : Nat} {safe : Bool} {v : UioSt} {p : IoSt} (hv : p.chan ch = some v) (hmv : 5000 < mv)
    (hout : ucIsOut (p.urec ch) = true) (hoff : uioOnNow now safe p v = false) (hok : uioFaulted v = false) (htest : v.testOff = false)
    (hnew : p.tests.contains (ch, false) = false) :
    shortOff now safe ch mv p = serveTests now safe { p with tests := p.tests ++ [(ch, false)] } := by
  have hgo : ¬(mv ≤ 5000 ∨ (!ucIsOut (p.urec ch)) = true ∨ uioOnNow now safe p v = true ∨ uioFaulted v = true ∨ v.testOff = true ∨
      p.tests.contains (ch, false) = true) := by
    rw [hout, hoff, hok, htest, hnew]
    simpa using hmv
  simp only [shortOff, hv]
  exact if_neg hgo

/-- Settles O36. -/
theorem universalChannelEventsComplete : Obligations.UniversalChannelEventsComplete := by
  unfold Obligations.UniversalChannelEventsComplete
  refine ⟨fun ch x v => ?sample, fun ch l => ?samples, fun ch l x => ?wireBreak, fun ch cur l v => ?reportOut, fun ch cur v => ?reportIn,
    fun ch v a => ?pwm, fun ch ms curs v => ?overload, fun n sums curs => ?segment, fun sums curs => ?die, fun ch cur pin sup v => ?load,
    fun ch cur pin sup v => ?openOn, fun ch cur pin sup v => ?cross, fun ch cur pin sup v => ?openOff, fun ch mv v => ?offTest,
    fun mv c m rest t0 v => ?pulse, fun mv c m t0 v => ?lastPulse, fun ch mv v => ?shortOff⟩
  case sample =>
    refine happens_intro (inputSamples ch [x]) (fun _ _ => rfl) fun s h => ?_
    simp only [Bool.and_eq_true, decide_eq_true_eq, Bool.not_eq_true'] at h
    obtain ⟨⟨hup, hin⟩, hv⟩ := h
    exact (inputSamples_up [x] hup hin).trans (inputSample_last hv)
  case samples =>
    refine happens_intro (inputSamples ch l) (fun _ _ => rfl) fun s h => ?_
    simp only [Bool.and_eq_true, Bool.not_eq_true'] at h
    exact inputSamples_up l h.1 h.2
  case wireBreak =>
    refine happens_intro (inputSamples ch (l ++ [x])) (fun _ _ => rfl) fun s h => ?_
    simp only [Bool.and_eq_true, Bool.not_eq_true'] at h
    exact inputSamples_up (l ++ [x]) h.1 h.2
  case reportOut =>
    refine happens_intro (uioFrame ch cur l) (fun _ _ => rfl) fun s h => ?_
    simp only [Bool.and_eq_true, decide_eq_true_eq, Bool.not_eq_true'] at h
    obtain ⟨⟨⟨hup, hv⟩, hout⟩, hnew⟩ := h
    exact uioFrame_output hup hv hout hnew
  case reportIn =>
    refine happens_intro (uioFrame ch cur []) (fun _ _ => rfl) fun s h => ?_
    simp only [Bool.and_eq_true, decide_eq_true_eq, Bool.not_eq_true'] at h
    obtain ⟨⟨⟨hup, hv⟩, hin⟩, hnew⟩ := h
    exact uioFrame_input hup hv hin hnew
  case pwm =>
    refine happens_io (fun s => pwmPeriod s.now ch) (fun _ _ => rfl) fun s h => ?_
    simp only [Bool.and_eq_true, decide_eq_true_eq, Bool.not_eq_true'] at h
    obtain ⟨⟨⟨⟨hup, hv⟩, hpwm⟩, ha⟩, hnew⟩ := h
    exact ⟨hup, pwmPeriod_next hv hpwm ha hnew⟩
  case overload =>
    refine happens_io (fun s => overload s.now (ioSafe s) ch ms curs) (fun _ _ => rfl) fun s h => ?_
    simp only [Bool.and_eq_true, decide_eq_true_eq, Bool.not_eq_true'] at h
    obtain ⟨⟨⟨⟨hup, hv⟩, hon⟩, hms⟩, hcur⟩ := h
    exact ⟨hup, overload_over hv hon hms hcur⟩
  case segment =>
    refine happens_io (fun _ => budgetOverload (.segment n) sums) (fun _ _ => rfl) fun s h => ?_
    simp only [Bool.and_eq_true, decide_eq_true_eq, Bool.not_eq_true'] at h
    obtain ⟨⟨hup, hover⟩, hcurs⟩ := h
    exact ⟨hup, budgetOverload_segment hover hcurs⟩
  case die =>
    refine happens_io (fun _ => budgetOverload .die sums) (fun _ _ => rfl) fun s h => ?_
    simp only [Bool.and_eq_true, decide_eq_true_eq, Bool.not_eq_true'] at h
    obtain ⟨⟨hup, hover⟩, hcurs⟩ := h
    exact ⟨hup, budgetOverload_die hover hcurs⟩
  case load =>
    refine happens_io (fun s => openLoad s.now (ioSafe s) ch cur pin sup) (fun _ _ => rfl) fun s h => ?_
    simp only [Bool.and_eq_true, decide_eq_true_eq, Bool.not_eq_true'] at h
    obtain ⟨⟨⟨⟨hup, hv⟩, hout⟩, hon⟩, hcur⟩ := h
    exact ⟨hup, (openLoad_on hv hout hon).trans (if_pos hcur)⟩
  case openOn =>
    refine happens_io (fun s => openLoad s.now (ioSafe s) ch cur pin sup) (fun _ _ => rfl) fun s h => ?_
    simp only [Bool.and_eq_true, decide_eq_true_eq, Bool.not_eq_true'] at h
    obtain ⟨⟨⟨⟨⟨hup, hv⟩, hout⟩, hon⟩, hcur⟩, hpin⟩ := h
    exact ⟨hup, (openLoad_on hv hout hon).trans (by rw [if_neg (Nat.not_le.mpr hcur), if_pos hpin])⟩
  case cross =>
    refine happens_io (fun s => openLoad s.now (ioSafe s) ch cur pin sup) (fun _ _ => rfl) fun s h => ?_
    simp only [Bool.and_eq_true, decide_eq_true_eq, Bool.not_eq_true'] at h
    obtain ⟨⟨⟨⟨⟨⟨hup, hv⟩, hout⟩, hon⟩, hcur⟩, hpin⟩, hnew⟩ := h
    refine ⟨hup, (openLoad_on hv hout hon).trans ?_⟩
    rw [if_neg (Nat.not_le.mpr hcur), if_neg (Nat.not_lt.mpr hpin), if_neg (Bool.eq_false_iff.mp hnew)]
  case openOff =>
    refine happens_io (fun s => openLoad s.now (ioSafe s) ch cur pin sup) (fun _ _ => rfl) fun s h => ?_
    simp only [Bool.and_eq_true, decide_eq_true_eq, Bool.not_eq_true'] at h
    obtain ⟨⟨⟨⟨⟨hup, hv⟩, hout⟩, hoff⟩, hpin⟩, hdiag⟩ := h
    exact ⟨hup, openLoad_off hv hout hoff hpin hdiag⟩
  case offTest =>
    refine happens_io (fun s => uioOffTest s.now (ioSafe s) ch mv) (fun _ _ => rfl) fun s h => ?_
    simp only [Bool.and_eq_true, decide_eq_true_eq, Bool.not_eq_true'] at h
    obtain ⟨⟨⟨⟨⟨⟨hup, hv⟩, hidle⟩, htest⟩, hfirst⟩, hon⟩, hmv⟩ := h
    exact ⟨hup, uioOffTest_low hv hidle htest hfirst hon hmv⟩
  case pulse =>
    refine happens_io (fun s => crossPulse s.now (ioSafe s) mv) (fun _ _ => rfl) fun s h => ?_
    simp only [Bool.and_eq_true, decide_eq_true_eq, Bool.not_eq_true'] at h
    obtain ⟨⟨⟨⟨⟨⟨hup, hcross⟩, hdue⟩, hv⟩, hpwm⟩, hmv⟩, hrest⟩ := h
    exact ⟨hup, (crossPulse_free hcross hdue hv hpwm hmv).trans (if_neg hrest)⟩
  case lastPulse =>
    refine happens_io (fun s => crossPulse s.now (ioSafe s) mv) (fun _ _ => rfl) fun s h => ?_
    simp only [Bool.and_eq_true, decide_eq_true_eq, Bool.not_eq_true'] at h
    obtain ⟨⟨⟨⟨⟨hup, hcross⟩, hdue⟩, hv⟩, hpwm⟩, hmv⟩ := h
    exact ⟨hup, (crossPulse_free hcross hdue hv hpwm hmv).trans (if_pos rfl)⟩
  case shortOff =>
    refine happens_io (fun s => shortOff s.now (ioSafe s) ch mv) (fun _ _ => rfl) fun s h => ?_
    simp only [Bool.and_eq_true, decide_eq_true_eq, Bool.not_eq_true'] at h
    obtain ⟨⟨⟨⟨⟨⟨⟨hup, hv⟩, hmv⟩, hout⟩, hoff⟩, hok⟩, htest⟩, hnew⟩ := h
    exact ⟨hup, shortOff_ask hv hmv hout hoff hok htest hnew⟩

/-! Field supplies (R291 to R293, R309, R331 to R334). -/

theorem atIoOnly_up {g : State → IoSt → IoSt} {s : State} (hup : dieDown 2 s = false) : atIoOnly g s = onIo (g s) s :=
  if_neg (Bool.eq_false_iff.mp hup)

theorem supplyOff_below {x : Supply} {mv : Nat} {s : State} (h : mv < (dieCfg x s).uvOff) : (!belowOff x mv s) = false := by
  rw [belowOff, decide_eq_true h]; rfl

theorem supplyBack_over {x : Supply} {mv : Nat} {s : State} (h : (dieCfg x s).uvOff + 1000 ≤ mv) : (!supplyAbove x mv s) = false := by
  rw [supplyAbove, decide_eq_true h]; rfl

/-- Settles O37. -/
theorem fieldSupplyEventsComplete : Obligations.FieldSupplyEventsComplete := by
  unfold Obligations.FieldSupplyEventsComplete
  refine ⟨fun mv => ?powerOff, fun mv => ?ioOff, fun n mv => ?segmentOff, fun mv => ?powerBack, fun mv => ?ioBack, fun n mv => ?segmentBack,
    fun v => ?warn, fun v => ?warnEnd, fun mv => ?powerReset, fun mv => ?ioReset, fun k mv => ?restart⟩
  case powerOff =>
    refine happens_intro (supplyOff .vfldPower mv) (fun _ _ => rfl) fun s h => ?_
    simp only [Bool.and_eq_true, decide_eq_true_eq, Bool.not_eq_true'] at h
    refine (if_neg (Bool.eq_false_iff.mp (supplyOff_below h.2))).trans ?_
    exact atPower_up h.1 rfl
  case ioOff =>
    refine happens_intro (supplyOff .vfldIo mv) (fun _ _ => rfl) fun s h => ?_
    simp only [Bool.and_eq_true, decide_eq_true_eq, Bool.not_eq_true'] at h
    refine (if_neg (Bool.eq_false_iff.mp (supplyOff_below h.2))).trans ?_
    exact atIoOnly_up h.1
  case segmentOff =>
    refine happens_intro (supplyOff (.segment n) mv) (fun _ _ => rfl) fun s h => ?_
    simp only [Bool.and_eq_true, decide_eq_true_eq, Bool.not_eq_true'] at h
    refine (if_neg (Bool.eq_false_iff.mp (supplyOff_below h.2))).trans ?_
    exact atIoOnly_up h.1
  case powerBack =>
    refine happens_intro (supplyBack .vfldPower mv) (fun _ _ => rfl) fun s h => ?_
    simp only [Bool.and_eq_true, decide_eq_true_eq, Bool.not_eq_true'] at h
    obtain ⟨⟨hup, hoff⟩, hover⟩ := h
    refine (if_neg (Bool.eq_false_iff.mp (supplyBack_over hover))).trans ((if_pos hoff).trans ?_)
    exact atPower_up hup rfl
  case ioBack =>
    refine happens_intro (supplyBack .vfldIo mv) (fun _ _ => rfl) fun s h => ?_
    simp only [Bool.and_eq_true, decide_eq_true_eq, Bool.not_eq_true'] at h
    refine (if_neg (Bool.eq_false_iff.mp (supplyBack_over h.2))).trans ?_
    exact atIoOnly_up h.1
  case segmentBack =>
    refine happens_intro (supplyBack (.segment n) mv) (fun _ _ => rfl) fun s h => ?_
    simp only [Bool.and_eq_true, decide_eq_true_eq, Bool.not_eq_true'] at h
    refine (if_neg (Bool.eq_false_iff.mp (supplyBack_over h.2))).trans ?_
    exact atIoOnly_up h.1
  case warn =>
    refine happens_intro (uvWarning v) (fun _ _ => rfl) fun s h => ?_
    simp only [Bool.and_eq_true, decide_eq_true_eq, Bool.not_eq_true'] at h
    obtain ⟨⟨hup, hfirst⟩, hlow⟩ := h
    simp only [uvWarning, atIo, hup, hfirst, Bool.false_eq_true, if_false, if_neg (Nat.not_le.mpr hlow)]
  case warnEnd =>
    refine happens_io (fun _ p => if v < p.cfg.uvWarn + 1000 then p else ioUvWarn false v p) (fun _ _ => rfl) fun s h => ?_
    simp only [Bool.and_eq_true, decide_eq_true_eq, Bool.not_eq_true'] at h
    exact ⟨h.1, if_neg (Nat.not_lt.mpr h.2)⟩
  case powerReset =>
    refine happens_intro (dieReset 1 mv) (fun _ _ => rfl) fun s h => ?_
    have hlow : ¬(((1 : Nat) ≠ 1 ∧ (1 : Nat) ≠ 2) ∨ 7000 ≤ mv) := by have := of_decide_eq_true h; omega
    exact if_neg hlow
  case ioReset =>
    refine happens_intro (dieReset 2 mv) (fun _ _ => rfl) fun s h => ?_
    have hlow : ¬(((2 : Nat) ≠ 1 ∧ (2 : Nat) ≠ 2) ∨ 7000 ≤ mv) := by have := of_decide_eq_true h; omega
    exact if_neg hlow
  case restart => exact happens_intro (dieRestart k mv) (fun _ _ => rfl) fun s h => if_pos h

end Sys2Proof.Machine
end

section
/-!
The completion statements of the CAN buses, resets, sleep, clocks, housekeeping, the recorder and the plant frame (01, 02, 04, 12, 15 to 20).
-/
namespace Sys2Proof.Machine

/-! CAN buses (R341 to R357). -/

/-- A frame that no cable, no WATCH cycle and no open REC concerns goes to the claims and the filters. -/
theorem frameIn_plain {ch sof : Nat} {f : CanFrame} {r : Bytes} {s : State} (hr : s.datum.canRec ch = some r) (hrec : (s.canCh ch).rec' ≤ 127)
    (hcable : cableFrame ch f s = false) (hcycle : cycleRequest ch f s = false) :
    frameIn ch sof f s =
      strayRequests ch (claimsLost ch (canStep ch sof (canReceive s.datum r s.now (frameOf s.now) sof (recValue s) f) s)) := by
  simp only [frameIn, hr, if_neg (Nat.not_lt.mpr hrec), hcable, hcycle, Bool.false_eq_true, if_false]

theorem busGone_one {ch : Nat} {r : Bytes} {s : State} (hr : s.datum.canRec ch = some r) (hsends : canSends ch s = true)
    (hst : (s.canCh ch).state < 2) (htec : 256 ≤ (s.canCh ch).tec) :
    busGone ch false s = cancelsDone (failover ch (canStep ch s.now (busOff r) s)) := by
  have hgo : ¬(canSends ch s = false ∨ 2 ≤ (s.canCh ch).state ∨ (s.canCh ch).tec < 256) := by
    rw [hsends]
    simp only [Bool.true_eq_false, false_or]
    omega
  simp only [busGone, hr, if_neg hgo, Bool.false_eq_true, if_false]

theorem recovered_busOff {ch : Nat} {s : State} (hlive : canLive ch s = true) (hst : (s.canCh ch).state = 2)
    (hrec : (s.canCh ch).recovering = true) :
    recovered ch s =
      raise 0x0A03 (leBytes 1 ch) (setCan { s.canCh ch with state := 0, recovering := false, tec := 0, rec' := 0 } s) := by
  have hgo : (!canLive ch s || (s.canCh ch).state != 2 || !(s.canCh ch).recovering) = false := by rw [hlive, hst, hrec]; rfl
  simp only [recovered]
  exact if_neg (Bool.eq_false_iff.mp hgo)

theorem claimTimeout_due {ch : Nat} {k : Claim} {s : State} (hk : (s.canCh ch).claim = some k) (hlive : canLive ch s = true)
    (hnew : k.holding = false) (hdue : k.since + usTicks 250000 ≤ s.now) :
    claimTimeout ch s =
      (waiting 0x0A04 ch s).foldl (fun a q => finish q stOk 0 k.addr a) (setCan { s.canCh ch with claim := some { k with holding := true } } s) := by
  have hgo : ¬(canLive ch s = false ∨ k.holding = true ∨ s.now < k.since + usTicks 250000) := by
    rw [hlive, hnew]
    simp only [Bool.true_eq_false, Bool.false_eq_true, false_or]
    exact Nat.not_lt.mpr hdue
  simp only [claimTimeout, hk]
  exact if_neg hgo

theorem sleepDiscard_due {ch : Nat} {s : State} (hst : s.pwr.state = 2) (hstandby : (s.canCh ch).standby = true)
    (hdue : s.pwr.sleepAt + ticks100ms ≤ s.now) :
    sleepDiscard ch s =
      (let c := s.canCh ch
       cancelsDone (c.fifo.foldl (fun a x => (outcomeRecs 0 6 ch x).foldl (fun b r => canRecords r.1 r.2 b) a)
         (setCan (c.fifo.foldl (fun d x => noteOutcome 6 x d) { c with fifo := [] }) s))) := by
  refine if_neg ?_
  rw [hst, hstandby]
  simp only [ne_eq, not_true_eq_false, Bool.true_eq_false, false_or]
  exact Nat.not_lt.mpr hdue

/-- Settles O38. -/
theorem canBusEventsComplete : Obligations.CanBusEventsComplete := by
  unfold Obligations.CanBusEventsComplete
  refine ⟨fun ch sof f r => ?receive, fun ch recs => ?take, fun ch sof => ?sent, fun ch sof => ?busError, fun ch sof => ?lost,
    fun ch sof => ?dominant, fun ch => ?rxError, fun ch => ?rxDominant, fun ch => ?rxException, fun ch r => ?busOff, fun ch => ?recovered,
    fun ch k => ?claim, fun ch => ?wake, fun ch => ?sleep⟩
  case receive =>
    refine happens_guarded (fun s => canLive ch s = true ∧ (s.canCh ch).state ≠ 2) (frameIn ch sof f) (fun _ _ => rfl) fun s h => ?_
    simp only [Bool.and_eq_true, decide_eq_true_eq, Bool.not_eq_true'] at h
    obtain ⟨⟨⟨⟨⟨hlive, hst⟩, hr⟩, hrec⟩, hcable⟩, hcycle⟩ := h
    exact ⟨⟨hlive, hst⟩, frameIn_plain hr hrec hcable hcycle⟩
  case take =>
    refine happens_intro (ringTake ch recs) (fun _ _ => rfl) fun s h => ?_
    have hgo : ¬(!canTake ch recs s) = true := by rw [h]; decide
    exact if_neg hgo
  case sent =>
    refine happens_guarded (fun s => canSends ch s = true) (fun s => cancelsDone (canStep ch sof (txComplete (s.canRecord ch) sof) s))
      (fun _ _ => rfl) fun s h => ?_
    simp only [Bool.and_eq_true] at h
    exact ⟨h.1, rfl⟩
  case busError =>
    refine happens_guarded (fun s => canSends ch s = true) (fun s => cancelsDone (canStep ch s.now (txError (s.canRecord ch) sof false) s))
      (fun _ _ => rfl) fun s h => ?_
    simp only [Bool.and_eq_true] at h
    exact ⟨h.1, rfl⟩
  case lost =>
    refine happens_guarded (fun s => canSends ch s = true) (fun s => cancelsDone (canStep ch s.now (txError (s.canRecord ch) sof true) s))
      (fun _ _ => rfl) fun s h => ?_
    simp only [Bool.and_eq_true] at h
    exact ⟨h.1, rfl⟩
  case dominant =>
    refine happens_guarded (fun s => canSends ch s = true) (fun s => cancelsDone (canStep ch s.now (txError (s.canRecord ch) sof false) s))
      (fun _ _ => rfl) fun s h => ?_
    simp only [Bool.and_eq_true] at h
    exact ⟨h.1, rfl⟩
  case rxError =>
    refine happens_intro (rxFailed ch .busError) (fun _ _ => rfl) fun s h => ?_
    simp only [rxFailed, h, Bool.not_true, Bool.false_eq_true, if_false]
  case rxDominant =>
    refine happens_intro (rxFailed ch .dominantAfterFlag) (fun _ _ => rfl) fun s h => ?_
    simp only [rxFailed, h, Bool.not_true, Bool.false_eq_true, if_false]
  case rxException =>
    refine happens_intro (rxFailed ch .protocolException) (fun _ _ => rfl) fun s h => ?_
    simp only [rxFailed, h, Bool.not_true, Bool.false_eq_true, if_false]
  case busOff =>
    refine happens_intro (busGone ch false) (fun _ _ => rfl) fun s h => ?_
    simp only [Bool.and_eq_true, decide_eq_true_eq] at h
    obtain ⟨⟨⟨hr, hsends⟩, hst⟩, htec⟩ := h
    exact busGone_one hr hsends hst htec
  case recovered =>
    refine happens_intro (recovered ch) (fun _ _ => rfl) fun s h => ?_
    simp only [Bool.and_eq_true, decide_eq_true_eq] at h
    exact recovered_busOff h.1.1 h.1.2 h.2
  case claim =>
    refine happens_intro (claimTimeout ch) (fun _ _ => rfl) fun s h => ?_
    simp only [Bool.and_eq_true, decide_eq_true_eq, Bool.not_eq_true'] at h
    obtain ⟨⟨⟨hk, hlive⟩, hnew⟩, hdue⟩ := h
    exact claimTimeout_due hk hlive hnew hdue
  case wake =>
    refine happens_intro (wakePattern ch) (fun _ _ => rfl) fun s h => ?_
    simp only [Bool.and_eq_true] at h
    obtain ⟨⟨hen, hao⟩, hasleep⟩ := h
    have hwakes : (s.pwr.canWake.contains ch && s.pwr.ao && (s.time.asleep || (s.pwr.cycle.isSome && (s.canCh ch).standby))) = true := by
      rw [hen, hao, hasleep]; rfl
    exact if_pos hwakes
  case sleep =>
    refine happens_intro (sleepDiscard ch) (fun _ _ => rfl) fun s h => ?_
    simp only [Bool.and_eq_true, decide_eq_true_eq] at h
    exact sleepDiscard_due h.1.1 h.1.2 h.2

/-! Resets (R490 to R500). -/

/-- Settles O39. -/
theorem resetsComplete : Obligations.ResetsComplete := by
  unfold Obligations.ResetsComplete
  refine ⟨?power, ?pornLow, ?sysrst, ?watchdog, fun e => ?ordered, ?release, fun b => ?ready, fun e => ?trial⟩
  case power => exact happens_intro losePower (fun _ _ => rfl) fun _ _ => rfl
  case pornLow =>
    refine happens_intro pornLow (fun _ _ => rfl) fun s h => ?_
    simp only [Bool.and_eq_true, Bool.not_eq_true', Bool.and_eq_false_iff] at h
    obtain ⟨hporn, hruns⟩ := h
    have hgo : ¬(s.pwr.reset = true ∧ s.time.asleep = true) := by
      rintro ⟨hreset, hasleep⟩
      rw [hreset, hasleep] at hruns
      simp at hruns
    simp only [pornLow, hporn, if_neg hgo, Bool.false_eq_true, if_false]
  case sysrst =>
    refine happens_intro (fun s => if s.pwr.reset then s else
      warmReset 3 { s with pwr := { s.pwr with marker := false }, time := { s.time with asleep := false } }) (fun _ _ => rfl) fun s h => ?_
    exact if_neg (Bool.eq_false_iff.mp ((Bool.not_eq_true' _).mp h))
  case watchdog =>
    exact happens_awake (fun s => warmReset 4 { s with pwr := { s.pwr with marker := false } }) (fun _ _ => rfl) fun s h => ⟨h, rfl⟩
  case ordered =>
    refine happens_awake orderedReset (fun _ _ => rfl) fun s h => ?_
    simp only [Bool.and_eq_true, decide_eq_true_eq] at h
    obtain ⟨⟨hawake, hdue⟩, hcome⟩ := h
    exact ⟨hawake, by simp only [orderedReset, hdue, if_pos hcome, beforeReset]⟩
  case release =>
    refine happens_guarded (fun s => s.pwr.porn = true ∧ s.pwr.reset = true ∧ s.pwr.state ≠ 3) startUp (fun _ _ => rfl) fun s h => ?_
    simp only [Bool.and_eq_true, decide_eq_true_eq] at h
    exact ⟨⟨h.1.1, h.1.2, h.2⟩, rfl⟩
  case ready => exact happens_guarded (fun s => canReady s = true) (readyUp b) (fun _ _ => rfl) fun s h => ⟨h, rfl⟩
  case trial =>
    refine happens_awake trialEnd (fun _ _ => rfl) fun s h => ?_
    simp only [Bool.and_eq_true, decide_eq_true_eq] at h
    obtain ⟨⟨⟨hawake, hend⟩, hcome⟩, htrial⟩ := h
    have hover : trialOver s = true := by simp only [trialOver, hend, hcome, htrial, decide_true, Bool.and_self]
    exact ⟨hawake, if_pos hover⟩

/-! Sleep and wake (R501 to R511). -/

theorem sleepEntry_moved {s : State} (hawake : s.awake = true) (hmoved : s.pwr.moved = true) :
    (!s.awake || !s.pwr.moved) = false := by
  rw [hawake, hmoved]; rfl

theorem sleepEntry_watch {st e : Nat} {s : State} (hawake : s.awake = true) (hmoved : s.pwr.moved = true)
    (hcycle : s.pwr.cycle.isNone = true) (hmove : s.pwr.move = some (st, e)) (hst : st ≠ 3) : sleepEntry s = enterWatch s := by
  simp only [sleepEntry, sleepEntry_moved hawake hmoved, Bool.false_eq_true, if_false, Option.isNone_iff_eq_none.mp hcycle, hmove]
  split
  · next heq => exact absurd heq (by simp)
  · next heq =>
    simp only [Option.some.injEq, Prod.mk.injEq] at heq
    exact absurd heq.1 hst
  · rfl
  · next heq => exact absurd heq (by simp)

/-- Settles O40. -/
theorem sleepAndWakeComplete : Obligations.SleepAndWakeComplete := by
  unfold Obligations.SleepAndWakeComplete
  refine ⟨?cycleEnd, fun e => ?halt, fun st e => ?watch, fun w => ?wakes, fun r => ?renews, fun n p => ?source, fun n p => ?haltSource,
    fun e => ?timer, ?fsafeLow, ?fsafeHigh⟩
  case cycleEnd =>
    refine happens_intro sleepEntry (fun _ _ => rfl) fun s h => ?_
    simp only [Bool.and_eq_true, Option.isSome_iff_exists] at h
    obtain ⟨⟨hawake, hmoved⟩, n, hcycle⟩ := h
    simp only [sleepEntry, sleepEntry_moved hawake hmoved, Bool.false_eq_true, if_false, hcycle]
  case halt =>
    refine happens_intro sleepEntry (fun _ _ => rfl) fun s h => ?_
    simp only [Bool.and_eq_true, decide_eq_true_eq, Option.isNone_iff_eq_none] at h
    obtain ⟨⟨⟨hawake, hmoved⟩, hcycle⟩, hmove⟩ := h
    simp only [sleepEntry, sleepEntry_moved hawake hmoved, Bool.false_eq_true, if_false, hcycle, hmove]
  case watch =>
    refine happens_intro sleepEntry (fun _ _ => rfl) fun s h => ?_
    simp only [Bool.and_eq_true, decide_eq_true_eq] at h
    obtain ⟨⟨⟨⟨hawake, hmoved⟩, hcycle⟩, hmove⟩, hst⟩ := h
    exact sleepEntry_watch hawake hmoved hcycle hmove hst
  case wakes =>
    refine happens_intro watchCycle (fun _ _ => rfl) fun s h => ?_
    simp only [Bool.and_eq_true, decide_eq_true_eq] at h
    obtain ⟨⟨hw, hwatch⟩, hdue⟩ := h
    simp only [watchCycle, hw, hwatch, Bool.true_eq_false, false_or, if_neg (Nat.not_lt.mpr hdue), cycleFrame]
  case renews =>
    refine happens_intro renew (fun _ _ => rfl) fun s h => ?_
    simp only [Bool.and_eq_true, decide_eq_true_eq] at h
    obtain ⟨⟨hr, hwatch⟩, hdue⟩ := h
    simp only [renew, hr, hwatch, Bool.true_eq_false, false_or, if_neg (Nat.not_lt.mpr hdue)]
  case source =>
    refine happens_intro (wakeSource n) (fun _ _ => rfl) fun s h => ?_
    simp only [Bool.and_eq_true, decide_eq_true_eq, Bool.not_eq_true'] at h
    obtain ⟨⟨hp, hhalt⟩, hwatch⟩ := h
    simp only [wakeSource, hp, hhalt, hwatch, Bool.false_eq_true, if_false, if_true]
  case haltSource =>
    refine happens_intro (wakeSource n) (fun _ _ => rfl) fun s h => ?_
    simp only [Bool.and_eq_true, decide_eq_true_eq] at h
    simp only [wakeSource, h.1, h.2, if_true, haltWake]
  case timer =>
    refine happens_intro haltTimer (fun _ _ => rfl) fun s h => ?_
    simp only [Bool.and_eq_true, decide_eq_true_eq] at h
    obtain ⟨⟨he, hhalt⟩, hdue⟩ := h
    simp only [haltTimer, he, hhalt, hdue, and_self, if_true, haltWake]
  case fsafeLow =>
    refine happens_intro fsafeLow (fun _ _ => rfl) fun s h => ?_
    simp only [Bool.and_eq_true] at h
    obtain ⟨hawake, hao⟩ := h
    have hgo : ¬(s.pwr.ao = false ∨ (s.pwr.reset = true ∧ s.time.asleep = false)) := by
      simp [hao, State.awake_reset hawake]
    exact if_neg hgo
  case fsafeHigh =>
    exact happens_intro (fun s => { s with safe := { s.safe with fsafeLow := false } }) (fun _ _ => rfl) fun _ _ => rfl

/-! Clocks (01 R33 to R37, 02 R43). -/

/-- Settles O41. -/
theorem clockEventsComplete : Obligations.ClockEventsComplete := by
  unfold Obligations.ClockEventsComplete
  refine ⟨?floor, ?refLost, ?refBack, ?lfLost, ?lfProven, fun p => ?unlock, fun p => ?relock, ?core⟩
  case floor =>
    refine happens_intro floorWrite (fun _ _ => rfl) fun s h => ?_
    simp only [Bool.and_eq_true, decide_eq_true_eq, Bool.not_eq_true', Bool.and_eq_false_iff, Bool.not_eq_false'] at h
    obtain ⟨⟨hao, hruns⟩, hnear⟩ := h
    have hgo : ¬(s.pwr.ao = false ∨ (s.pwr.reset = true ∧ s.time.asleep = false) ∨ s.now + 2 ^ 39 < (s.time.floor.body).getD 0) := by
      rintro (h | ⟨hreset, hasleep⟩ | h)
      · rw [hao] at h; exact Bool.noConfusion h
      · rw [hreset, hasleep] at hruns; simp at hruns
      · exact absurd h (Nat.not_lt.mpr hnear)
    simp only [floorWrite]
    exact if_neg hgo
  case refLost =>
    refine happens_awake (fun s => raise 0x0104 [] (hit 0x130 0 { s with
      clk := { s.clk with refLost := true, onRc := true, rcFrom := if s.clk.onRc then s.clk.rcFrom else s.now } })) (fun _ _ => rfl) fun s h => ?_
    simp only [Bool.and_eq_true, Bool.not_eq_true'] at h
    exact ⟨h.1, by simp only [h.2, Bool.false_eq_true, if_false]⟩
  case refBack =>
    refine happens_intro refClockRestored (fun _ _ => rfl) fun s h => ?_
    simp only [refClockRestored, if_pos h]
  case lfLost =>
    refine happens_intro lfClockLost (fun _ _ => rfl) fun s h => ?_
    exact if_pos h
  case lfProven => exact happens_intro lfClockProven (fun _ _ => rfl) fun _ _ => rfl
  case unlock =>
    refine happens_intro (pllUnlock p) (fun _ _ => rfl) fun s h => ?_
    simp only [Bool.and_eq_true, Bool.not_eq_true'] at h
    simp only [pllUnlock, h.1, h.2, if_true, Bool.false_eq_true, if_false]
  case relock =>
    refine happens_intro (pllRelock p) (fun _ _ => rfl) fun s h => ?_
    simp only [Bool.and_eq_true, decide_eq_true_eq] at h
    simp only [pllRelock, h.1, Bool.not_true, Bool.false_eq_true, if_false, if_neg h.2]
  case core =>
    refine happens_intro (pllRelock 0) (fun _ _ => rfl) fun s h => ?_
    simp only [pllRelock, h, Bool.not_true, Bool.false_eq_true, if_false, if_true]

/-! Housekeeping (15 R421, 16 R448 to R450, 19 R512 to R520). -/

theorem housekeeping_due {ts : List (Option Int)} {rs : List Nat} {parity : Bool} {s : State} (h : roundDue s = true) :
    housekeeping ts rs parity s =
      (let s1 := ts.zipIdx.foldl (fun a p => logicSite p.2 p.1 a) s
       let s2 := [4, 5, 6].foldl (fun a n => farSite n a) s1
       let s3 := gazErrors (rs.zipIdx.foldl (fun a p => railRead p.2 p.1 a) { s2 with pwr := { s2.pwr with roundAt := s2.now } })
       if parity then setLine 7 s3 else s3) := by
  have hgo : ¬(!roundDue s) = true := by rw [h]; decide
  exact if_neg hgo

/-- Settles O42. -/
theorem housekeepingComplete : Obligations.HousekeepingComplete := by
  unfold Obligations.HousekeepingComplete
  refine ⟨fun ts rs => ?round, fun ts rs => ?parity, fun k v => ?far, fun n a => ?cooled, fun k => ?lock, ?commit, fun a => ?corrected,
    fun a => ?lost, fun a => ?passEnd⟩
  case round => exact happens_intro (housekeeping ts rs false) (fun _ _ => rfl) fun s h => housekeeping_due h
  case parity => exact happens_intro (housekeeping ts rs true) (fun _ _ => rfl) fun s h => housekeeping_due h
  case far =>
    refine happens_intro (farTempCheck k v) (fun _ _ => rfl) fun s h => ?_
    simp only [Bool.and_eq_true, Bool.not_eq_true'] at h
    obtain ⟨⟨⟨hup, hlink⟩, hthrottle⟩, hshut⟩ := h
    simp only [farTempCheck, hup, hlink, hthrottle, hshut, Bool.not_true, Bool.and_false, Bool.false_eq_true, if_false]
  case cooled =>
    refine happens_intro (shutdownEnd n) (fun _ _ => rfl) fun s h => ?_
    simp only [Bool.and_eq_true, decide_eq_true_eq] at h
    obtain ⟨⟨ha, hshut⟩, hdue⟩ := h
    simp only [shutdownEnd, ha, hshut, hdue, and_self, if_true]
  case lock =>
    refine happens_awake (lockEnds k) (fun _ _ => rfl) fun s h => ?_
    simp only [Bool.and_eq_true, decide_eq_true_eq] at h
    exact ⟨h.1.1, if_pos ⟨h.1.2, h.2⟩⟩
  case commit =>
    refine happens_intro periodicCommit (fun _ _ => rfl) fun s h => ?_
    exact if_pos h
  case corrected =>
    refine happens_intro (scrub a .corrected) (fun _ _ => rfl) fun s h => ?_
    simp only [scrub, h, Bool.not_true, Bool.false_eq_true, if_false]
    rfl
  case lost =>
    refine happens_intro (scrub a .uncorrectable) (fun _ _ => rfl) fun s h => ?_
    simp only [scrub, h, Bool.not_true, Bool.false_eq_true, if_false]
    rfl
  case passEnd =>
    refine happens_intro (scrub a .passEnd) (fun _ _ => rfl) fun s h => ?_
    simp only [scrub, h, Bool.not_true, Bool.false_eq_true, if_false]
    rfl

/-! The recorder (18). -/

/-- Settles O43. -/
theorem recorderInstantsComplete : Obligations.RecorderInstantsComplete := by
  unfold Obligations.RecorderInstantsComplete
  refine ⟨?second, ?both, ?upper, ?hourly, fun n m => ?maint, ?life⟩
  case second =>
    refine happens_intro gazSecondDue (fun _ _ => rfl) fun s h => ?_
    simp only [Bool.and_eq_true, decide_eq_true_eq] at h
    exact if_pos h
  case both =>
    refine happens_intro (gazPeriodDue 0) (fun _ _ => rfl) fun s h => ?_
    simp only [Bool.and_eq_true, decide_eq_true_eq] at h
    simp only [gazPeriodDue, h.1, if_pos h.2, Bool.true_eq_false, Nat.not_lt_zero, or_self, if_false, Nat.zero_ne_one]
  case upper =>
    refine happens_intro (gazPeriodDue 1) (fun _ _ => rfl) fun s h => ?_
    simp only [Bool.and_eq_true, decide_eq_true_eq] at h
    simp only [gazPeriodDue, h.1, if_pos h.2, Bool.true_eq_false, Nat.lt_irrefl, or_self, if_false, if_true]
  case hourly =>
    refine happens_intro hourlyDue (fun _ _ => rfl) fun s h => ?_
    simp only [Bool.and_eq_true, decide_eq_true_eq] at h
    obtain ⟨⟨hawake, hlater⟩, hplain⟩ := h
    simp only [hourlyDue, if_pos (And.intro hawake hlater), if_neg hplain]
  case maint =>
    refine happens_awake (maintFire n) (fun _ _ => rfl) fun s h => ?_
    simp only [Bool.and_eq_true, decide_eq_true_eq] at h
    obtain ⟨⟨hawake, hm⟩, hreached⟩ := h
    exact ⟨hawake, by simp only [maintFire, hm, hreached, Bool.true_eq_false, if_false]⟩
  case life =>
    refine happens_intro lifeCommitDue (fun _ _ => rfl) fun s h => ?_
    simp only [Bool.and_eq_true, decide_eq_true_eq] at h
    exact if_pos ⟨h.1.1, h.1.2, h.2⟩

/-! The plant frame (01, 02, 04). -/

theorem lapseFrame_missed {n : Nat} {s : State} (hdue : frameDue s = some n) (hlive : s.rpl.active = false)
    (hopen : s.frm.decided.isNone = true) (hfirst : s.frm.missed.isNone = true) (hpast : s.applyAt n ≤ s.now) :
    lapseFrame s = missFrame n s := by
  have hgo : (s.rpl.active || s.frm.decided.isSome || s.frm.missed.isSome || decide (s.now < s.applyAt n)) = false := by
    rw [hlive, Option.isNone_iff_eq_none.mp hopen, Option.isNone_iff_eq_none.mp hfirst, decide_eq_false (Nat.not_lt.mpr hpast)]
    rfl
  simp only [lapseFrame, hdue]
  exact if_neg (Bool.eq_false_iff.mp hgo)

theorem endedOk_eq_some {o : Next} {e : State × Nat × Nat} (h : endedOk o = some e) : o = .done e.1 stOk e.2.1 e.2.2 := by
  cases o with
  | done s st prog r =>
    simp only [endedOk] at h
    split at h
    · next hst =>
      obtain rfl := Option.some.inj h
      rw [hst]
    · exact absurd h (by simp)
  | wait s c => exact absurd h (by simp [endedOk])

theorem settleNext_ok {c : Cmd} {o : Next} {e : State × Nat × Nat} (h : endedOk o = some e) (s : State) :
    settleNext c o s = finish c stOk e.2.1 e.2.2 e.1 := by
  rw [endedOk_eq_some h]
  simp only [settleNext, resultAtE, true_or, if_true]

/-- A long-running command whose work ends well completes with it. -/
theorem completion_ok {src : Src} {tag : Nat} {c : Cmd} {f : Cmd → State → Next} {e : State × Nat × Nat} {s : State}
    (hc : (s.cmds.find? fun x => x.d.src == src && x.d.tag == tag && (longWork x.op).isSome) = some c) (hf : longWork c.op = some f)
    (he : endedOk (f c s) = some e) : completion src tag s = finish c stOk e.2.1 e.2.2 e.1 := by
  simp only [completion, hc, hf, settleNext_ok he]

/-- Settles O44. -/
theorem frameEventsComplete : Obligations.FrameEventsComplete := by
  unfold Obligations.FrameEventsComplete
  refine ⟨fun tu eu ce n => ?decides, fun n ovr outs => ?applies, fun n => ?misses, fun k m st ca me => ?runs, fun src tag c e => ?legend,
    fun src tag c e => ?datum⟩
  case decides =>
    refine happens_intro (decisionsDue tu eu ce) (fun _ _ => rfl) fun s h => ?_
    simp only [Bool.and_eq_true, decide_eq_true_eq] at h
    simp only [decisionsDue, h.1, if_pos h.2]
  case applies =>
    refine happens_intro applyNow (fun _ _ => rfl) fun s h => ?_
    simp only [Bool.and_eq_true, decide_eq_true_eq] at h
    obtain ⟨⟨hout, hawake⟩, hdue⟩ := h
    simp only [applyNow, hout, hawake, Bool.true_eq_false, false_or, if_neg (Nat.not_lt.mpr hdue)]
  case misses =>
    refine happens_intro applyNow (fun _ _ => rfl) fun s h => ?_
    simp only [Bool.and_eq_true, decide_eq_true_eq, Bool.not_eq_true'] at h
    obtain ⟨⟨⟨⟨hopen, hdue⟩, hlive⟩, hfirst⟩, hpast⟩ := h
    have happly : applyNow s = lapseFrame s := by simp only [applyNow, Option.isNone_iff_eq_none.mp hopen]
    exact happly.trans (lapseFrame_missed hdue hlive hopen hfirst hpast)
  case runs =>
    refine happens_awake (fun s => runEnd k (lapseFrame s)) (fun _ _ => rfl) fun s h => ?_
    simp only [Bool.and_eq_true, decide_eq_true_eq, Bool.not_eq_true'] at h
    obtain ⟨⟨hawake, hpower⟩, hlane⟩ := h
    exact ⟨hawake, by simp only [runEnd, hpower, hlane, Bool.false_eq_true, if_false]⟩
  case legend =>
    refine happens_awake (completion src tag) (fun _ _ => rfl) fun s h => ?_
    simp only [Bool.and_eq_true, decide_eq_true_eq] at h
    obtain ⟨⟨⟨hawake, hc⟩, hop⟩, he⟩ := h
    exact ⟨hawake, completion_ok (f := commitLegend) hc (by rw [hop]; rfl) he⟩
  case datum =>
    refine happens_awake (completion src tag) (fun _ _ => rfl) fun s h => ?_
    simp only [Bool.and_eq_true, decide_eq_true_eq] at h
    obtain ⟨⟨⟨hawake, hc⟩, hop⟩, he⟩ := h
    exact ⟨hawake, completion_ok (f := commitDatum) hc (by rw [hop]; rfl) he⟩

end Sys2Proof.Machine
end
